-- ==== Sys2Proof/Word.lean ====
section
/-! DEFINITION. The two word types of the block: the 64-bit dictionary word of R54 and R9 (00_scope.md,
03_object_dictionary.md) and the octet. -/

namespace Sys2Proof

/-- One member of an object: one 64-bit word (R54). -/
abbrev Word := BitVec 64

/-- One octet of an on-air, wire or store format. -/
abbrev Byte := BitVec 8

end Sys2Proof
end

