-- ==== Sys2Proof/Syntax.lean ====
section
/-! DEFINITION. The commands of the block, one constructor for each row of the opcode table, and what their operands are. -/

namespace Sys2Proof

/-- An object address (R54). -/
structure Ref where
  idx : Nat
  inst : Nat
  mem : Nat
  deriving DecidableEq, Repr

/-- Who makes an access: an aperture master of R92 and Table FAULT-2, a DDP session slot, or the device itself. -/
inductive Who where
  | ap (m : Nat)
  | ddp (slot : Nat)
  | dev
  deriving DecidableEq, Repr

/-- A DDP message as it reaches the device (R71, R74): its transport (0 UDP, 1 mailbox, 2 mesh), the peer address and
the UDP port, mailbox instance or node index it came from, the Ethernet port of a UDP datagram (4 MGMT), its header and
payload words, the payload as encrypted where PROT is set, and the octets of the MIC that follow it then (R75). -/
structure DdpMsg where
  transport : Nat
  peerHi : Word
  peerLo : Word
  bind : Nat
  eth : Nat
  words : List Word
  mic : List Nat
  deriving DecidableEq, Repr

/-- A link-layer address. -/
inductive Addr where
  | absent
  | short (a : Nat)
  | ext (e : Nat)
  deriving DecidableEq, Repr

/-- A frame of IEEE 802.15.4-2020 as that standard parses and builds it: frame type (0 beacon, 1 data, 2 acknowledgement, 3
MAC command, 5 multipurpose), version, sequence number, acknowledgement request, frame pending, the PAN ID the frame carries
or implies, its addresses, security level, key index (none: Key Identifier Mode 0) and frame counter (none when suppressed),
the Time Correction IE (value in µs and NACK bit), the CSL IE (phase and period), the RIT IE, the Rendezvous Time IE, the
octets that security authenticates, the payload, protected and followed by its MIC where the frame is secured, whether a multipurpose
frame has the long frame control, whether its sequence number is suppressed, and the other header IEs with their IDs. -/
structure MacFrame where
  type : Nat
  ver : Nat
  seq : Nat
  ackReq : Bool
  pend : Bool
  pan : Option Nat
  dst : Addr
  src : Addr
  level : Nat
  kidx : Option Nat
  fc : Option Nat
  corr : Option (Int × Bool)
  csl : Option (Nat × Nat)
  rit : Bool
  rz : Option Nat
  auth : List Nat
  body : List Nat
  long : Bool
  noSeq : Bool
  ies : List (Nat × List Nat)
  deriving DecidableEq, Repr

/-- What an enhanced beacon says (R220): its ASN, the full template if it is not template 0, the hopping sequence ID and list,
and the slotframes advertised: handle, length, and for each link its slot offset, channel offset and options. -/
structure EbInfo where
  asn : Nat
  template : Option (List Nat)
  hopId : Nat
  hops : List Nat
  slotframes : List (Nat × Nat × List (Nat × Nat × Nat))
  deriving DecidableEq, Repr

/-- A PTP message as IEEE 1588-2019 parses and builds it: messageType, domainNumber, sdoId, the sender's clockIdentity and
portNumber, sequenceId, twoStepFlag, its timestamp in ns, its correctionField in units of 2^-16 ns, and the requesting port
identity of a response. -/
structure PtpMsg where
  type : Nat
  domain : Nat
  sdo : Nat
  id : Nat
  port : Nat
  seq : Nat
  twoStep : Bool
  time : Nat
  corr : Int
  reqId : Nat
  reqPort : Nat
  deriving DecidableEq, Repr

/-- A timed command of an RF tile (R12). -/
inductive TileCmd where
  | retune (freq : Nat)
  | key
  | unkey
  | antenna (tx : Bool)
  | blank (on : Bool)
  deriving DecidableEq, Repr

/-- A command. Its first operand `t` is the instant at which it comes, in SCLK cycles of 1 ns (true time never goes back: an
earlier `t` stands for now). The other operands say what the outside does, or what it answers. DESIGN CHOICE: log 3. -/
inductive Instr where
  | objectWrite (t : Nat) (w : Who) (r : Ref) (vals : List Word)
  | setAliasWrite (t : Nat) (m : Nat) (r : Ref) (v : Word)
  | clearAliasWrite (t : Nat) (m : Nat) (r : Ref) (v : Word)
  | apertureError (t : Nat) (m : Nat) (addr : Nat) (size : Nat) (write : Bool)
  | agentAccessTimeout (t : Nat) (w : Who)
  | wideValueRead (t : Nat) (m : Nat) (r : Ref)
  | hello (t : Nat) (msg : DdpMsg)
  | auth (t : Nat) (msg : DdpMsg)
  | authTimeout (t : Nat) (k : Nat)
  | authLockoutEnd (t : Nat) (key : Nat)
  | close (t : Nat) (msg : DdpMsg)
  | keepalive (t : Nat) (msg : DdpMsg)
  | keepaliveTimeout (t : Nat) (k : Nat)
  | sessionCloseComplete (t : Nat) (k : Nat)
  | sKill (t : Nat) (w : Who) (k : Nat)
  | read (t : Nat) (msg : DdpMsg)
  | write (t : Nat) (msg : DdpMsg)
  | setBits (t : Nat) (msg : DdpMsg)
  | clearBits (t : Nat) (msg : DdpMsg)
  | txnOpen (t : Nat) (msg : DdpMsg)
  | txnCommit (t : Nat) (msg : DdpMsg)
  | txnAbort (t : Nat) (msg : DdpMsg)
  | subscribe (t : Nat) (msg : DdpMsg)
  | ddpEventSend (t : Nat) (k : Nat)
  | mbxDoorbell (t : Nat) (w : Who) (k : Nat) (msg : List Word) (bad : Bool) (rspBad : Bool)
  | aOpen (t : Nat) (m : Nat)
  | aBind (t : Nat) (m : Nat) (h : Word)
  | aCommit (t : Nat) (m : Nat)
  | aAbort (t : Nat) (m : Nat)
  | tLinkWrite (t : Nat) (w : Who) (h : Nat) (v : Word)
  | txnLockTimeout (t : Nat)
  | txnLockGranted (t : Nat)
  | txnApply (t : Nat) (h : Nat)
  | txnIdleTimeout (t : Nat)
  | txnOutcomeQueryTimer (t : Nat) (h : Nat)
  | txnOutcomeTimeout (t : Nat) (h : Nat)
  | wWrite (t : Nat) (w : Who) (n : Word)
  | wSeal (t : Nat) (w : Who)
  | slErase (t : Nat) (w : Who) (k : Nat)
  | modeApply (t : Nat) (w : Who)
  | tileTimedCommand (t : Nat) (p : Nat) (u : Nat) (c : TileCmd)
  | rxBlockCrcFail (t : Nat) (p : Nat)
  | txBlockCrcFail (t : Nat) (p : Nat)
  | pEnable (t : Nat) (w : Who) (p : Nat) (v : Word)
  | rxSynthUnlock (t : Nat) (p : Nat)
  | portStarted (t : Nat) (p : Nat) (pow : Int)
  | tsCalibrationDone (t : Nat) (p : Nat) (settled : Bool)
  | tsCalibrationFail (t : Nat) (p : Nat)
  | coexGrantSample (t : Nat) (p : Nat) (ball : Bool) (held : Nat)
  | keyingStart (t : Nat) (p : Nat) (samples : List (Int × Int))
  | txFrameEnd (t : Nat) (p : Nat)
  | coexGrantWithdrawn (t : Nat) (tile : Nat) (held : Nat) (gaps : List Nat)
  | maskViolation (t : Nat) (p : Nat) (bin : Int) (first : List (Int × Nat)) (second : List (Int × Nat))
  | pTxUnlock (t : Nat) (w : Who) (p : Nat)
  | agcBreak (t : Nat) (p : Nat) (clipped : Nat)
  | agcSettlingEnd (t : Nat) (p : Nat) (pow : Int)
  | lnaBypassChange (t : Nat) (p : Nat) (power : Int)
  | wakePatternAccepted (t : Nat) (preamble : Nat) (delimiter : Nat) (word : Nat)
  | laneBindCell (t : Nat) (p : Nat)
  | laneUnbind (t : Nat) (p : Nat)
  | preambleDetect (t : Nat) (l : Nat) (symbols : Nat) (lvl : Int) (noise : Int)
  | preambleCapture (t : Nat) (l : Nat) (margin : Int)
  | syncMiss (t : Nat) (l : Nat)
  | sfdDetect (t : Nat) (l : Nat) (fec : Bool) (sync : Nat) (lvl : Int) (cfo : Int)
  | phrReceived (t : Nat) (l : Nat) (good : Bool) (len : Nat) (modeSwitch : Bool) (sel : Nat) (fcs4 : Bool)
  | rxFrameEnd (t : Nat) (l : Nat) (psdu : List Nat) (soft : List Int)
  | edDetectorFree (t : Nat) (p : Nat)
  | edResult (t : Nat) (req : Nat) (power : Int)
  | dlHeaderDecode (t : Nat) (l : Nat) (chips : List Int)
  | dlCopyCombine (t : Nat)
  | dlDecodeGrant (t : Nat)
  | dlDecodeEnd (t : Nat) (d : Nat)
  | dlGroupExpire (t : Nat) (g : Nat)
  | tsRun (t : Nat) (w : Who) (v : Word)
  | txDecision (t : Nat) (p : Nat)
  | txRetuneInstant (t : Nat) (p : Nat)
  | ackWaitBind (t : Nat) (p : Nat)
  | ackTimeout (t : Nat) (p : Nat)
  | rxRecord (t : Nat) (tile : Nat) (f : Option MacFrame) (foreign : Bool)
  | dlSurplusReport (t : Nat)
  | ebPeriod (t : Nat) (p : Nat)
  | wheelBucket (t : Nat)
  | snFollowOn (t : Nat) (n : Nat)
  | snDlNextCopy (t : Nat) (n : Nat)
  | snAckTimeout (t : Nat) (n : Nat)
  | ritRequestMissed (t : Nat) (n : Nat)
  | psTtlSweep (t : Nat)
  | overflowGrant (t : Nat)
  | snEn (t : Nat) (w : Who) (v : Word)
  | snNodeConfigWrite (t : Nat) (w : Who) (n : Nat) (j : Nat) (v : Word)
  | snCmdLeaveUnreachable (t : Nat) (w : Who) (n : Nat)
  | snCmdFreeFrames (t : Nat) (w : Who) (n : Nat)
  | snCmdResetEstimate (t : Nat) (w : Who) (n : Nat)
  | tallyBinClose (t : Nat)
  | crCmd (t : Nat) (w : Who) (k : Nat)
  | ntClaimTimeout (t : Nat) (k : Nat)
  | ntCmdRemove (t : Nat) (w : Who) (n : Nat)
  | ntCmdClearCounts (t : Nat) (w : Who) (n : Nat)
  | pipelineUplink (t : Nat) (k : Nat)
  | pipelineDownlink (t : Nat) (k : Nat)
  | pipelineHostPacket (t : Nat) (f : Nat) (mf : Option MacFrame)
  | reasmTimeout (t : Nat) (k : Nat)
  | ntRemoteTimeout (t : Nat) (k : Nat)
  | nodeWindowAccess (t : Nat) (m : Nat) (win : Nat) (mem : Nat) (write : Bool) (v : Word)
  | shaperRefill (t : Nat)
  | meterRefill (t : Nat)
  | ethRelease (t : Nat) (e : Nat)
  | meshRelease (t : Nat) (q : Nat)
  | hostRelease (t : Nat) (q : Nat)
  | fabricRelease (t : Nat) (q : Nat)
  | gateEntryChange (t : Nat) (e : Nat)
  | gateBankSwitch (t : Nat) (e : Nat)
  | cellsFreed (t : Nat) (k : Nat)
  | kiWrite (t : Nat) (w : Who) (n : Word)
  | kiCmdImport (t : Nat) (w : Who)
  | kiCmdGenerate (t : Nat) (w : Who)
  | kiCmdDerive (t : Nat) (w : Who)
  | keyCommandDone (t : Nat)
  | kZeroize (t : Nat) (w : Who) (k : Nat)
  | keyPromote (t : Nat) (k : Nat)
  | lcRequest (t : Nat) (w : Who)
  | cryptoOpDone (t : Nat)
  | leapSweep (t : Nat) (upTo : Nat)
  | joinSegment (t : Nat)
  | joinReasmTimeout (t : Nat)
  | joinVerifyDone (t : Nat) (id : Nat)
  | joinRelay (t : Nat)
  | joinStepTimeout (t : Nat) (id : Nat)
  | joinLingerExpiry (t : Nat) (id : Nat)
  | jEnWrite (t : Nat) (w : Who) (n : Word)
  | jEnSeal (t : Nat) (w : Who)
  | isWrite (t : Nat) (w : Who) (k : Nat) (n : Word)
  | isSeal (t : Nat) (w : Who) (k : Nat)
  | atCmd (t : Nat) (w : Who)
  | atReportReady (t : Nat)
  | imWrite (t : Nat) (w : Who) (k : Nat) (n : Word)
  | imSeal (t : Nat) (w : Who) (k : Nat)
  | imSealDone (t : Nat) (k : Nat)
  | imErase (t : Nat) (w : Who) (k : Nat)
  | caCmdStart (t : Nat) (w : Who) (c : Nat)
  | caCmdPause (t : Nat) (w : Who) (c : Nat)
  | caCmdResume (t : Nat) (w : Who) (c : Nat)
  | caCmdAbort (t : Nat) (w : Who) (c : Nat)
  | caCmdRelease (t : Nat) (w : Who) (c : Nat)
  | caMulticastStart (t : Nat) (c : Nat)
  | caBlockSend (t : Nat) (c : Nat) (p : Nat)
  | caStatus (t : Nat) (n : Nat) (msg : List Nat)
  | caStatusTimeout (t : Nat) (c : Nat) (n : Nat)
  | ethRxFrame (t : Nat) (e : Nat) (f : List Nat) (fcsOk : Bool)
  | ethLinkUp (t : Nat) (e : Nat) (speed : Nat)
  | ethLinkDown (t : Nat) (e : Nat)
  | mdioRead (t : Nat) (w : Who) (v : Word)
  | mdioWrite (t : Nat) (w : Who) (v : Word)
  | mdioDone (t : Nat) (ans : Option Nat)
  | tuCmdStep (t : Nat) (w : Who)
  | tuCmdSet (t : Nat) (w : Who)
  | ptpSyncTimer (t : Nat) (e : Nat)
  | ptpDelayReqTimer (t : Nat) (e : Nat)
  | ptpPdelayReqTimer (t : Nat) (e : Nat)
  | ptpSyncRx (t : Nat) (e : Nat) (m : PtpMsg)
  | ptpFollowUpRx (t : Nat) (e : Nat) (m : PtpMsg)
  | ptpDelayReqRx (t : Nat) (e : Nat) (m : PtpMsg)
  | ptpDelayRespRx (t : Nat) (e : Nat) (m : PtpMsg)
  | ptpPdelayReqRx (t : Nat) (e : Nat) (m : PtpMsg)
  | ptpPdelayRespRx (t : Nat) (e : Nat) (m : PtpMsg) (u3 : Nat)
  | ppState (t : Nat) (w : Who) (e : Nat) (v : Word)
  | ppParentWrite (t : Nat) (w : Who) (e : Nat) (id : Bool) (v : Word)
  | svLossTimeout (t : Nat)
  | svSource (t : Nat) (w : Who) (v : Word)
  | tqEntryRead (t : Nat) (m : Nat) (q : Nat)
  | ppsInEdge (t : Nat) (rising : Bool)
  | ppsInLost (t : Nat)
  | ppsOutPulse (t : Nat)
  | ppsEn (t : Nat) (w : Who)
  | trefValidityChange (t : Nat) (hz : Nat)
  | heartbeatPeriod (t : Nat) (refresh : Bool)
  | heartbeatStop (t : Nat)
  | grantLost (t : Nat) (cause : Nat) (held : Nat)
  | grantSeen (t : Nat) (fence : Bool) (gap : Nat) (held : Nat)
  | pairAnnounceRepeat (t : Nat)
  | mooringImageStart (t : Nat)
  | mooringPassEnd (t : Nat) (nodes : Nat) (buckets : Nat)
  | mooringFreeze (t : Nat) (ns : Nat)
  | moorStreamTimeout (t : Nat)
  | prImageAgeExpiry (t : Nat)
  | prTimeHoldExpiry (t : Nat)
  | prCmdImage (t : Nat) (w : Who)
  | prCmdYield (t : Nat) (w : Who)
  | prCmdCancelYield (t : Nat) (w : Who)
  | prYieldExpiry (t : Nat)
  | timeSyncTimer (t : Nat)
  | pairTimeLoopTimeout (t : Nat)
  | pairStatusTimer (t : Nat)
  | pairStatusTimeout (t : Nat)
  | witStartWaitExpiry (t : Nat)
  | witHeartbeatAlive (t : Nat) (x : Nat) (ps : List (Nat × Nat))
  | witHeartbeatLost (t : Nat) (x : Nat)
  | witTakeTimeout (t : Nat)
  | witStateCode (t : Nat) (x : Nat) (code : Nat) (held : Nat)
  | witCmd (t : Nat) (w : Who)
  | witFenceGapExpiry (t : Nat)
  | witFenceRelease (t : Nat) (x : Nat)
  | fbEn (t : Nat) (w : Who) (l : Nat) (v : Word)
  | fbLaneLock (t : Nat) (l : Nat) (lanes : List Nat)
  | fbTrainTimeout (t : Nat) (l : Nat)
  | fbHelloTimer (t : Nat) (l : Nat)
  | fbHelloRx (t : Nat) (l : Nat) (ws : List Nat)
  | fbRefusedExpiry (t : Nat) (l : Nat)
  | fbLinkDown (t : Nat) (l : Nat) (cause : Nat)
  | fbPacketRx (t : Nat) (l : Nat) (ws : List Nat)
  | fbNakRx (t : Nat) (l : Nat) (ws : List Nat)
  | fbStatusRx (t : Nat) (l : Nat) (ws : List Nat)
  | fbStatusTimer (t : Nat) (l : Nat)
  | topoTimer (t : Nat)
  | arbDecide (t : Nat) (k : Nat) (waiting : List (Nat × Nat))
  | dramEccError (t : Nat) (chan : Nat) (off : Nat) (single : Bool)
  | dramPatrolScrub (t : Nat) (found : List (Nat × Nat × Bool))
  | hfPop (t : Nat) (m : Nat) (f : Nat)
  | hfStart (t : Nat) (m : Nat) (f : Nat) (v : Word)
  | hfData (t : Nat) (m : Nat) (f : Nat) (v : Word)
  | hfEnd (t : Nat) (m : Nat) (f : Nat) (v : Word)
  | hfAbort (t : Nat) (m : Nat) (f : Nat)
  | hfHeldWriteDone (t : Nat) (f : Nat)
  | hfStallTimeout (t : Nat) (f : Nat)
  | hfNoticeTimer (t : Nat) (f : Nat)
  | hfMode (t : Nat) (w : Who) (f : Nat) (v : Word)
  | hrCmd (t : Nat) (w : Who) (k : Nat) (items : List Word) (bad : Bool)
  | hrHostIdx (t : Nat) (w : Who) (k : Nat) (v : Word) (items : List Word) (bad : Bool)
  | ringBusError (t : Nat) (k : Nat)
  | pcieFlr (t : Nat)
  | perstNAssert (t : Nat)
  | perstNRelease (t : Nat)
  | pcieLinkChange (t : Nat) (up : Bool) (width : Nat) (rate : Nat)
  | irqEdge (t : Nat) (src : Nat)
  | irqLevelChange (t : Nat) (src : Nat) (high : Bool)
  | irqSoftwareSet (t : Nat) (w : Who) (j : Nat) (mask : Word)
  | irqSoftwareClear (t : Nat) (w : Who) (j : Nat) (mask : Word)
  | irqMode (t : Nat) (w : Who) (v : Word)
  | cxClaim (t : Nat) (m : Nat) (x : Nat)
  | cxComplete (t : Nat) (m : Nat) (x : Nat) (src : Word)
  | msixUnmask (t : Nat) (v : Nat)
  | evPop (t : Nat) (m : Nat)
  | timerTick (t : Nat) (k : Nat)
  | timerWrap (t : Nat) (k : Nat)
  | timerMatch (t : Nat) (k : Nat)
  | tmCmd (t : Nat) (w : Who) (k : Nat)
  | tmCtrl (t : Nat) (w : Who) (k : Nat) (v : Word)
  | vbatPor (t : Nat) (mv : Nat) (tied : Bool)
  | railsGood (t : Nat) (pins : Nat) (mv : List Nat)
  | brownOut (t : Nat) (mv : List (Nat × Nat))
  | resetNAssert (t : Nat) (pins : Nat) (held : Nat)
  | resetNRelease (t : Nat) (pins : Nat) (held : Nat)
  | pllLock (t : Nat) (d : Nat)
  | clockGood (t : Nat) (d : Nat) (pins : Nat)
  | dramTrained (t : Nat) (pins : Nat) (cap : Nat) (a : List Nat) (b : List Nat)
  | bootImageVerified (t : Nat) (bank : Nat)
  | bootFailed (t : Nat)
  | btWrite (t : Nat) (w : Who) (n : Word)
  | btDone (t : Nat) (w : Who) (len : Word)
  | clockWindow (t : Nat) (meas : List (Nat × Nat))
  | smWatchdogExpiry (t : Nat) (last : Nat)
  | smLockup (t : Nat) (cycles : Nat)
  | acWatchdogExpiry (t : Nat) (c : Nat)
  | acLockup (t : Nat) (c : Nat) (cycles : Nat)
  | acWdKick (t : Nat) (w : Who) (c : Nat)
  | legacyReset (t : Nat) (w : Who)
  | rsReqCore (t : Nat) (w : Who) (c : Nat) (hold : Bool)
  | rsReqBlock (t : Nat) (w : Who) (blk : Nat) (hold : Bool)
  | rsReqSystem (t : Nat) (w : Who)
  | rsReqChip (t : Nat) (w : Who)
  | rsReqBackup (t : Nat) (w : Who)
  | rsRelease (t : Nat) (w : Who) (reach : Nat) (target : Nat)
  | debugResetRequest (t : Nat) (hart : Nat) (active : Bool) (pins : Nat)
  | blockResetAssert (t : Nat) (blk : Nat) (iso : Nat)
  | wrapperOpen (t : Nat) (blk : Nat)
  | coreReset (t : Nat) (c : Nat)
  | dozeEntry (t : Nat) (wfi : Nat)
  | dozeExit (t : Nat) (halt : Bool)
  | pfailWarning (t : Nat) (mv : Nat)
  | mainsGood (t : Nat) (mv : Nat) (held : Nat)
  | holdAfterExpiry (t : Nat)
  | holdExit (t : Nat) (mv : Nat)
  | pwCmd (t : Nat) (w : Who)
  | tamperLatch (t : Nat) (n : Nat) (held : Nat)
  | bkTamperClr (t : Nat) (w : Who) (high : Nat)
  | rtcCmdSet (t : Nat) (w : Who)
  | rtcCmdInvalidate (t : Nat) (w : Who)
  | rtcAutoSet (t : Nat)
  | crystalFail (t : Nat)
  | thermalSample (t : Nat) (temp : Int)
  | upWrite (t : Nat) (w : Who) (n : Word)
  | upCmdVerify (t : Nat) (w : Who)
  | upVerifyDone (t : Nat) (flashOk : Bool)
  | upCmdArm (t : Nat) (w : Who)
  | upCmdDisarm (t : Nat) (w : Who)
  | upCmdDiscard (t : Nat) (w : Who)
  | upCmdConfirm (t : Nat) (w : Who)
  | upActivation (t : Nat) (rf : Nat) (bh : Nat)
  | ledgerAudit (t : Nat) (upset : List Nat)
  | accessViolation (t : Nat) (m : Nat) (kind : Nat) (access : Nat) (addr : Nat)
  | vrWordRead (t : Nat) (m : Nat) (v : Nat)
  | vrRelease (t : Nat) (w : Who) (v : Word)
  | fatalError (t : Nat) (cause : Nat) (detail : Nat)
  | ftDeclare (t : Nat) (w : Who) (v : Word)
  | dumpComplete (t : Nat) (abandoned : Bool) (harts : List Nat) (sram : List Nat)
  | fdErase (t : Nat) (w : Who) (e : Word)
  | peEn (t : Nat) (w : Who) (k : Nat) (v : Word)
  | perturbationApply (t : Nat) (point : Nat) (inst : Nat)
  | fxFuseBurn (t : Nat) (w : Who)
  | fxRawRead (t : Nat) (w : Who)
  | fxRawWrite (t : Nat) (w : Who)
  | debugHalt (t : Nat) (hart : Nat)
  | debugResume (t : Nat) (hart : Nat)
  | debugSystemBusAccess (t : Nat) (addr : Nat) (write : Bool) (v : Word)
  | tapIdcode (t : Nat)
  | tapSamplePreload (t : Nat) (cells : List Nat)
  | tapExtest (t : Nat)
  | tapHighz (t : Nat)
  | tapClamp (t : Nat)
  | tapDtmcs (t : Nat)
  | tapDmi (t : Nat)
  | tapBypass (t : Nat)
  | readClears (t : Nat) (m : Nat) (r : Ref)
  | resetPulseEnd (t : Nat) (pins : Nat)
  | bootImageRefused (t : Nat)
  deriving DecidableEq, Repr

end Sys2Proof
end

