-- ==== Sys2Proof/Decode.lean ====
section
/-! DEFINITION. Words that spell commands: the opcode table gives no row any bits, so no word spells a command. -/

namespace Sys2Proof

/-- The command that a word spells by the bits of the opcode table: none. DESIGN CHOICE: log 9. -/
def decodeTableWord (_nbits _w : Nat) : Option Instr := none

end Sys2Proof
end

