-- ==== Sys2Proof/Machine/Bits.lean ====
section
/-! DEFINITION. Bit fields, signed numbers and octets of dictionary words (00_scope.md, Bits, words and byte order;
R9, R58). -/

namespace Sys2Proof.Machine

/-- Bits `[hi:lo]` of a number. -/
def fld (x hi lo : Nat) : Nat := x / 2 ^ lo % 2 ^ (hi - lo + 1)

/-- `x` with bits `[hi:lo]` replaced by `v`. -/
def setFld (x hi lo v : Nat) : Nat :=
  x - fld x hi lo * 2 ^ lo + v % 2 ^ (hi - lo + 1) * 2 ^ lo

/-- Bit `i` of a number. -/
def bit? (x i : Nat) : Bool := x / 2 ^ i % 2 == 1

/-- `x` with bit `i` set. -/
def setBit (x i : Nat) : Nat := if bit? x i then x else x + 2 ^ i

/-- `x` with bit `i` clear. -/
def clrBit (x i : Nat) : Nat := if bit? x i then x - 2 ^ i else x

/-- A Boolean as the 0 or 1 of a BOOL object (Table DICT-1). -/
def b2n (b : Bool) : Nat := if b then 1 else 0

/-- The number a two's complement field of `w` bits holds. -/
def sgn (w x : Nat) : Int :=
  let y := x % 2 ^ w
  if y < 2 ^ (w - 1) then (y : Int) else (y : Int) - 2 ^ w

/-- A signed number as a two's complement field of `w` bits. -/
def unsgn (w : Nat) (i : Int) : Nat := (i % (2 ^ w : Int)).toNat

/-- Octet `k` of little-endian words (R9). -/
def octet (ws : List Word) (k : Nat) : Nat := ((ws.getD (k / 8) 0).toNat / 2 ^ (8 * (k % 8))) % 256

/-- The number held by the `n` octets from `k`, little-endian. -/
def le (ws : List Nat) : Nat := ws.foldr (fun b acc => b + 256 * acc) 0

/-- The number held by octets, first octet most significant. -/
def be (ws : List Nat) : Nat := ws.foldl (fun acc b => 256 * acc + b) 0

/-- The `n` octets of a number, first octet most significant. -/
def beOctets (n x : Nat) : List Nat := (List.range n).map fun k => x / 2 ^ (8 * (n - 1 - k)) % 256

/-- The `n` octets of a number, least significant first. -/
def leOctets (n x : Nat) : List Nat := (List.range n).map fun k => x / 2 ^ (8 * k) % 256

/-- The octets of little-endian words, in order. -/
def wordsToOctets (ws : List Word) : List Nat := ws.flatMap fun w => leOctets 8 w.toNat

/-- Octets as little-endian words, the last one filled with zero octets (Table DICT-1, OCTETS). -/
def octetsToWords : List Nat → List Word
  | [] => []
  | a :: b :: c :: d :: e :: f :: g :: h :: rest =>
    BitVec.ofNat 64 (le [a, b, c, d, e, f, g, h]) :: octetsToWords rest
  | short => [BitVec.ofNat 64 (le short)]

/-- The number of one bits among the lowest 64. -/
def popcount (x : Nat) : Nat := ((List.range 64).filter fun i => bit? x i).length

/-- The positions below `n` of the one bits of `x`, lowest first. -/
def onesOf (n x : Nat) : List Nat := (List.range n).filter fun i => bit? x i

/-- Bitwise operations on words held as numbers. -/
def bor (a b : Nat) : Nat := a ||| b
def band (a b : Nat) : Nat := a &&& b
def bclr (a b : Nat) : Nat := a - (a &&& b)
def bxor (a b : Nat) : Nat := a ^^^ b

/-- `x` before the first element that is not before it. -/
def insertBy {α : Type} (le : α → α → Bool) (x : α) : List α → List α
  | [] => [x]
  | y :: ys => if le x y then x :: y :: ys else y :: insertBy le x ys

/-- The elements in an order, equal ones as they stood. -/
def sortBy {α : Type} (le : α → α → Bool) (l : List α) : List α := l.foldr (insertBy le) []

/-- Ceiling division. DEDUCED: log 55. -/
def cdiv (a b : Nat) : Nat := (a + b - 1) / b

end Sys2Proof.Machine
end

