-- ==== Sys2Proof/Machine/Lowpan.lean ====
section
/-! DEFINITION. The 6LoWPAN formats that the pipelines decode (11_node_table_forwarding.md R285, Table NODE-2), from the RFCs that the
table names. PRESUMED: log 202. -/

namespace Sys2Proof.Machine

open Sys2Proof

/-- What a mesh payload is: in a format not supported, or not parsable; a whole IPv6 packet; or a fragment, with its datagram's tag and
size, its offset, and its octets of the uncompressed datagram. -/
inductive Lowpan where
  | unsupported
  | packet (octets : List Nat)
  | frag (tag size off : Nat) (data : List Nat)
  deriving DecidableEq, Repr

/-- What the decompression of a frame takes from beside its payload: the contexts (number, prefix, length), and the interface identifiers
of its link-layer source and destination. -/
structure LowpanEnv where
  contexts : List (Nat × Nat × Nat)
  src : Nat
  dst : Nat
  deriving DecidableEq, Repr

/-- The first `n` octets as a number, and the rest. -/
def octetsIn (n : Nat) (o : List Nat) : Option (Nat × List Nat) := if o.length < n then none else some (be (o.take n), o.drop n)

/-! ## Interface identifiers -/

/-- The interface identifier formed from an EUI-64 (R268). -/
def iidOf (eui : Nat) : Nat := bxor eui (2 ^ 57)

/-- The interface identifier of a short address. -/
def shortIid (a : Nat) : Nat := 0x000000FFFE000000 + a

/-! ## IPHC (RFC 6282, section 3) -/

/-- Traffic class and flow label by the TF bits. -/
def iphcTf (tf : Nat) (o : List Nat) : Option ((Nat × Nat) × List Nat) :=
  let cls (x : Nat) : Nat := x % 64 * 4 + x / 64
  match tf with
  | 0 => (octetsIn 4 o).map fun r => ((cls (r.1 / 2 ^ 24), r.1 % 2 ^ 20), r.2)
  | 1 => (octetsIn 3 o).map fun r => ((r.1 / 2 ^ 22, r.1 % 2 ^ 20), r.2)
  | 2 => (octetsIn 1 o).map fun r => ((cls r.1, 0), r.2)
  | _ => some ((0, 0), o)

/-- The interface identifier, or the whole address for mode 0, that an address mode carries or leaves to the link layer. -/
def iphcIid (mode link : Nat) (o : List Nat) : Option (Nat × List Nat) :=
  match mode with
  | 0 => octetsIn 16 o
  | 1 => octetsIn 8 o
  | 2 => (octetsIn 2 o).map fun r => (shortIid r.1, r.2)
  | _ => some (link, o)

/-- A context's prefix over an interface identifier. -/
def LowpanEnv.under (e : LowpanEnv) (ctx iid : Nat) : Option Nat :=
  (e.contexts.find? fun c => c.1 == ctx).map fun c => c.2.1 / 2 ^ (128 - c.2.2) * 2 ^ (128 - c.2.2) + iid % 2 ^ (128 - c.2.2)

/-- A unicast address by its mode, stateless or under a context. Mode 0 under a context is the unspecified address as a source, and
reserved as a destination. -/
def LowpanEnv.unicast (e : LowpanEnv) (stateful source : Bool) (ctx mode link : Nat) (o : List Nat) : Option (Nat × List Nat) :=
  if stateful ∧ mode = 0 then if source then some (0, o) else none
  else match iphcIid mode link o with
    | none => none
    | some (a, rest) =>
      if stateful then (e.under ctx a).map fun x => (x, rest)
      else some (if mode = 0 then a else 0xFE80 * 2 ^ 112 + a, rest)

/-- A multicast destination by its mode. -/
def LowpanEnv.multicast (e : LowpanEnv) (stateful : Bool) (ctx mode : Nat) (o : List Nat) : Option (Nat × List Nat) :=
  if stateful then
    if mode ≠ 0 then none
    else match octetsIn 6 o, e.contexts.find? fun c => c.1 == ctx with
      | some (x, rest), some c => some (0xFF * 2 ^ 120 + x / 2 ^ 32 * 2 ^ 104 + c.2.2 * 2 ^ 96 + c.2.1 / 2 ^ 64 * 2 ^ 32 + x % 2 ^ 32, rest)
      | _, _ => none
  else match mode with
    | 0 => octetsIn 16 o
    | 1 => (octetsIn 6 o).map fun r => (0xFF * 2 ^ 120 + r.1 / 2 ^ 40 * 2 ^ 112 + r.1 % 2 ^ 40, r.2)
    | 2 => (octetsIn 4 o).map fun r => (0xFF * 2 ^ 120 + r.1 / 2 ^ 24 * 2 ^ 112 + r.1 % 2 ^ 24, r.2)
    | _ => (octetsIn 1 o).map fun r => (0xFF02 * 2 ^ 112 + r.1, r.2)

/-! ## NHC (RFC 6282, section 4) -/

/-- The UDP ports by the P bits. -/
def nhcPorts (p : Nat) (o : List Nat) : Option ((Nat × Nat) × List Nat) :=
  match p with
  | 0 => (octetsIn 4 o).map fun r => ((r.1 / 65536, r.1 % 65536), r.2)
  | 1 => (octetsIn 3 o).map fun r => ((r.1 / 256, 0xF000 + r.1 % 256), r.2)
  | 2 => (octetsIn 3 o).map fun r => ((0xF000 + r.1 / 65536, r.1 % 65536), r.2)
  | _ => (octetsIn 1 o).map fun r => ((0xF0B0 + r.1 / 16, 0xF0B0 + r.1 % 16), r.2)

/-- A UDP header of a datagram with `len` octets left; a checksum that is elided is not accepted (Table NODE-2). -/
def nhcUdp (first len : Nat) (o : List Nat) : Option (List Nat × List Nat) :=
  if first / 4 % 2 = 1 then none
  else match nhcPorts (first % 4) o with
    | none => none
    | some ((s, d), r) => (octetsIn 2 r).map fun c => (beOctets 2 s ++ beOctets 2 d ++ beOctets 2 len ++ beOctets 2 c.1, c.2)

/-- The protocol number of an extension header by its EID. -/
def nhcProto (eid : Nat) : Option Nat := [some 0, some 43, some 44, some 60, some 135, none, none, some 41].getD eid none

/-- The padding that fills an extension header of `n` octets. -/
def padOctets (n : Nat) : List Nat :=
  match (8 - n % 8) % 8 with
  | 0 => []
  | 1 => [0]
  | k + 2 => [1, k] ++ List.replicate k 0

/-- The compressed headers at the start of octets, an IPv6 header (`ip`) or one of an NHC, with those after it: the protocol number of the
first, all of them uncompressed, and what follows. `left` octets of the uncompressed datagram begin with it. -/
def lowpanHeaders (e : LowpanEnv) : Nat → Bool → Nat → List Nat → Option (Nat × List Nat × List Nat)
  | 0, _, _, _ => none
  | fuel + 1, true, left, o =>
    match octetsIn 2 o with
    | none => none
    | some (w, r0) =>
      if w / 8192 ≠ 3 then none
      else match (if bit? w 7 then octetsIn 1 r0 else some (0, r0)) with
        | none => none
        | some (cid, r1) => match iphcTf (fld w 12 11) r1 with
          | none => none
          | some ((tc, fl), r2) => match (if bit? w 10 then some (0, r2) else octetsIn 1 r2) with
            | none => none
            | some (nh, r3) => match (if fld w 9 8 = 0 then octetsIn 1 r3 else some ([0, 1, 64, 255].getD (fld w 9 8) 0, r3)) with
              | none => none
              | some (hl, r4) => match e.unicast (bit? w 6) true (cid / 16) (fld w 5 4) e.src r4 with
                | none => none
                | some (src, r5) =>
                  match (if bit? w 3 then e.multicast (bit? w 2) (cid % 16) (fld w 1 0) r5
                    else e.unicast (bit? w 2) false (cid % 16) (fld w 1 0) e.dst r5) with
                  | none => none
                  | some (dst, r6) =>
                    let head (n : Nat) : List Nat := beOctets 4 (6 * 2 ^ 28 + tc * 2 ^ 20 + fl) ++ beOctets 2 (left - 40) ++ [n, hl] ++
                      beOctets 16 src ++ beOctets 16 dst
                    if bit? w 10 then (lowpanHeaders e fuel false (left - 40) r6).map fun x => (41, head x.1 ++ x.2.1, x.2.2)
                    else some (41, head nh, r6)
  | fuel + 1, false, left, o =>
    match o with
    | [] => none
    | first :: r0 =>
      let eid := first / 2 % 8
      if first / 8 = 30 then (nhcUdp first left r0).map fun x => (17, x.1, x.2)
      else if first / 16 ≠ 14 then none
      else if eid = 7 then (if first % 2 = 1 then none else lowpanHeaders e fuel true left r0)
      else match nhcProto eid, (if first % 2 = 1 then some (0, r0) else octetsIn 1 r0) with
        | some proto, some (nh, r1) => match octetsIn 1 r1 with
          | none => none
          | some (len, r2) =>
            let n := if eid = 2 then 6 else len
            let data := r2.take n
            let pad := padOctets (2 + n)
            let head (x : Nat) : List Nat := [x, if eid = 2 then len else (2 + n + pad.length) / 8 - 1] ++ data ++ pad
            if r2.length < n then none
            else if first % 2 = 1 then
              (lowpanHeaders e fuel false (left - (2 + n + pad.length)) (r2.drop n)).map fun x => (proto, head x.1 ++ x.2.1, x.2.2)
            else some (proto, head nh, r2.drop n)
        | _, _ => none

/-! ## 6LoRH (RFC 8138) -/

/-- The octets behind the 6LoRH headers of page 1: SRH, RPI, IP-in-IP and other elective ones are passed over. -/
def skipLorh : Nat → List Nat → Option (List Nat)
  | 0, _ => none
  | fuel + 1, o =>
    match o with
    | a :: t :: rest =>
      let pass (n : Nat) : Option (List Nat) := if rest.length < n then none else skipLorh fuel (rest.drop n)
      if a / 32 = 5 then pass (a % 32)
      else if a / 32 ≠ 4 then some o
      else if t ≤ 4 then pass ((a % 32 + 1) * 2 ^ t)
      else if t = 5 then pass ((if bit? a 1 then 0 else 1) + if bit? a 0 then 1 else 2)
      else none
    | _ => some o

/-! ## A payload (R285) -/

/-- An IPv6 packet as its payload length says. -/
def soundIpv6 (o : List Nat) : Bool := decide (40 ≤ o.length) && o.getD 0 0 / 16 == 6 && be ((o.drop 4).take 2) + 40 == o.length

/-- The uncompressed octets of a packet, or of the first fragment of a datagram of `size` octets. PRESUMED: log 202. -/
def lowpanBody (e : LowpanEnv) (size : Option Nat) (o : List Nat) : Option (List Nat) :=
  let body := if o.head? = some 0xF1 then skipLorh o.length (o.drop 1) else some o
  match body with
  | none => none
  | some b =>
    if b.head? = some 0x41 then some (b.drop 1)
    else match lowpanHeaders e b.length true 0 b with
      | none => none
      | some (_, h, rest) => (lowpanHeaders e b.length true (size.getD (h.length + rest.length)) b).map fun x => x.2.1 ++ x.2.2

/-- What a payload is: FRAG1, FRAGN, or a packet by itself. PRESUMED: log 202. -/
def lowpanRead (e : LowpanEnv) (o : List Nat) : Lowpan :=
  let size := be (o.take 2) % 2048
  let tag := be ((o.drop 2).take 2)
  let kind := o.getD 0 0 / 8
  if kind = 24 ∧ 4 ≤ o.length then
    match lowpanBody e (some size) (o.drop 4) with
    | some x => if x.length ≤ size then .frag tag size 0 x else .unsupported
    | none => .unsupported
  else if kind = 28 ∧ 5 ≤ o.length then
    (if 8 * o.getD 4 0 + (o.length - 5) ≤ size then .frag tag size (8 * o.getD 4 0) (o.drop 5) else .unsupported)
  else match lowpanBody e none o with
    | some x => if soundIpv6 x then .packet x else .unsupported
    | none => .unsupported

/-! ## Reassembly (R286) -/

/-- The octets of a datagram received so far, from offset and octets of each part, leave no gap. -/
def covered (size : Nat) (parts : List (Nat × List Nat)) : Bool :=
  decide (size ≤ (sortBy (fun a b => decide (a.1 ≤ b.1)) parts).foldl (fun r p => if p.1 ≤ r then max r (p.1 + p.2.length) else r) 0)

/-- The datagram that parts make up. -/
def assembled (size : Nat) (parts : List (Nat × List Nat)) : List Nat :=
  (parts.foldl (fun o p => o.take p.1 ++ p.2 ++ o.drop (p.1 + p.2.length)) (List.replicate size 0)).take size

/-! ## Headers for the device (R286; RFC 6553) -/

/-- The options of a Hop-by-Hop header: whether any is more than padding and RPI, and the options with each RPI as padding. -/
def withoutRpi : Nat → List Nat → Bool × List Nat
  | 0, o => (false, o)
  | fuel + 1, o =>
    match o with
    | [] => (false, [])
    | 0 :: rest => let r := withoutRpi fuel rest
      (r.1, 0 :: r.2)
    | [t] => (true, [t])
    | t :: n :: rest =>
      let r := withoutRpi fuel (rest.drop n)
      if t = 1 then (r.1, t :: n :: rest.take n ++ r.2)
      else if t = 0x63 ∨ t = 0x23 then (r.1, 1 :: n :: List.replicate (min n rest.length) 0 ++ r.2)
      else (true, t :: n :: rest.take n ++ r.2)

/-- The inner packet: the RPI, and every IP-in-IP header addressed to one of `own`, are removed. PRESUMED: log 202. -/
def innerPacket (own : List Nat) : Nat → List Nat → List Nat
  | 0, o => o
  | fuel + 1, o =>
    let next := o.getD 6 0
    let dst := be ((o.drop 24).take 16)
    let n := 8 * (o.getD 41 0 + 1)
    let r := withoutRpi n ((o.drop 42).take (n - 2))
    if o.getD 0 0 / 16 ≠ 6 then o
    else if next = 41 ∧ own.contains dst then innerPacket own fuel (o.drop 40)
    else if next = 0 ∧ 40 + n ≤ o.length then
      if r.1 then o.take 42 ++ r.2 ++ o.drop (40 + n)
      else innerPacket own fuel (o.take 4 ++ beOctets 2 (be ((o.drop 4).take 2) - n) ++ [o.getD 40 0] ++ (o.drop 7).take 33 ++ o.drop (40 + n))
    else o

end Sys2Proof.Machine
end

