-- ==== Sys2Proof/Config.lean ====
section
/-! DEFINITION. What an individual device fixes and what the spec leaves open: constants without a body, so that
no proof can lean on a value of theirs. The cryptographic primitives stand here too: the spec names them by the
standards that define them and states none of their values. -/

namespace Sys2Proof.Config

/-- The k-th value the spec leaves open, in the order the block meets them. DESIGN CHOICE: log 6. -/
opaque freeValue : Nat → Word

/-- The k-th octet string drawn from the device's random source (nonces, generated keys). DESIGN CHOICE: log 7. -/
opaque random : Nat → List Nat

/-- What lane `l` receives at true time `t`, in quarter dB from full scale ahead of the digital gain: the present level of its stream.
No command carries the input of a lane that listens. DESIGN CHOICE: log 196. -/
opaque streamLevel (l t : Nat) : Int
/-- The average of the level of lane `l` at true time `t` over the time constant of L_NOISE. DESIGN CHOICE: log 196. -/
opaque noiseLevel (l t : Nat) : Int

/-- The device-unique identifier 0x0000/0/3. DESIGN CHOICE: log 8. -/
opaque uid : Word

/-- The installed DRAM octets 0x0380/0/0. DESIGN CHOICE: log 8. -/
opaque dramCapacity : Word
/-- The speed of the installed DRAM 0x0380/0/1. DESIGN CHOICE: log 8. -/
opaque dramSpeed : Word

/-- The dictionary schema of the image a device boots first. DESIGN CHOICE: log 8. -/
opaque schema : Word
/-- The bundle version of the image a device boots first. DESIGN CHOICE: log 8. -/
opaque bundle : Word

/-- The octets of that image (22_device_update.md R501). -/
opaque image : List Nat

/-- SHAKE256 with a 256-bit output (FIPS 202): the 32 octets of the digest. DESIGN CHOICE: log 7. -/
opaque shake256 : List Nat → List Nat

/-- KMAC256 (NIST SP 800-185): key, data, output bits, label. DESIGN CHOICE: log 7. -/
opaque kmac256 : List Nat → List Nat → Nat → String → List Nat

/-- AES-256 key unwrap (SP 800-38F KW): wrapping key, wrapped value; none when the check fails. -/
opaque aesUnwrap : List Nat → List Nat → Option (List Nat)

/-- AES-256 key wrap (SP 800-38F KW): wrapping key, value. -/
opaque aesWrap : List Nat → List Nat → List Nat

/-- AES-128 CCM*: key, nonce, authenticated octets, payload, MIC octets; the protected payload and MIC.
DESIGN CHOICE: log 7. -/
opaque ccmSeal : List Nat → List Nat → List Nat → List Nat → Nat → List Nat

/-- AES-128 CCM*: key, nonce, authenticated octets, protected payload with MIC, MIC octets; none when the MIC fails.
DESIGN CHOICE: log 7. -/
opaque ccmOpen : List Nat → List Nat → List Nat → List Nat → Nat → Option (List Nat)

/-- ML-DSA-65 (FIPS 204): public key, message, signature, context. -/
opaque mldsaVerify : List Nat → List Nat → List Nat → String → Bool

/-- ML-DSA-65: private key, message, context; the signature. -/
opaque mldsaSign : List Nat → List Nat → String → List Nat

/-- The public key of an ML-DSA-65 or ML-KEM-768 private key. -/
opaque publicOf : List Nat → List Nat

/-- ML-KEM-768 (FIPS 203) decapsulation: private key, ciphertext; the shared secret. -/
opaque mlkemDecaps : List Nat → List Nat → List Nat

/-- The largest sample the transmit DAC takes, in its steps (05_radio_ports.md R129). DESIGN CHOICE: log 8. -/
opaque dacRange : Nat

/-! Formats, codes and durations that IEEE 802.15.4-2020 defines. -/

/-- The codes of Table CODE-1 (07_coding_deep_link.md R166): the bits on air of PSDU bits in a mode. PRESUMED: log 172. -/
opaque fecEncode : Nat → List Nat → List Nat
/-- The octets read from soft values. PRESUMED: log 172. -/
opaque fecDecode : Nat → List Int → List Nat

/-- The header octets of a frame, the octets its security authenticates. DESIGN CHOICE: log 7. -/
opaque mhr : MacFrame → List Nat

/-- The payload of an enhanced beacon: its payload IEs. DESIGN CHOICE: log 7. -/
opaque ebBody : EbInfo → List Nat

/-- The air time of a PSDU of so many octets in a mode, as the times below in units of 2^-64 ns, where
this spec gives no formula. DEDUCED: log 56. -/
opaque airtime : Nat → Nat → Nat
/-- The time of the synchronisation header of a mode. DEDUCED: log 56. -/
opaque shrTime : Nat → Nat
/-- The symbol time of a mode. DEDUCED: log 56. -/
opaque symbolTime : Nat → Nat

/-- The seed of the relocation LFSR of key table `t` (11_node_table_forwarding.md R274). DESIGN CHOICE: log 7. -/
opaque tableSeed : Nat → Nat

/-- RFC 8138: the RPI-6LoRH header of an instance and sender rank in the down direction. DESIGN CHOICE: log 75. -/
opaque rpi : Nat → Nat → List Nat

/-- RFC 6282: an IPv6 packet, compressed under contexts (number, prefix, length), behind 6LoRH headers given as octets.
DESIGN CHOICE: log 75. -/
opaque iphc : List (Nat × Nat × Nat) → List Nat → List Nat → List Nat

/-- RFC 4944: the FRAG1 and FRAGN payloads of a packet: the packet, its compressed form, the datagram tag and the largest
payload. DESIGN CHOICE: log 75. -/
opaque fragments : List Nat → List Nat → Nat → Nat → List (List Nat)

/-- The digest of a mooring image (SHAKE256 with a 256-bit output over the whole image, 17_pair_redundancy.md R400) of its header, words 8
to 11 zero, and of the words of its sections that are not zero, by section and word offset. -/
opaque mooringDigest : List Nat → List ((Nat × Nat) × Nat) → List Nat

end Sys2Proof.Config
end

