-- ==== Sys2Proof/Machine/Objects.lean ====
section
/-! DEFINITION. The names of the dictionary objects: one reference per row of the spec's object tables
(03_object_dictionary.md R54 gives the address; the chapter of each group is named above it). -/

namespace Sys2Proof.Machine.R

/-! 03_object_dictionary.md -/
abbrev VENDOR : Ref := ⟨0x0000, 0, 0⟩
abbrev PART : Ref := ⟨0x0000, 0, 1⟩
abbrev SI_REV : Ref := ⟨0x0000, 0, 2⟩
abbrev UID : Ref := ⟨0x0000, 0, 3⟩
abbrev STRAPS : Ref := ⟨0x0000, 0, 4⟩
abbrev LIFECYCLE : Ref := ⟨0x0000, 0, 5⟩
abbrev DEVNUM : Ref := ⟨0x0000, 0, 6⟩
abbrev ROLE : Ref := ⟨0x0000, 0, 7⟩
abbrev SCHEMA : Ref := ⟨0x0000, 0, 8⟩
abbrev DDP_VERSIONS : Ref := ⟨0x0001, 0, 0⟩
abbrev MAX_SESSIONS : Ref := ⟨0x0001, 0, 1⟩
abbrev UDP_EN : Ref := ⟨0x0010, 0, 0⟩
abbrev UDP_PORT : Ref := ⟨0x0010, 0, 1⟩
abbrev KEEPALIVE : Ref := ⟨0x0010, 0, 2⟩
abbrev CREDITS : Ref := ⟨0x0010, 0, 3⟩
abbrev ANON_OBSERVER : Ref := ⟨0x0010, 0, 4⟩
abbrev PCIE_PRIV : Ref := ⟨0x0010, 0, 5⟩
abbrev MESH_PRIV_MAX : Ref := ⟨0x0010, 0, 6⟩
abbrev LEGACY_PRIV_MAX : Ref := ⟨0x0010, 0, 7⟩
/-- LEGACY_EN of the legacy reset object (R480); the object below is DDP's (R89). -/
abbrev LEGACY_ON : Ref := ⟨0x02F0, 0, 1⟩
abbrev LEGACY_EN : Ref := ⟨0x0010, 0, 8⟩
abbrev MESH_EN : Ref := ⟨0x0010, 0, 9⟩
abbrev S_STATE (i : Nat) : Ref := ⟨0x0020, i, 0⟩
abbrev S_ID (i : Nat) : Ref := ⟨0x0020, i, 1⟩
abbrev S_TRANSPORT (i : Nat) : Ref := ⟨0x0020, i, 2⟩
abbrev S_VERSION (i : Nat) : Ref := ⟨0x0020, i, 3⟩
abbrev S_PRIV (i : Nat) : Ref := ⟨0x0020, i, 4⟩
abbrev S_KEY (i : Nat) : Ref := ⟨0x0020, i, 5⟩
abbrev S_CREDITS (i : Nat) : Ref := ⟨0x0020, i, 6⟩
abbrev S_PEER (i : Nat) (k : Nat) : Ref := ⟨0x0020, i, 7 + k⟩
abbrev S_BIND (i : Nat) : Ref := ⟨0x0020, i, 9⟩
abbrev S_REQUESTS (i : Nat) : Ref := ⟨0x0020, i, 10⟩
abbrev S_KILL (i : Nat) : Ref := ⟨0x0021, i, 0⟩
abbrev MBX_DOORBELL (i : Nat) : Ref := ⟨0x0030, i, 0⟩
abbrev MBX_REQ_ADDR (i : Nat) : Ref := ⟨0x0030, i, 1⟩
abbrev MBX_REQ_LEN (i : Nat) : Ref := ⟨0x0030, i, 2⟩
abbrev MBX_RSP_ADDR (i : Nat) : Ref := ⟨0x0030, i, 3⟩
abbrev MBX_RSP_LEN (i : Nat) : Ref := ⟨0x0030, i, 4⟩
abbrev MBX_STATUS (i : Nat) : Ref := ⟨0x0030, i, 5⟩
abbrev MBX_VECTOR (i : Nat) : Ref := ⟨0x0030, i, 6⟩
abbrev PORT_GROUP (i : Nat) : Ref := ⟨0x0040, i, 0⟩
abbrev LANE_GROUP (i : Nat) (k : Nat) : Ref := ⟨0x0041, i, k⟩
abbrev QUEUE_GROUP (i : Nat) (k : Nat) : Ref := ⟨0x0042, i, k⟩
abbrev APERTURE_ERR : Ref := ⟨0x0050, 0, 0⟩
abbrev BAD_MSG : Ref := ⟨0x0050, 0, 1⟩
abbrev AUTH_FAILS : Ref := ⟨0x0050, 0, 2⟩
abbrev INTEGRITY_DROP : Ref := ⟨0x0050, 0, 3⟩
abbrev SEQ_DROP : Ref := ⟨0x0050, 0, 4⟩
abbrev EVENT_LOST : Ref := ⟨0x0050, 0, 5⟩

/-! 04_transactions_configurations.md -/
abbrev T_STATE (i : Nat) : Ref := ⟨0x0100, i, 0⟩
abbrev T_OWNER (i : Nat) : Ref := ⟨0x0100, i, 1⟩
abbrev T_OBJECTS (i : Nat) : Ref := ⟨0x0100, i, 2⟩
abbrev T_INSTANT (i : Nat) : Ref := ⟨0x0100, i, 3⟩
abbrev T_ASN (i : Nat) : Ref := ⟨0x0100, i, 4⟩
abbrev T_TIME (i : Nat) (k : Nat) : Ref := ⟨0x0100, i, 5 + k⟩
abbrev T_CAUSE (i : Nat) : Ref := ⟨0x0100, i, 7⟩
abbrev T_APPLIED (i : Nat) (k : Nat) : Ref := ⟨0x0100, i, 8 + k⟩
abbrev T_FAIL_REF (i : Nat) : Ref := ⟨0x0100, i, 10⟩
abbrev T_PEERS (i : Nat) : Ref := ⟨0x0100, i, 11⟩
abbrev T_LINK (i : Nat) : Ref := ⟨0x0100, i, 12⟩
abbrev A_OPEN (i : Nat) : Ref := ⟨0x0101, i, 0⟩
abbrev A_BIND (i : Nat) : Ref := ⟨0x0101, i, 1⟩
abbrev A_INSTANT (i : Nat) : Ref := ⟨0x0101, i, 2⟩
abbrev A_ASN (i : Nat) : Ref := ⟨0x0101, i, 3⟩
abbrev A_TIME (i : Nat) (k : Nat) : Ref := ⟨0x0101, i, 4 + k⟩
abbrev A_COMMIT (i : Nat) : Ref := ⟨0x0101, i, 6⟩
abbrev A_ABORT (i : Nat) : Ref := ⟨0x0101, i, 7⟩
abbrev IDLE_LIMIT : Ref := ⟨0x0102, 0, 0⟩
abbrev OPEN_COUNT : Ref := ⟨0x0102, 0, 1⟩
abbrev APPLIED_COUNT : Ref := ⟨0x0102, 0, 2⟩
abbrev ABORT_COUNT : Ref := ⟨0x0102, 0, 3⟩
abbrev LOCK_TIMEOUTS : Ref := ⟨0x0102, 0, 4⟩
abbrev COMMIT_SEQ : Ref := ⟨0x0102, 0, 5⟩
abbrev BOOT_BASE : Ref := ⟨0x0110, 0, 0⟩
abbrev RUN_BASE : Ref := ⟨0x0110, 0, 1⟩
abbrev BOOT_MODES : Ref := ⟨0x0110, 0, 2⟩
abbrev ACTIVE_MODES : Ref := ⟨0x0110, 0, 3⟩
abbrev CONFIG_HASH (k : Nat) : Ref := ⟨0x0110, 0, 4 + k⟩
abbrev MODE_SET : Ref := ⟨0x0111, 0, 0⟩
abbrev MODE_INSTANT : Ref := ⟨0x0111, 0, 1⟩
abbrev MODE_ASN : Ref := ⟨0x0111, 0, 2⟩
abbrev MODE_TIME (k : Nat) : Ref := ⟨0x0111, 0, 3 + k⟩
abbrev MODE_APPLY : Ref := ⟨0x0111, 0, 5⟩
abbrev SL_STATE (i : Nat) : Ref := ⟨0x0112, i, 0⟩
abbrev SL_LENGTH (i : Nat) : Ref := ⟨0x0112, i, 1⟩
abbrev SL_NAME (i : Nat) (k : Nat) : Ref := ⟨0x0112, i, 2 + k⟩
abbrev SL_DIGEST (i : Nat) (k : Nat) : Ref := ⟨0x0112, i, 4 + k⟩
abbrev SL_SCHEMA (i : Nat) : Ref := ⟨0x0112, i, 8⟩
abbrev SL_OBJECTS (i : Nat) : Ref := ⟨0x0112, i, 9⟩
abbrev SL_ERASE (i : Nat) : Ref := ⟨0x0112, i, 10⟩
abbrev W_TARGET : Ref := ⟨0x0113, 0, 0⟩
abbrev W_OFFSET : Ref := ⟨0x0113, 0, 1⟩
abbrev W_DATA (k : Nat) : Ref := ⟨0x0113, 0, 2 + k⟩
abbrev W_WRITE : Ref := ⟨0x0113, 0, 34⟩
abbrev W_SEAL : Ref := ⟨0x0113, 0, 35⟩

/-! 21_reset_clocks_power.md -/
abbrev RC_LAST : Ref := ⟨0x0200, 0, 0⟩
abbrev RC_REACH : Ref := ⟨0x0200, 0, 1⟩
abbrev RC_HISTORY : Ref := ⟨0x0200, 0, 2⟩
abbrev RC_RAILS : Ref := ⟨0x0200, 0, 3⟩
abbrev RC_CLOCK : Ref := ⟨0x0200, 0, 4⟩
abbrev RC_FUSE : Ref := ⟨0x0200, 0, 5⟩
abbrev RC_BOOTS : Ref := ⟨0x0200, 0, 6⟩
abbrev RS_REQ : Ref := ⟨0x0201, 0, 0⟩
abbrev RS_RELEASE : Ref := ⟨0x0201, 0, 1⟩
abbrev BL_STATE (i : Nat) : Ref := ⟨0x0202, i, 0⟩
abbrev BL_RESETS (i : Nat) : Ref := ⟨0x0202, i, 1⟩
abbrev BL_ISO_ERR (i : Nat) : Ref := ⟨0x0202, i, 2⟩
abbrev AC_WD_MS (i : Nat) : Ref := ⟨0x0203, i, 0⟩
abbrev AC_WD_REACH (i : Nat) : Ref := ⟨0x0203, i, 1⟩
abbrev AC_WD_KICK (i : Nat) : Ref := ⟨0x0203, i, 2⟩
abbrev AC_STATE (i : Nat) : Ref := ⟨0x0203, i, 3⟩
abbrev CK_FREQ (i : Nat) : Ref := ⟨0x0210, i, 0⟩
abbrev CK_GOOD (i : Nat) : Ref := ⟨0x0210, i, 1⟩
abbrev CK_FAILS (i : Nat) : Ref := ⟨0x0210, i, 2⟩
abbrev CK_BCLK_SRC : Ref := ⟨0x0211, 0, 0⟩
abbrev PW_STATE : Ref := ⟨0x0220, 0, 0⟩
abbrev PW_DOZE_EN : Ref := ⟨0x0220, 0, 1⟩
abbrev PW_OUTAGE_EN : Ref := ⟨0x0220, 0, 2⟩
abbrev PW_PFAIL_THR : Ref := ⟨0x0220, 0, 3⟩
abbrev PW_MAINS_GOOD : Ref := ⟨0x0220, 0, 4⟩
abbrev PW_HOLD_AFTER : Ref := ⟨0x0220, 0, 5⟩
abbrev PW_CMD : Ref := ⟨0x0220, 0, 6⟩
abbrev PW_REC : Ref := ⟨0x0220, 0, 7⟩
abbrev PW_LAST_OUTAGE : Ref := ⟨0x0220, 0, 8⟩
abbrev BT_STAGE : Ref := ⟨0x0230, 0, 0⟩
abbrev BT_OFFSET : Ref := ⟨0x0230, 0, 1⟩
abbrev BT_DATA (k : Nat) : Ref := ⟨0x0230, 0, 2 + k⟩
abbrev BT_WRITE : Ref := ⟨0x0230, 0, 34⟩
abbrev BT_DONE : Ref := ⟨0x0230, 0, 35⟩
abbrev BK_REG (k : Nat) : Ref := ⟨0x0240, 0, k⟩
abbrev BK_TAMPER : Ref := ⟨0x0240, 0, 16⟩
abbrev BK_TAMPER_CFG : Ref := ⟨0x0240, 0, 17⟩
abbrev BK_TAMPER_CLR : Ref := ⟨0x0240, 0, 18⟩
abbrev RTC_TIME (k : Nat) : Ref := ⟨0x0240, 0, 19 + k⟩
abbrev RTC_VALID : Ref := ⟨0x0240, 0, 21⟩
abbrev RTC_AUTO : Ref := ⟨0x0240, 0, 22⟩
abbrev RTC_CMD : Ref := ⟨0x0240, 0, 23⟩
abbrev TH_TEMP : Ref := ⟨0x0250, 0, 0⟩
abbrev TH_WARN : Ref := ⟨0x0250, 0, 1⟩
abbrev TH_TRIP : Ref := ⟨0x0250, 0, 2⟩
abbrev TH_MUTE : Ref := ⟨0x0250, 0, 3⟩
abbrev LEGACY_RESET : Ref := ⟨0x02F0, 0, 0⟩
abbrev LEGACY_RST_EN : Ref := ⟨0x02F0, 0, 1⟩

/-! 20_interrupts_timers.md -/
abbrev IRQ_MODE : Ref := ⟨0x0300, 0, 0⟩
abbrev EV_MASK : Ref := ⟨0x0300, 0, 1⟩
abbrev EV_DEPTH : Ref := ⟨0x0300, 0, 2⟩
abbrev EV_LOST : Ref := ⟨0x0300, 0, 3⟩
abbrev IRQ_PENDING (k : Nat) : Ref := ⟨0x0301, 0, k⟩
abbrev IRQ_ENABLE (k : Nat) : Ref := ⟨0x0302, 0, k⟩
abbrev IRQ_ACTIVE (k : Nat) : Ref := ⟨0x0303, 0, k⟩
abbrev CX_THRESHOLD (i : Nat) : Ref := ⟨0x0304, i, 0⟩
abbrev CX_CLAIM (i : Nat) : Ref := ⟨0x0304, i, 1⟩
abbrev CX_COMPLETE (i : Nat) : Ref := ⟨0x0304, i, 2⟩
abbrev CX_REQUEST (i : Nat) : Ref := ⟨0x0304, i, 3⟩
abbrev CX_SPURIOUS (i : Nat) : Ref := ⟨0x0304, i, 4⟩
abbrev CX_BAD_COMPLETE (i : Nat) : Ref := ⟨0x0304, i, 5⟩
abbrev EV_POP (k : Nat) : Ref := ⟨0x0306, 0, k⟩
abbrev IRQ_SRC (s : Nat) : Ref := ⟨0x310 + s / 256, s % 256, 0⟩
abbrev TM_CTRL (i : Nat) : Ref := ⟨0x0320, i, 0⟩
abbrev TM_PRESC (i : Nat) : Ref := ⟨0x0320, i, 1⟩
abbrev TM_COUNT (i : Nat) : Ref := ⟨0x0320, i, 2⟩
abbrev TM_RELOAD (i : Nat) : Ref := ⟨0x0320, i, 3⟩
abbrev TM_CMP_PRE (i : Nat) : Ref := ⟨0x0320, i, 4⟩
abbrev TM_CMP (i : Nat) : Ref := ⟨0x0320, i, 5⟩
abbrev TM_INTERVAL (i : Nat) : Ref := ⟨0x0320, i, 6⟩
abbrev TM_CMD (i : Nat) : Ref := ⟨0x0320, i, 7⟩
abbrev TM_FLAGS (i : Nat) : Ref := ⟨0x0321, i, 0⟩

/-! 19_processors_memory.md -/
abbrev MC_CAPACITY : Ref := ⟨0x0380, 0, 0⟩
abbrev MC_SPEED : Ref := ⟨0x0380, 0, 1⟩
abbrev MC_SCRUB_H : Ref := ⟨0x0380, 0, 2⟩
abbrev PCI_OUT_BASE : Ref := ⟨0x0380, 0, 3⟩
abbrev MC_CE (i : Nat) : Ref := ⟨0x0381, i, 0⟩
abbrev MC_UE (i : Nat) : Ref := ⟨0x0381, i, 1⟩
abbrev ARB_N (i : Nat) : Ref := ⟨0x0388, i, 0⟩
abbrev ARB_GRANTS (i : Nat) : Ref := ⟨0x0388, i, 1⟩
abbrev ARB_OLDEST (i : Nat) : Ref := ⟨0x0388, i, 2⟩
abbrev AR_TICKETS (i : Nat) : Ref := ⟨0x0389, i, 0⟩
abbrev HF_POP (i : Nat) : Ref := ⟨0x0390, i, 0⟩
abbrev HF_PKTS (i : Nat) : Ref := ⟨0x0390, i, 1⟩
abbrev HF_START (i : Nat) : Ref := ⟨0x0391, i, 0⟩
abbrev HF_DATA (i : Nat) : Ref := ⟨0x0391, i, 1⟩
abbrev HF_END (i : Nat) : Ref := ⟨0x0391, i, 2⟩
abbrev HF_ABORT (i : Nat) : Ref := ⟨0x0391, i, 3⟩
abbrev HF_MODE (i : Nat) : Ref := ⟨0x0392, i, 0⟩
abbrev HF_MASTER (i : Nat) : Ref := ⟨0x0392, i, 1⟩
abbrev HF_DEPTH (i : Nat) : Ref := ⟨0x0392, i, 2⟩
abbrev HF_NOTICE_PKTS (i : Nat) : Ref := ⟨0x0392, i, 3⟩
abbrev HF_NOTICE_NS (i : Nat) : Ref := ⟨0x0392, i, 4⟩
abbrev HF_ITEMS (i : Nat) : Ref := ⟨0x0392, i, 5⟩
abbrev HF_DISCARD (i : Nat) : Ref := ⟨0x0392, i, 6⟩
abbrev HF_PROTO (i : Nat) : Ref := ⟨0x0392, i, 7⟩
abbrev HF_STALL_TO (i : Nat) : Ref := ⟨0x0392, i, 8⟩
abbrev HR_BASE (i : Nat) : Ref := ⟨0x0393, i, 0⟩
abbrev HR_ITEMS (i : Nat) : Ref := ⟨0x0393, i, 1⟩
abbrev HR_IDX_ADDR (i : Nat) : Ref := ⟨0x0393, i, 2⟩
abbrev HR_VECTOR (i : Nat) : Ref := ⟨0x0393, i, 3⟩
abbrev HR_HOST_IDX (i : Nat) : Ref := ⟨0x0393, i, 4⟩
abbrev HR_DEV_IDX (i : Nat) : Ref := ⟨0x0393, i, 5⟩
abbrev HR_STATE (i : Nat) : Ref := ⟨0x0393, i, 6⟩
abbrev HR_CMD (i : Nat) : Ref := ⟨0x0393, i, 7⟩

/-! 05_radio_ports.md -/
abbrev P_ENABLE (i : Nat) : Ref := ⟨0x1000, i, 0⟩
abbrev P_BAND (i : Nat) : Ref := ⟨0x1000, i, 1⟩
abbrev P_RX_CENTRE (i : Nat) : Ref := ⟨0x1000, i, 2⟩
abbrev P_TX_POWER (i : Nat) : Ref := ⟨0x1000, i, 3⟩
abbrev P_PA_LEAD (i : Nat) : Ref := ⟨0x1000, i, 4⟩
abbrev P_PA_LAG (i : Nat) : Ref := ⟨0x1000, i, 5⟩
abbrev P_ANT_LEAD (i : Nat) : Ref := ⟨0x1000, i, 6⟩
abbrev P_RAMP (i : Nat) : Ref := ⟨0x1000, i, 7⟩
abbrev P_FE_CTRL (i : Nat) : Ref := ⟨0x1000, i, 8⟩
abbrev P_FE_DELAY_RX (i : Nat) : Ref := ⟨0x1000, i, 9⟩
abbrev P_FE_DELAY_TX (i : Nat) : Ref := ⟨0x1000, i, 10⟩
abbrev P_STATE (i : Nat) : Ref := ⟨0x1000, i, 11⟩
abbrev P_LOCK_CAUSE (i : Nat) : Ref := ⟨0x1000, i, 12⟩
abbrev P_TX_UNLOCK (i : Nat) : Ref := ⟨0x1000, i, 13⟩
abbrev TX_FRAMES (i : Nat) : Ref := ⟨0x1001, i, 0⟩
abbrev TX_ABORTS (i : Nat) : Ref := ⟨0x1001, i, 1⟩
abbrev AGC_BREAKS (i : Nat) : Ref := ⟨0x1001, i, 2⟩
abbrev MASK_VIOL (i : Nat) : Ref := ⟨0x1001, i, 3⟩
abbrev LINK_ERR (i : Nat) : Ref := ⟨0x1001, i, 4⟩
abbrev CAL_COUNT (i : Nat) : Ref := ⟨0x1001, i, 5⟩
abbrev CAL_FAIL (i : Nat) : Ref := ⟨0x1001, i, 6⟩
abbrev FIR_SAT (i : Nat) : Ref := ⟨0x1001, i, 7⟩
abbrev RX_UNLOCK (i : Nat) : Ref := ⟨0x1001, i, 8⟩
abbrev BLANK_TIME (i : Nat) : Ref := ⟨0x1001, i, 9⟩
abbrev AGC_MODE (i : Nat) : Ref := ⟨0x1002, i, 0⟩
abbrev AGC_TARGET (i : Nat) : Ref := ⟨0x1002, i, 1⟩
abbrev AGC_FIXED (i : Nat) : Ref := ⟨0x1002, i, 2⟩
abbrev AGC_GAIN (i : Nat) : Ref := ⟨0x1002, i, 3⟩
abbrev AGC_STATE (i : Nat) : Ref := ⟨0x1002, i, 4⟩
abbrev LNA_BYP_THR (i : Nat) : Ref := ⟨0x1002, i, 5⟩
abbrev TS_STATE (i : Nat) : Ref := ⟨0x1003, i, 0⟩
abbrev TS_FREQ (i : Nat) : Ref := ⟨0x1003, i, 1⟩
abbrev TS_RECAL_AGE (i : Nat) : Ref := ⟨0x1003, i, 2⟩
abbrev TS_LAST_CAL (i : Nat) : Ref := ⟨0x1003, i, 3⟩
abbrev TS_FAIL_RUN (i : Nat) : Ref := ⟨0x1003, i, 4⟩
abbrev FIR_TAP (i : Nat) (k : Nat) : Ref := ⟨0x1010, i, k⟩
abbrev MK_POINT (i : Nat) (k : Nat) : Ref := ⟨0x1020, i, k⟩
abbrev MK_EN (i : Nat) : Ref := ⟨0x1021, i, 0⟩
abbrev MK_ACTION (i : Nat) : Ref := ⟨0x1021, i, 1⟩
abbrev MK_LAST (i : Nat) : Ref := ⟨0x1021, i, 2⟩
abbrev BG_TRSW_LEAD (i : Nat) : Ref := ⟨0x1030, i, 0⟩
abbrev BG_TRSW_LAG (i : Nat) : Ref := ⟨0x1030, i, 1⟩
abbrev BG_TRSW_POL (i : Nat) : Ref := ⟨0x1030, i, 2⟩
abbrev BG_MEMBERS (i : Nat) : Ref := ⟨0x1030, i, 3⟩
abbrev CX_MODE (i : Nat) : Ref := ⟨0x1040, i, 0⟩
abbrev CX_LEAD (i : Nat) : Ref := ⟨0x1040, i, 1⟩
abbrev CX_DEADLINE (i : Nat) : Ref := ⟨0x1040, i, 2⟩
abbrev CX_POL (i : Nat) : Ref := ⟨0x1040, i, 3⟩
abbrev CX_PRI_PORTS (i : Nat) : Ref := ⟨0x1040, i, 4⟩
abbrev CX_GNT (i : Nat) : Ref := ⟨0x1040, i, 5⟩
abbrev CX_DENIED (i : Nat) : Ref := ⟨0x1040, i, 6⟩
abbrev CX_ABORTS (i : Nat) : Ref := ⟨0x1040, i, 7⟩
abbrev WK_EN : Ref := ⟨0x1050, 0, 0⟩
abbrev WK_UNIT : Ref := ⟨0x1050, 0, 1⟩
abbrev WK_GROUP : Ref := ⟨0x1050, 0, 2⟩
abbrev WK_GROUP_EN : Ref := ⟨0x1050, 0, 3⟩
abbrev WK_TOL : Ref := ⟨0x1050, 0, 4⟩
abbrev WK_MATCHES : Ref := ⟨0x1050, 0, 5⟩
abbrev WK_LAST : Ref := ⟨0x1050, 0, 6⟩

/-! 06_channelizer_lanes.md -/
abbrev CP_CH0 (i : Nat) : Ref := ⟨0x1400, i, 0⟩
abbrev CP_SPACING (i : Nat) : Ref := ⟨0x1400, i, 1⟩
abbrev CP_COUNT (i : Nat) : Ref := ⟨0x1400, i, 2⟩
abbrev CP_FE_GAIN (i : Nat) : Ref := ⟨0x1400, i, 3⟩
abbrev CP_DET_SYMBOLS (i : Nat) : Ref := ⟨0x1400, i, 4⟩
abbrev CP_CAPTURE (i : Nat) : Ref := ⟨0x1400, i, 5⟩
abbrev CP_DG_TARGET (i : Nat) : Ref := ⟨0x1400, i, 6⟩
abbrev CZ_LANES (i : Nat) : Ref := ⟨0x1401, i, 0⟩
abbrev CZ_SCHED (i : Nat) : Ref := ⟨0x1401, i, 1⟩
abbrev CZ_BUSY (i : Nat) : Ref := ⟨0x1401, i, 2⟩
abbrev CZ_NO_LANE (i : Nat) : Ref := ⟨0x1401, i, 3⟩
abbrev CZ_OOB (i : Nat) : Ref := ⟨0x1401, i, 4⟩
abbrev ED_WAITS (i : Nat) : Ref := ⟨0x1401, i, 5⟩
abbrev LM_PORT (i : Nat) : Ref := ⟨0x1410, i, 0⟩
abbrev LM_BIND (i : Nat) : Ref := ⟨0x1410, i, 1⟩
abbrev LM_CHANNEL (i : Nat) : Ref := ⟨0x1410, i, 2⟩
abbrev LM_MODE (i : Nat) : Ref := ⟨0x1410, i, 3⟩
abbrev LM_OFFSET (i : Nat) : Ref := ⟨0x1410, i, 4⟩
abbrev L_STATE (i : Nat) : Ref := ⟨0x1411, i, 0⟩
abbrev L_PORT (i : Nat) : Ref := ⟨0x1411, i, 1⟩
abbrev L_CHANNEL (i : Nat) : Ref := ⟨0x1411, i, 2⟩
abbrev L_MODE (i : Nat) : Ref := ⟨0x1411, i, 3⟩
abbrev L_DGAIN (i : Nat) : Ref := ⟨0x1411, i, 4⟩
abbrev L_NOISE (i : Nat) : Ref := ⟨0x1411, i, 5⟩
abbrev L_LAST (i : Nat) : Ref := ⟨0x1411, i, 6⟩
abbrev DETECTS (i : Nat) : Ref := ⟨0x1412, i, 0⟩
abbrev FRAMES_OK (i : Nat) : Ref := ⟨0x1412, i, 1⟩
abbrev FCS_FAIL (i : Nat) : Ref := ⟨0x1412, i, 2⟩
abbrev HDR_FAIL (i : Nat) : Ref := ⟨0x1412, i, 3⟩
abbrev UNSUPPORTED (i : Nat) : Ref := ⟨0x1412, i, 4⟩
abbrev ENDED_BREAK (i : Nat) : Ref := ⟨0x1412, i, 5⟩
abbrev ENDED_BLANK (i : Nat) : Ref := ⟨0x1412, i, 6⟩
abbrev ENDED_LOST (i : Nat) : Ref := ⟨0x1412, i, 7⟩
abbrev OVERRUN (i : Nat) : Ref := ⟨0x1412, i, 8⟩
abbrev CAPTURES (i : Nat) : Ref := ⟨0x1412, i, 9⟩
abbrev SYNC_MISSES (i : Nat) : Ref := ⟨0x1412, i, 10⟩
abbrev LLR_COPIES (i : Nat) : Ref := ⟨0x1412, i, 11⟩
abbrev POOL_FLOATING : Ref := ⟨0x1430, 0, 0⟩
abbrev POOL_DRAINING : Ref := ⟨0x1430, 0, 1⟩

/-! 07_coding_deep_link.md -/
abbrev DL_SYNC : Ref := ⟨0x1600, 0, 0⟩
abbrev DL_MAX_ITER : Ref := ⟨0x1600, 0, 1⟩
abbrev DL_OFFSET : Ref := ⟨0x1600, 0, 2⟩
abbrev DL_SPAN : Ref := ⟨0x1600, 0, 3⟩
abbrev DL_TICKETS (i : Nat) : Ref := ⟨0x1601, i, 0⟩
abbrev DL_CTX_MAX (i : Nat) : Ref := ⟨0x1601, i, 1⟩
abbrev DL_TX_TAG (i : Nat) : Ref := ⟨0x1601, i, 2⟩
abbrev DL_CTX_HELD (i : Nat) : Ref := ⟨0x1601, i, 3⟩
abbrev DL_COPIES (i : Nat) : Ref := ⟨0x1602, i, 0⟩
abbrev DL_HDR_FAIL (i : Nat) : Ref := ⟨0x1602, i, 1⟩
abbrev DL_NO_CONTEXT (i : Nat) : Ref := ⟨0x1602, i, 2⟩
abbrev DL_DELIVERED (i : Nat) : Ref := ⟨0x1602, i, 3⟩
abbrev DL_FAILED (i : Nat) : Ref := ⟨0x1602, i, 4⟩
abbrev DL_EXPIRED (i : Nat) : Ref := ⟨0x1602, i, 5⟩
abbrev DL_SURPLUS (i : Nat) : Ref := ⟨0x1602, i, 6⟩
abbrev DL_MISCONV (i : Nat) : Ref := ⟨0x1602, i, 7⟩
abbrev DL_DECODES (i : Nat) : Ref := ⟨0x1602, i, 8⟩
abbrev DL_ITER_LIMIT (i : Nat) : Ref := ⟨0x1602, i, 9⟩
abbrev DL_AFTER (i : Nat) (k : Nat) : Ref := ⟨0x1602, i, 10 + k⟩
abbrev POOL_CTX_FREE : Ref := ⟨0x1610, 0, 0⟩
abbrev POOL_GROUPS : Ref := ⟨0x1610, 0, 1⟩
abbrev DEC_BUSY : Ref := ⟨0x1610, 0, 2⟩
abbrev DEC_QUEUED : Ref := ⟨0x1610, 0, 3⟩
abbrev DEC_ITERATIONS : Ref := ⟨0x1610, 0, 4⟩
abbrev GR_INFO (i : Nat) : Ref := ⟨0x1620, i, 0⟩
abbrev GR_FIRST (i : Nat) (k : Nat) : Ref := ⟨0x1620, i, 1 + k⟩

/-! 08_tsch_engine.md -/
abbrev TS_RUN : Ref := ⟨0x2000, 0, 0⟩
abbrev TS_SLOT_LEN : Ref := ⟨0x2000, 0, 1⟩
abbrev TS_REF_LEN : Ref := ⟨0x2000, 0, 2⟩
abbrev TS_DECIDE_LEAD : Ref := ⟨0x2000, 0, 3⟩
abbrev TS_RETUNE_LEAD : Ref := ⟨0x2000, 0, 4⟩
abbrev TS_MAX_RETRIES : Ref := ⟨0x2000, 0, 5⟩
abbrev TS_MIN_BE : Ref := ⟨0x2000, 0, 6⟩
abbrev TS_MAX_BE : Ref := ⟨0x2000, 0, 7⟩
abbrev TS_PAN_ID : Ref := ⟨0x2000, 0, 8⟩
abbrev TS_SHORT : Ref := ⟨0x2000, 0, 9⟩
abbrev TS_ASN : Ref := ⟨0x2000, 0, 10⟩
abbrev TS_EB_AUTH : Ref := ⟨0x2000, 0, 11⟩
abbrev EP_ASN : Ref := ⟨0x2001, 0, 0⟩
abbrev EP_TIME (k : Nat) : Ref := ⟨0x2001, 0, 1 + k⟩
abbrev ST_ACTIVE : Ref := ⟨0x2002, 0, 0⟩
abbrev SF_LEN (i : Nat) : Ref := ⟨0x2010, i, 0⟩
abbrev SF_ADV (i : Nat) : Ref := ⟨0x2010, i, 1⟩
abbrev SF_LEN_B (i : Nat) : Ref := ⟨0x2011, i, 0⟩
abbrev SF_ADV_B (i : Nat) : Ref := ⟨0x2011, i, 1⟩
abbrev HOP_LEN (i : Nat) : Ref := ⟨0x2020, i, 0⟩
abbrev HOP_ID (i : Nat) : Ref := ⟨0x2020, i, 1⟩
abbrev HOP_ENTRY (i : Nat) (k : Nat) : Ref := ⟨0x2020, i, 2 + k⟩
abbrev TPL0 (i : Nat) : Ref := ⟨0x2030, i, 0⟩
abbrev TPL1 (i : Nat) : Ref := ⟨0x2030, i, 1⟩
abbrev TPL2 (i : Nat) : Ref := ⟨0x2030, i, 2⟩
abbrev TPL3 (i : Nat) : Ref := ⟨0x2030, i, 3⟩
abbrev TPL4 (i : Nat) : Ref := ⟨0x2030, i, 4⟩
abbrev TPL5 (i : Nat) : Ref := ⟨0x2030, i, 5⟩
abbrev TPL6 (i : Nat) : Ref := ⟨0x2030, i, 6⟩
abbrev TPL7 (i : Nat) : Ref := ⟨0x2030, i, 7⟩
abbrev TPL8 (i : Nat) : Ref := ⟨0x2030, i, 8⟩
abbrev TPL9 (i : Nat) : Ref := ⟨0x2030, i, 9⟩
abbrev TPL10 (i : Nat) : Ref := ⟨0x2030, i, 10⟩
abbrev EB_PERIOD (i : Nat) : Ref := ⟨0x2040, i, 0⟩
abbrev ACK_POLICY (i : Nat) : Ref := ⟨0x2040, i, 1⟩
abbrev TX_ACKED (i : Nat) : Ref := ⟨0x2041, i, 0⟩
abbrev TX_UNACKED (i : Nat) : Ref := ⟨0x2041, i, 1⟩
abbrev TX_RETRIES (i : Nat) : Ref := ⟨0x2041, i, 2⟩
abbrev TX_DROPPED (i : Nat) : Ref := ⟨0x2041, i, 3⟩
abbrev TX_LATE (i : Nat) : Ref := ⟨0x2041, i, 4⟩
abbrev TX_NO_FIT (i : Nat) : Ref := ⟨0x2041, i, 5⟩
abbrev TX_TALLY_WAIT (i : Nat) : Ref := ⟨0x2041, i, 6⟩
abbrev TX_YIELD (i : Nat) : Ref := ⟨0x2041, i, 7⟩
abbrev TX_NO_ACK_LANE (i : Nat) : Ref := ⟨0x2041, i, 8⟩
abbrev CCA_BUSY (i : Nat) : Ref := ⟨0x2041, i, 9⟩
abbrev RX_DELIVERED (i : Nat) : Ref := ⟨0x2041, i, 10⟩
abbrev RX_DUPLICATE (i : Nat) : Ref := ⟨0x2041, i, 11⟩
abbrev RX_REPLAY (i : Nat) : Ref := ⟨0x2041, i, 12⟩
abbrev RX_REJECTED (i : Nat) : Ref := ⟨0x2041, i, 13⟩
abbrev ACK_SENT (i : Nat) : Ref := ⟨0x2041, i, 14⟩
abbrev ACK_SKIPPED (i : Nat) : Ref := ⟨0x2041, i, 15⟩
abbrev EB_SENT (i : Nat) : Ref := ⟨0x2041, i, 16⟩
abbrev CELLA0 (i : Nat) : Ref := ⟨0x2100, i, 0⟩
abbrev CELLA1 (i : Nat) : Ref := ⟨0x2100, i, 1⟩
abbrev CELLB0 (i : Nat) : Ref := ⟨0x2101, i, 0⟩
abbrev CELLB1 (i : Nat) : Ref := ⟨0x2101, i, 1⟩

/-! 09_sleepy_nodes.md -/
abbrev SN_EN : Ref := ⟨0x2300, 0, 0⟩
abbrev SN_PS_CELLS : Ref := ⟨0x2300, 0, 1⟩
abbrev SN_GUARD_BASE : Ref := ⟨0x2300, 0, 2⟩
abbrev SN_GUARD_MAX : Ref := ⟨0x2300, 0, 3⟩
abbrev SN_U_INIT : Ref := ⟨0x2300, 0, 4⟩
abbrev SN_GAIN : Ref := ⟨0x2300, 0, 5⟩
abbrev SN_PLAN_LEAD : Ref := ⟨0x2300, 0, 6⟩
abbrev SN_ACK_DELAY : Ref := ⟨0x2300, 0, 7⟩
abbrev SN_ACK_WAIT : Ref := ⟨0x2300, 0, 8⟩
abbrev SN_RZ_GAP : Ref := ⟨0x2300, 0, 9⟩
abbrev SN_FOLLOW_GAP : Ref := ⟨0x2300, 0, 10⟩
abbrev SN_BURST : Ref := ⟨0x2300, 0, 11⟩
abbrev SN_FULL_MARGIN : Ref := ⟨0x2300, 0, 12⟩
abbrev SN_FULL_MAX : Ref := ⟨0x2300, 0, 13⟩
abbrev SN_DL_GAP : Ref := ⟨0x2300, 0, 14⟩
abbrev SN_FRAME_TTL : Ref := ⟨0x2300, 0, 15⟩
abbrev SN_NODE_FRAMES : Ref := ⟨0x2300, 0, 16⟩
abbrev PS_FREE : Ref := ⟨0x2301, 0, 0⟩
abbrev WH_FREE : Ref := ⟨0x2301, 0, 1⟩
abbrev OVF_LEN : Ref := ⟨0x2301, 0, 2⟩
abbrev SN_ATTEMPTS : Ref := ⟨0x2302, 0, 0⟩
abbrev SN_ANSWERED : Ref := ⟨0x2302, 0, 1⟩
abbrev SN_UNANSWERED : Ref := ⟨0x2302, 0, 2⟩
abbrev SN_FULL_SENT : Ref := ⟨0x2302, 0, 3⟩
abbrev SN_FULL_REFUSED : Ref := ⟨0x2302, 0, 4⟩
abbrev SN_TALLY_WAIT : Ref := ⟨0x2302, 0, 5⟩
abbrev SN_LATE : Ref := ⟨0x2302, 0, 6⟩
abbrev SN_YIELD : Ref := ⟨0x2302, 0, 7⟩
abbrev SN_BEYOND : Ref := ⟨0x2302, 0, 8⟩
abbrev SN_UNREACH : Ref := ⟨0x2302, 0, 9⟩
abbrev SN_PS_DROP : Ref := ⟨0x2302, 0, 10⟩
abbrev SN_TTL_DROP : Ref := ⟨0x2302, 0, 11⟩
abbrev OVF_ENTERED : Ref := ⟨0x2302, 0, 12⟩
abbrev SN_FOLLOW : Ref := ⟨0x2302, 0, 13⟩
abbrev SN_SERVICE (i : Nat) : Ref := ⟨0x2310, i, 0⟩
abbrev SN_PERIOD (i : Nat) : Ref := ⟨0x2310, i, 1⟩
abbrev SN_LINK (i : Nat) : Ref := ⟨0x2310, i, 2⟩
abbrev SN_STATUS (i : Nat) : Ref := ⟨0x2310, i, 3⟩
abbrev SN_DRIFT (i : Nat) : Ref := ⟨0x2310, i, 4⟩
abbrev SN_UNCERT (i : Nat) : Ref := ⟨0x2310, i, 5⟩
abbrev SN_ANCHOR (i : Nat) (k : Nat) : Ref := ⟨0x2310, i, 6 + k⟩
abbrev SN_CMD (i : Nat) : Ref := ⟨0x2310, i, 8⟩

/-! 10_tally.md -/
abbrev TL_REGION : Ref := ⟨0x2400, 0, 0⟩
abbrev TL_BOOT_FILL : Ref := ⟨0x2400, 0, 1⟩
abbrev TL_OVER_COUNT : Ref := ⟨0x2400, 0, 2⟩
abbrev TP_GROUP (i : Nat) : Ref := ⟨0x2401, i, 0⟩
abbrev SB_LOW (i : Nat) : Ref := ⟨0x2410, i, 0⟩
abbrev SB_HIGH (i : Nat) : Ref := ⟨0x2410, i, 1⟩
abbrev SB_BUDGET (i : Nat) : Ref := ⟨0x2410, i, 2⟩
abbrev SB_MAX_TX (i : Nat) : Ref := ⟨0x2410, i, 3⟩
abbrev SB_DWELL (i : Nat) : Ref := ⟨0x2410, i, 4⟩
abbrev SB_LBT (i : Nat) : Ref := ⟨0x2410, i, 5⟩
abbrev AC_USED (i : Nat) : Ref := ⟨0x2420, i, 0⟩
abbrev AC_RESERVED (i : Nat) : Ref := ⟨0x2420, i, 1⟩
abbrev AC_OVER (i : Nat) : Ref := ⟨0x2420, i, 2⟩
abbrev AC_REFUSED (i : Nat) : Ref := ⟨0x2420, i, 3⟩
abbrev AC_LAST_CAUSE (i : Nat) : Ref := ⟨0x2420, i, 4⟩
abbrev REF_NO_SUBBAND : Ref := ⟨0x2430, 0, 0⟩
abbrev REF_MAX_TX : Ref := ⟨0x2430, 0, 1⟩
abbrev REF_BUDGET : Ref := ⟨0x2430, 0, 2⟩
abbrev REF_DWELL : Ref := ⟨0x2430, 0, 3⟩
abbrev REF_LBT_SHORT : Ref := ⟨0x2430, 0, 4⟩

/-! 11_node_table_forwarding.md -/
abbrev NT_EVICT : Ref := ⟨0x3000, 0, 0⟩
abbrev NT_MOVES : Ref := ⟨0x3000, 0, 1⟩
abbrev NT_COUNT : Ref := ⟨0x3000, 0, 2⟩
abbrev NT_FREE : Ref := ⟨0x3000, 0, 3⟩
abbrev NT_REMOTE_WAIT : Ref := ⟨0x3000, 0, 4⟩
abbrev NT_STALE : Ref := ⟨0x3000, 0, 5⟩
abbrev NT_EVICTED : Ref := ⟨0x3000, 0, 6⟩
abbrev CR_EUI64 (i : Nat) : Ref := ⟨0x3001, i, 0⟩
abbrev CR_IID (i : Nat) : Ref := ⟨0x3001, i, 1⟩
abbrev CR_INDEX (i : Nat) : Ref := ⟨0x3001, i, 2⟩
abbrev CR_CMD (i : Nat) : Ref := ⟨0x3001, i, 3⟩
abbrev CR_RESULT (i : Nat) : Ref := ⟨0x3001, i, 4⟩
abbrev TB_SEED1 (i : Nat) : Ref := ⟨0x3002, i, 0⟩
abbrev TB_SEED2 (i : Nat) : Ref := ⟨0x3002, i, 1⟩
abbrev TB_ENTRIES (i : Nat) : Ref := ⟨0x3002, i, 2⟩
abbrev TB_STASH (i : Nat) : Ref := ⟨0x3002, i, 3⟩
abbrev TB_INSERTS (i : Nat) : Ref := ⟨0x3002, i, 4⟩
abbrev TB_MOVES (i : Nat) : Ref := ⟨0x3002, i, 5⟩
abbrev TB_LONGEST (i : Nat) : Ref := ⟨0x3002, i, 6⟩
abbrev TB_STASHED (i : Nat) : Ref := ⟨0x3002, i, 7⟩
abbrev TB_FAILS (i : Nat) : Ref := ⟨0x3002, i, 8⟩
abbrev FERRY_HITS (i : Nat) : Ref := ⟨0x3002, i, 9⟩
abbrev PT_BASE (i : Nat) : Ref := ⟨0x3003, i, 0⟩
abbrev PT_LIMIT (i : Nat) : Ref := ⟨0x3003, i, 1⟩
abbrev NW_FAMILY (i : Nat) : Ref := ⟨0x3008, i, 0⟩
abbrev NW_NODE (i : Nat) : Ref := ⟨0x3008, i, 1⟩
abbrev PL_UP (i : Nat) : Ref := ⟨0x3020, i, 0⟩
abbrev PL_DOWN (i : Nat) : Ref := ⟨0x3020, i, 1⟩
abbrev PL_CACHE_HITS (i : Nat) : Ref := ⟨0x3020, i, 2⟩
abbrev PL_CACHE_MISSES (i : Nat) : Ref := ⟨0x3020, i, 3⟩
abbrev PL_LEARNED (i : Nat) : Ref := ⟨0x3020, i, 4⟩
abbrev PL_REMOTE (i : Nat) : Ref := ⟨0x3020, i, 5⟩
abbrev PL_REMOTE_TIMEOUT (i : Nat) : Ref := ⟨0x3020, i, 6⟩
abbrev PL_STALE_CACHE (i : Nat) : Ref := ⟨0x3020, i, 7⟩
abbrev PL_NO_NODE (i : Nat) : Ref := ⟨0x3020, i, 8⟩
abbrev PL_NO_ROUTE (i : Nat) : Ref := ⟨0x3020, i, 9⟩
abbrev PL_FOREIGN (i : Nat) : Ref := ⟨0x3020, i, 10⟩
abbrev PL_REASM_TIMEOUT (i : Nat) : Ref := ⟨0x3020, i, 11⟩
abbrev PL_UNSUPPORTED (i : Nat) : Ref := ⟨0x3020, i, 12⟩
abbrev PL_EXCEPTION (i : Nat) : Ref := ⟨0x3020, i, 13⟩
abbrev FW_PREFIX (k : Nat) : Ref := ⟨0x3030, 0, k⟩
abbrev FW_INSTANCE : Ref := ⟨0x3030, 0, 2⟩
abbrev FW_ROOT_RANK : Ref := ⟨0x3030, 0, 3⟩
abbrev FW_MAX_HOPS : Ref := ⟨0x3030, 0, 4⟩
abbrev FW_REASM_MS : Ref := ⟨0x3030, 0, 5⟩
abbrev FW_REASM_MAX : Ref := ⟨0x3030, 0, 6⟩
abbrev FW_CTRL_FIFO : Ref := ⟨0x3030, 0, 7⟩
abbrev FW_EXC_FIFO : Ref := ⟨0x3030, 0, 8⟩
abbrev CTX_PREFIX (i : Nat) (k : Nat) : Ref := ⟨0x3031, i, k⟩
abbrev CTX_LEN (i : Nat) : Ref := ⟨0x3031, i, 2⟩
abbrev NT_STATE (i : Nat) : Ref := ⟨0x3100, i, 0⟩
abbrev NT_EUI64 (i : Nat) : Ref := ⟨0x3100, i, 1⟩
abbrev NT_IID (i : Nat) : Ref := ⟨0x3100, i, 2⟩
abbrev NT_SHORT (i : Nat) : Ref := ⟨0x3100, i, 3⟩
abbrev NT_PARENT (i : Nat) (k : Nat) : Ref := ⟨0x3100, i, 4 + k⟩
abbrev NT_RANK (i : Nat) : Ref := ⟨0x3100, i, 7⟩
abbrev NT_DAO (i : Nat) : Ref := ⟨0x3100, i, 8⟩
abbrev NT_FC (i : Nat) : Ref := ⟨0x3100, i, 9⟩
abbrev NT_MIC_TAG (i : Nat) : Ref := ⟨0x3100, i, 10⟩
abbrev NT_KEY (i : Nat) : Ref := ⟨0x3100, i, 11⟩
abbrev NT_FW (i : Nat) : Ref := ⟨0x3100, i, 12⟩
abbrev NT_LAST_HEARD (i : Nat) : Ref := ⟨0x3100, i, 13⟩
abbrev NT_METRICS (i : Nat) : Ref := ⟨0x3100, i, 14⟩
abbrev NT_GROUPS (i : Nat) : Ref := ⟨0x3100, i, 15⟩
abbrev NT_COUNTS (i : Nat) : Ref := ⟨0x3100, i, 16⟩
abbrev NT_PIN (i : Nat) : Ref := ⟨0x3100, i, 17⟩
abbrev NT_GEN (i : Nat) : Ref := ⟨0x3100, i, 18⟩
abbrev NT_CMD (i : Nat) : Ref := ⟨0x3100, i, 19⟩

/-! 12_queues_shaping_policing.md -/
abbrev TM_FREE : Ref := ⟨0x3400, 0, 0⟩
abbrev TM_DEFAULT_FC : Ref := ⟨0x3400, 0, 1⟩
abbrev JQ_METER : Ref := ⟨0x3400, 0, 2⟩
abbrev JQ_QUEUE : Ref := ⟨0x3400, 0, 3⟩
abbrev JQ_STORM_ON : Ref := ⟨0x3400, 0, 4⟩
abbrev JQ_STORM_OFF : Ref := ⟨0x3400, 0, 5⟩
abbrev JQ_STORM : Ref := ⟨0x3400, 0, 6⟩
abbrev TM_NO_QUEUE : Ref := ⟨0x3400, 0, 7⟩
abbrev TM_NO_CELLS : Ref := ⟨0x3400, 0, 8⟩
abbrev FC_OF_DSCP (i : Nat) (k : Nat) : Ref := ⟨0x3401, i, k⟩
abbrev FC_METER (i : Nat) : Ref := ⟨0x3410, i, 0⟩
abbrev FC_QUEUE (i : Nat) : Ref := ⟨0x3410, i, 1⟩
abbrev Q_DEST (i : Nat) : Ref := ⟨0x3420, i, 0⟩
abbrev Q_LIMIT (i : Nat) : Ref := ⟨0x3420, i, 1⟩
abbrev Q_YELLOW_LIMIT (i : Nat) : Ref := ⟨0x3420, i, 2⟩
abbrev Q_WEIGHT (i : Nat) : Ref := ⟨0x3420, i, 3⟩
abbrev Q_CELLS (i : Nat) : Ref := ⟨0x3420, i, 4⟩
abbrev Q_FRAMES (i : Nat) : Ref := ⟨0x3420, i, 5⟩
abbrev Q_OVER (i : Nat) : Ref := ⟨0x3420, i, 6⟩
abbrev Q_ENQ (i : Nat) : Ref := ⟨0x3421, i, 0⟩
abbrev Q_REL (i : Nat) : Ref := ⟨0x3421, i, 1⟩
abbrev Q_DROP_LIMIT (i : Nat) : Ref := ⟨0x3421, i, 2⟩
abbrev Q_DROP_YELLOW (i : Nat) : Ref := ⟨0x3421, i, 3⟩
abbrev Q_DROP_QUOTA (i : Nat) : Ref := ⟨0x3421, i, 4⟩
abbrev Q_NO_FIT (i : Nat) : Ref := ⟨0x3421, i, 5⟩
abbrev SH_EN (i : Nat) : Ref := ⟨0x3430, i, 0⟩
abbrev SH_RATE (i : Nat) : Ref := ⟨0x3430, i, 1⟩
abbrev SH_BURST (i : Nat) : Ref := ⟨0x3430, i, 2⟩
abbrev SH_OVERHEAD (i : Nat) : Ref := ⟨0x3430, i, 3⟩
abbrev SH_TOKENS (i : Nat) : Ref := ⟨0x3430, i, 4⟩
abbrev TM_MODE (i : Nat) : Ref := ⟨0x3440, i, 0⟩
abbrev TM_CIR (i : Nat) : Ref := ⟨0x3440, i, 1⟩
abbrev TM_CBS (i : Nat) : Ref := ⟨0x3440, i, 2⟩
abbrev TM_XIR (i : Nat) : Ref := ⟨0x3440, i, 3⟩
abbrev TM_XBS (i : Nat) : Ref := ⟨0x3440, i, 4⟩
abbrev TM_ACTION (i : Nat) : Ref := ⟨0x3440, i, 5⟩
abbrev TM_TC (i : Nat) : Ref := ⟨0x3440, i, 6⟩
abbrev TM_TX (i : Nat) : Ref := ⟨0x3440, i, 7⟩
abbrev TM_GREEN (i : Nat) : Ref := ⟨0x3441, i, 0⟩
abbrev TM_YELLOW (i : Nat) : Ref := ⟨0x3441, i, 1⟩
abbrev TM_RED (i : Nat) : Ref := ⟨0x3441, i, 2⟩
abbrev TM_RED_DROP (i : Nat) : Ref := ⟨0x3441, i, 3⟩
abbrev NG_METER (i : Nat) : Ref := ⟨0x3450, i, 0⟩
abbrev NG_QUEUE (i : Nat) : Ref := ⟨0x3450, i, 1⟩
abbrev NG_BUF_QUOTA (i : Nat) : Ref := ⟨0x3450, i, 2⟩
abbrev NG_PS_QUOTA (i : Nat) : Ref := ⟨0x3450, i, 3⟩
abbrev NG_BUF_HELD (i : Nat) : Ref := ⟨0x3450, i, 4⟩
abbrev NG_PS_HELD (i : Nat) : Ref := ⟨0x3450, i, 5⟩
abbrev NG_OVER (i : Nat) : Ref := ⟨0x3450, i, 6⟩
abbrev NG_REFUSED (i : Nat) : Ref := ⟨0x3450, i, 7⟩
abbrev QG_BUF_QUOTA (i : Nat) : Ref := ⟨0x3460, i, 0⟩
abbrev QG_PS_QUOTA (i : Nat) : Ref := ⟨0x3460, i, 1⟩
abbrev QG_BUF_HELD (i : Nat) : Ref := ⟨0x3460, i, 2⟩
abbrev QG_PS_HELD (i : Nat) : Ref := ⟨0x3460, i, 3⟩
abbrev QG_OVER (i : Nat) : Ref := ⟨0x3460, i, 4⟩
abbrev QG_REFUSED (i : Nat) : Ref := ⟨0x3460, i, 5⟩
abbrev GT_ACTIVE (i : Nat) : Ref := ⟨0x3470, i, 0⟩
abbrev GT_STATE (i : Nat) : Ref := ⟨0x3470, i, 1⟩
abbrev GT_OPEN (i : Nat) : Ref := ⟨0x3470, i, 2⟩
abbrev GT_SWITCH (i : Nat) (k : Nat) : Ref := ⟨0x3470, i, 3 + k⟩
abbrev GT_ENTRY (i : Nat) : Ref := ⟨0x3470, i, 5⟩
abbrev GL_COUNT (i : Nat) : Ref := ⟨0x3471, i, 0⟩
abbrev GL_CYCLE (i : Nat) : Ref := ⟨0x3471, i, 1⟩
abbrev GL_BASE (i : Nat) (k : Nat) : Ref := ⟨0x3471, i, 2 + k⟩
abbrev GL_ENTRY (i : Nat) (k : Nat) : Ref := ⟨0x3471, i, 4 + k⟩
abbrev GLB_COUNT (i : Nat) : Ref := ⟨0x3472, i, 0⟩
abbrev GLB_CYCLE (i : Nat) : Ref := ⟨0x3472, i, 1⟩
abbrev GLB_BASE (i : Nat) (k : Nat) : Ref := ⟨0x3472, i, 2 + k⟩
abbrev GLB_ENTRY (i : Nat) (k : Nat) : Ref := ⟨0x3472, i, 4 + k⟩

/-! 13_keys_crypto.md -/
abbrev K_ATTR (i : Nat) : Ref := ⟨0x4000, i, 0⟩
abbrev K_STATE (i : Nat) : Ref := ⟨0x4000, i, 1⟩
abbrev K_USES (i : Nat) : Ref := ⟨0x4000, i, 2⟩
abbrev K_KCV (i : Nat) : Ref := ⟨0x4000, i, 3⟩
abbrev K_STAGED_KCV (i : Nat) : Ref := ⟨0x4000, i, 4⟩
abbrev K_ROLL (i : Nat) : Ref := ⟨0x4000, i, 5⟩
abbrev K_ZEROIZE (i : Nat) : Ref := ⟨0x4000, i, 6⟩
abbrev K_FC (i : Nat) : Ref := ⟨0x4000, i, 7⟩
abbrev K_OPS (i : Nat) : Ref := ⟨0x4000, i, 8⟩
abbrev KI_TARGET : Ref := ⟨0x4010, 0, 0⟩
abbrev KI_ATTR : Ref := ⟨0x4010, 0, 1⟩
abbrev KI_USES : Ref := ⟨0x4010, 0, 2⟩
abbrev KI_SOURCE : Ref := ⟨0x4010, 0, 3⟩
abbrev KI_KCV : Ref := ⟨0x4010, 0, 4⟩
abbrev KI_OFFSET : Ref := ⟨0x4010, 0, 5⟩
abbrev KI_DATA (k : Nat) : Ref := ⟨0x4010, 0, 6 + k⟩
abbrev KI_WRITE : Ref := ⟨0x4010, 0, 38⟩
abbrev KI_LEN : Ref := ⟨0x4010, 0, 39⟩
abbrev KI_CMD : Ref := ⟨0x4010, 0, 40⟩
abbrev KI_STATUS : Ref := ⟨0x4010, 0, 41⟩
abbrev KP_SLOT : Ref := ⟨0x4011, 0, 0⟩
abbrev KP_OFFSET : Ref := ⟨0x4011, 0, 1⟩
abbrev KP_LEN : Ref := ⟨0x4011, 0, 2⟩
abbrev KP_DATA (k : Nat) : Ref := ⟨0x4011, 0, 3 + k⟩
abbrev LC_STATE : Ref := ⟨0x4020, 0, 0⟩
abbrev LC_TARGET : Ref := ⟨0x4020, 0, 1⟩
abbrev LC_REQUEST : Ref := ⟨0x4020, 0, 2⟩
abbrev LC_RECORDS_LEFT : Ref := ⟨0x4020, 0, 3⟩
abbrev LC_NONCE : Ref := ⟨0x4020, 0, 4⟩
abbrev LC_ROOT_KILLED : Ref := ⟨0x4020, 0, 5⟩
abbrev LS_LEVEL : Ref := ⟨0x4030, 0, 0⟩
abbrev LS_MIN_LEVEL : Ref := ⟨0x4030, 0, 1⟩
abbrev LS_NET_SLOT : Ref := ⟨0x4030, 0, 2⟩
abbrev FC_EPOCH : Ref := ⟨0x4030, 0, 3⟩
abbrev LEAP_STATE : Ref := ⟨0x4030, 0, 4⟩
abbrev LS_SEC_FAIL : Ref := ⟨0x4030, 0, 5⟩
abbrev LS_STALE_KEY : Ref := ⟨0x4030, 0, 6⟩
abbrev LS_FC_EXHAUSTED : Ref := ⟨0x4030, 0, 7⟩
abbrev LS_NO_NETKEY : Ref := ⟨0x4030, 0, 8⟩
abbrev CQ_WEIGHT (i : Nat) : Ref := ⟨0x4040, i, 0⟩
abbrev CQ_DEPTH (i : Nat) : Ref := ⟨0x4040, i, 1⟩
abbrev CQ_DONE (i : Nat) : Ref := ⟨0x4040, i, 2⟩
abbrev CQ_REFUSED (i : Nat) : Ref := ⟨0x4040, i, 3⟩

/-! 14_join_attestation.md -/
abbrev J_EN : Ref := ⟨0x4300, 0, 0⟩
abbrev J_PORT : Ref := ⟨0x4300, 0, 1⟩
abbrev J_KEM_SLOT : Ref := ⟨0x4300, 0, 2⟩
abbrev J_TOKEN_SLOT : Ref := ⟨0x4300, 0, 3⟩
abbrev J_TOKEN_LIFE : Ref := ⟨0x4300, 0, 4⟩
abbrev J_TOKEN_GEN : Ref := ⟨0x4300, 0, 5⟩
abbrev J_SKEW : Ref := ⟨0x4300, 0, 6⟩
abbrev J_SESSIONS_MAX : Ref := ⟨0x4300, 0, 7⟩
abbrev J_STEP_WAIT : Ref := ⟨0x4300, 0, 8⟩
abbrev J_LINGER : Ref := ⟨0x4300, 0, 9⟩
abbrev J_RETRY_AFTER : Ref := ⟨0x4300, 0, 10⟩
abbrev J_STORM_REFUSE : Ref := ⟨0x4300, 0, 11⟩
abbrev J_NETWORK_ID : Ref := ⟨0x4300, 0, 12⟩
abbrev J_RELAY_EN : Ref := ⟨0x4300, 0, 13⟩
abbrev J_SERVE_ASN : Ref := ⟨0x4300, 0, 14⟩
abbrev J_SESSIONS : Ref := ⟨0x4300, 0, 15⟩
abbrev J_EN_OFFSET : Ref := ⟨0x4301, 0, 0⟩
abbrev J_EN_DATA (k : Nat) : Ref := ⟨0x4301, 0, 1 + k⟩
abbrev J_EN_WRITE : Ref := ⟨0x4301, 0, 33⟩
abbrev J_EN_SEAL : Ref := ⟨0x4301, 0, 34⟩
abbrev J_EN_STATE : Ref := ⟨0x4301, 0, 35⟩
abbrev J_RS_DIGEST : Ref := ⟨0x4301, 0, 36⟩
abbrev J_HELLOS : Ref := ⟨0x4302, 0, 0⟩
abbrev J_ACCEPTED : Ref := ⟨0x4302, 0, 1⟩
abbrev J_RESUMED : Ref := ⟨0x4302, 0, 2⟩
abbrev J_SEG_DROP : Ref := ⟨0x4302, 0, 3⟩
abbrev J_TIMEOUTS : Ref := ⟨0x4302, 0, 4⟩
abbrev J_REJECTS (k : Nat) : Ref := ⟨0x4303, 0, 1 + k⟩
abbrev IS_SLOT (i : Nat) : Ref := ⟨0x4310, i, 0⟩
abbrev IS_EN (i : Nat) : Ref := ⟨0x4310, i, 1⟩
abbrev IS_STATE (i : Nat) : Ref := ⟨0x4310, i, 2⟩
abbrev IS_ID (i : Nat) : Ref := ⟨0x4310, i, 3⟩
abbrev IS_OFFSET (i : Nat) : Ref := ⟨0x4310, i, 4⟩
abbrev IS_DATA (i : Nat) (k : Nat) : Ref := ⟨0x4310, i, 5 + k⟩
abbrev IS_WRITE (i : Nat) : Ref := ⟨0x4310, i, 37⟩
abbrev IS_SEAL (i : Nat) : Ref := ⟨0x4310, i, 38⟩
abbrev AT_NONCE (k : Nat) : Ref := ⟨0x4320, 0, k⟩
abbrev AT_CMD : Ref := ⟨0x4320, 0, 4⟩
abbrev AT_STATUS : Ref := ⟨0x4320, 0, 5⟩
abbrev AT_OFFSET : Ref := ⟨0x4320, 0, 6⟩
abbrev AT_DATA (k : Nat) : Ref := ⟨0x4320, 0, 7 + k⟩

/-! 15_node_image_campaigns.md -/
abbrev IM_STATE (i : Nat) : Ref := ⟨0x4400, i, 0⟩
abbrev IM_LENGTH (i : Nat) : Ref := ⟨0x4400, i, 1⟩
abbrev IM_VERSION (i : Nat) : Ref := ⟨0x4400, i, 2⟩
abbrev IM_TARGET (i : Nat) : Ref := ⟨0x4400, i, 3⟩
abbrev IM_SLOT (i : Nat) : Ref := ⟨0x4400, i, 4⟩
abbrev IM_OFFSET (i : Nat) : Ref := ⟨0x4400, i, 5⟩
abbrev IM_DATA (i : Nat) (k : Nat) : Ref := ⟨0x4400, i, 6 + k⟩
abbrev IM_WRITE (i : Nat) : Ref := ⟨0x4400, i, 38⟩
abbrev IM_SEAL (i : Nat) : Ref := ⟨0x4400, i, 39⟩
abbrev IM_ERASE (i : Nat) : Ref := ⟨0x4400, i, 40⟩
abbrev IM_USERS (i : Nat) : Ref := ⟨0x4400, i, 41⟩
abbrev CA_UDP : Ref := ⟨0x4401, 0, 0⟩
abbrev CA_BAD_MSG : Ref := ⟨0x4401, 0, 1⟩
abbrev CA_IMAGE (i : Nat) : Ref := ⟨0x4410, i, 0⟩
abbrev CA_GROUPS (i : Nat) : Ref := ⟨0x4410, i, 1⟩
abbrev CA_PORTS (i : Nat) : Ref := ⟨0x4410, i, 2⟩
abbrev CA_REPAIR (i : Nat) : Ref := ⟨0x4410, i, 3⟩
abbrev CA_GAP (i : Nat) : Ref := ⟨0x4410, i, 4⟩
abbrev CA_QUEUE (i : Nat) : Ref := ⟨0x4410, i, 5⟩
abbrev CA_FILL_PAR (i : Nat) : Ref := ⟨0x4410, i, 6⟩
abbrev CA_FILL_TRIES (i : Nat) : Ref := ⟨0x4410, i, 7⟩
abbrev CA_STATUS_WAIT (i : Nat) : Ref := ⟨0x4410, i, 8⟩
abbrev CA_START_ASN (i : Nat) : Ref := ⟨0x4410, i, 9⟩
abbrev CA_CMD (i : Nat) : Ref := ⟨0x4410, i, 10⟩
abbrev CA_STATE (i : Nat) : Ref := ⟨0x4410, i, 11⟩
abbrev CA_LAST (i : Nat) : Ref := ⟨0x4410, i, 12⟩
abbrev CA_ID (i : Nat) : Ref := ⟨0x4410, i, 13⟩
abbrev CA_NODES (i : Nat) (k : Nat) : Ref := ⟨0x4410, i, 14 + k⟩
abbrev CA_BLOCKS_SENT (i : Nat) : Ref := ⟨0x4410, i, 21⟩
abbrev CA_TALLY_WAIT (i : Nat) : Ref := ⟨0x4410, i, 22⟩
abbrev CN_STATE (i : Nat) (k : Nat) : Ref := ⟨0x4420, i, k⟩

/-! 16_backhaul_time.md -/
abbrev ETH_MODE (i : Nat) : Ref := ⟨0x5000, i, 0⟩
abbrev ETH_AN (i : Nat) : Ref := ⟨0x5000, i, 1⟩
abbrev ETH_SPEED (i : Nat) : Ref := ⟨0x5000, i, 2⟩
abbrev ETH_LINK (i : Nat) : Ref := ⟨0x5000, i, 3⟩
abbrev ETH_MAC (i : Nat) : Ref := ⟨0x5000, i, 4⟩
abbrev ETH_MTU (i : Nat) : Ref := ⟨0x5000, i, 5⟩
abbrev ETH_PVID (i : Nat) : Ref := ⟨0x5000, i, 6⟩
abbrev ETH_PAUSE (i : Nat) : Ref := ⟨0x5000, i, 7⟩
abbrev ETH_TS_DELAY_RX (i : Nat) : Ref := ⟨0x5000, i, 8⟩
abbrev ETH_TS_DELAY_TX (i : Nat) : Ref := ⟨0x5000, i, 9⟩
abbrev ETH_DEFAULT_IF (i : Nat) : Ref := ⟨0x5000, i, 10⟩
abbrev ETH_RX_FRAMES (i : Nat) : Ref := ⟨0x5001, i, 0⟩
abbrev RX_OCTETS (i : Nat) (k : Nat) : Ref := ⟨0x5001, i, 1 + k⟩
abbrev ETH_TX_FRAMES (i : Nat) : Ref := ⟨0x5001, i, 3⟩
abbrev TX_OCTETS (i : Nat) (k : Nat) : Ref := ⟨0x5001, i, 4 + k⟩
abbrev RX_FCS_ERR (i : Nat) : Ref := ⟨0x5001, i, 6⟩
abbrev RX_FILTERED (i : Nat) : Ref := ⟨0x5001, i, 7⟩
abbrev TX_NO_NEIGH (i : Nat) : Ref := ⟨0x5001, i, 8⟩
abbrev RX_PAUSE (i : Nat) : Ref := ⟨0x5001, i, 9⟩
abbrev ETH_CTRL_FIFO : Ref := ⟨0x5002, 0, 0⟩
abbrev MD_CMD : Ref := ⟨0x5002, 0, 1⟩
abbrev MD_RESULT : Ref := ⟨0x5002, 0, 2⟩
abbrev IF_PORT (i : Nat) : Ref := ⟨0x5010, i, 0⟩
abbrev IF_VID (i : Nat) : Ref := ⟨0x5010, i, 1⟩
abbrev IF_IPV6 (i : Nat) (k : Nat) : Ref := ⟨0x5010, i, 2 + k⟩
abbrev IF_V6_LEN (i : Nat) : Ref := ⟨0x5010, i, 4⟩
abbrev IF_IPV4 (i : Nat) (k : Nat) : Ref := ⟨0x5010, i, 5 + k⟩
abbrev IF_V4_LEN (i : Nat) : Ref := ⟨0x5010, i, 7⟩
abbrev IF_ROUTER (i : Nat) (k : Nat) : Ref := ⟨0x5010, i, 8 + k⟩
abbrev NB_ADDR (i : Nat) (k : Nat) : Ref := ⟨0x5020, i, k⟩
abbrev NB_IF (i : Nat) : Ref := ⟨0x5020, i, 2⟩
abbrev NB_MAC (i : Nat) : Ref := ⟨0x5020, i, 3⟩
abbrev PP_STATE (i : Nat) : Ref := ⟨0x5100, i, 0⟩
abbrev PP_TRANSPORT (i : Nat) : Ref := ⟨0x5100, i, 1⟩
abbrev PP_DELAY (i : Nat) : Ref := ⟨0x5100, i, 2⟩
abbrev PP_ONE_STEP (i : Nat) : Ref := ⟨0x5100, i, 3⟩
abbrev PP_LOG_SYNC (i : Nat) : Ref := ⟨0x5100, i, 4⟩
abbrev PP_LOG_DELAY (i : Nat) : Ref := ⟨0x5100, i, 5⟩
abbrev PP_ASYM (i : Nat) : Ref := ⟨0x5100, i, 6⟩
abbrev PP_DELAY_AVG (i : Nat) : Ref := ⟨0x5100, i, 7⟩
abbrev PP_IF (i : Nat) : Ref := ⟨0x5100, i, 8⟩
abbrev PP_PARENT_ID (i : Nat) : Ref := ⟨0x5100, i, 9⟩
abbrev PP_PARENT_PORT (i : Nat) : Ref := ⟨0x5100, i, 10⟩
abbrev PP_MEAN_DELAY (i : Nat) : Ref := ⟨0x5100, i, 11⟩
abbrev PP_EVENT_RX (i : Nat) : Ref := ⟨0x5100, i, 12⟩
abbrev PP_EVENT_TX (i : Nat) : Ref := ⟨0x5100, i, 13⟩
abbrev PP_ERRORS (i : Nat) : Ref := ⟨0x5100, i, 14⟩
abbrev PTP_DOMAIN : Ref := ⟨0x5101, 0, 0⟩
abbrev PTP_SDOID : Ref := ⟨0x5101, 0, 1⟩
abbrev PTP_FIFO : Ref := ⟨0x5101, 0, 2⟩
abbrev TU_NOW (k : Nat) : Ref := ⟨0x5200, 0, k⟩
abbrev TU_RATE : Ref := ⟨0x5200, 0, 2⟩
abbrev TU_STEP_NS : Ref := ⟨0x5200, 0, 3⟩
abbrev TU_SET (k : Nat) : Ref := ⟨0x5200, 0, 4 + k⟩
abbrev TU_CMD : Ref := ⟨0x5200, 0, 6⟩
abbrev TU_STEP_SEQ : Ref := ⟨0x5200, 0, 7⟩
abbrev SV_SOURCE : Ref := ⟨0x5201, 0, 0⟩
abbrev SV_KP : Ref := ⟨0x5201, 0, 1⟩
abbrev SV_KI : Ref := ⟨0x5201, 0, 2⟩
abbrev SV_RATE_MAX : Ref := ⟨0x5201, 0, 3⟩
abbrev SV_STEP_NS : Ref := ⟨0x5201, 0, 4⟩
abbrev SV_LOCK_NS : Ref := ⟨0x5201, 0, 5⟩
abbrev SV_LOCK_COUNT : Ref := ⟨0x5201, 0, 6⟩
abbrev SV_LOSS_MS : Ref := ⟨0x5201, 0, 7⟩
abbrev SV_STATE : Ref := ⟨0x5201, 0, 8⟩
abbrev SV_OFFSET : Ref := ⟨0x5201, 0, 9⟩
abbrev SV_FREQ : Ref := ⟨0x5201, 0, 10⟩
abbrev SV_HOLD_AGE : Ref := ⟨0x5201, 0, 11⟩
abbrev TQ_ENTRY (i : Nat) : Ref := ⟨0x5210, i, 0⟩
abbrev TQ_TIME (i : Nat) (k : Nat) : Ref := ⟨0x5210, i, 1 + k⟩
abbrev TQ_DEPTH (i : Nat) : Ref := ⟨0x5210, i, 3⟩
abbrev TQ_OVERFLOW (i : Nat) : Ref := ⟨0x5210, i, 4⟩
abbrev PPS_EN : Ref := ⟨0x5220, 0, 0⟩
abbrev PPS_WIDTH : Ref := ⟨0x5220, 0, 1⟩
abbrev PPS_OUT_OFFSET : Ref := ⟨0x5220, 0, 2⟩
abbrev PPS_HOLD_MUTE : Ref := ⟨0x5220, 0, 3⟩
abbrev PPS_IN_EDGE : Ref := ⟨0x5220, 0, 4⟩
abbrev PPS_IN_DELAY : Ref := ⟨0x5220, 0, 5⟩
abbrev TR_EN : Ref := ⟨0x5220, 0, 6⟩
abbrev TR_FREQ : Ref := ⟨0x5220, 0, 7⟩
abbrev TR_VALID : Ref := ⟨0x5220, 0, 8⟩

/-! 17_pair_redundancy.md -/
abbrev PR_PERIOD : Ref := ⟨0x5300, 0, 0⟩
abbrev PR_MAX_AGE : Ref := ⟨0x5300, 0, 1⟩
abbrev PR_TIME_HOLD : Ref := ⟨0x5300, 0, 2⟩
abbrev PR_PAIR_SLOT : Ref := ⟨0x5300, 0, 3⟩
abbrev PR_LINK_ASYM : Ref := ⟨0x5300, 0, 4⟩
abbrev PR_YIELD_MS : Ref := ⟨0x5300, 0, 5⟩
abbrev PR_LINK : Ref := ⟨0x5300, 0, 6⟩
abbrev PR_STATE : Ref := ⟨0x5300, 0, 7⟩
abbrev PR_PEER_STATE : Ref := ⟨0x5300, 0, 8⟩
abbrev PR_CMD : Ref := ⟨0x5300, 0, 9⟩
abbrev PR_IMAGE_SEQ : Ref := ⟨0x5300, 0, 10⟩
abbrev PR_IMAGE_AGE : Ref := ⟨0x5300, 0, 11⟩
abbrev PR_AREA : Ref := ⟨0x5300, 0, 12⟩
abbrev PR_TIME_ERR : Ref := ⟨0x5300, 0, 13⟩
abbrev PR_TAKEOVER_AGE : Ref := ⟨0x5300, 0, 14⟩
abbrev PR_GAP : Ref := ⟨0x5300, 0, 15⟩
abbrev PR_FREEZE_MAX : Ref := ⟨0x5300, 0, 16⟩
abbrev PR_IMAGES : Ref := ⟨0x5301, 0, 0⟩
abbrev PR_IMAGES_BAD : Ref := ⟨0x5301, 0, 1⟩
abbrev PR_ABANDONED : Ref := ⟨0x5301, 0, 2⟩
abbrev PR_SWITCHOVERS : Ref := ⟨0x5301, 0, 3⟩
abbrev WIT_FENCE_GAP : Ref := ⟨0x5310, 0, 0⟩
abbrev WIT_TAKE_MS : Ref := ⟨0x5310, 0, 1⟩
abbrev WIT_HB_LOSS : Ref := ⟨0x5310, 0, 2⟩
abbrev WIT_START_WAIT : Ref := ⟨0x5310, 0, 3⟩
abbrev WIT_COLD_OK : Ref := ⟨0x5310, 0, 4⟩
abbrev WIT_CMD : Ref := ⟨0x5310, 0, 5⟩
abbrev WIT_STATE : Ref := ⟨0x5310, 0, 6⟩
abbrev WIT_UNITS : Ref := ⟨0x5310, 0, 7⟩
abbrev WIT_MOVES : Ref := ⟨0x5310, 0, 8⟩

/-! 18_fabric.md -/
abbrev FB_EN (i : Nat) : Ref := ⟨0x5400, i, 0⟩
abbrev FB_ROLE (i : Nat) : Ref := ⟨0x5400, i, 1⟩
abbrev FB_STATE (i : Nat) : Ref := ⟨0x5400, i, 2⟩
abbrev FB_PEER (i : Nat) : Ref := ⟨0x5400, i, 3⟩
abbrev FB_PEER_UID (i : Nat) : Ref := ⟨0x5400, i, 4⟩
abbrev FB_VERSION (i : Nat) : Ref := ⟨0x5400, i, 5⟩
abbrev FB_CAUSE (i : Nat) : Ref := ⟨0x5400, i, 6⟩
abbrev FB_TICKETS (i : Nat) : Ref := ⟨0x5400, i, 7⟩
abbrev FB_TX_PKTS (i : Nat) : Ref := ⟨0x5401, i, 0⟩
abbrev FB_RX_PKTS (i : Nat) : Ref := ⟨0x5401, i, 1⟩
abbrev FB_CRC_ERR (i : Nat) : Ref := ⟨0x5401, i, 2⟩
abbrev FB_REPLAYS (i : Nat) : Ref := ⟨0x5401, i, 3⟩
abbrev FB_RETRAINS (i : Nat) : Ref := ⟨0x5401, i, 4⟩
abbrev FB_TRANSIT (i : Nat) : Ref := ⟨0x5401, i, 5⟩
abbrev FB_TRANSIT_DROP (i : Nat) : Ref := ⟨0x5401, i, 6⟩
abbrev FB_PROTO : Ref := ⟨0x5402, 0, 0⟩
abbrev FB_BRIDGE : Ref := ⟨0x5402, 0, 1⟩
abbrev FB_RSP_FREE : Ref := ⟨0x5402, 0, 2⟩
abbrev FB_LATE_RSP : Ref := ⟨0x5402, 0, 3⟩
abbrev FB_UNREACH : Ref := ⟨0x5402, 0, 4⟩
abbrev FR_ROUTE (i : Nat) : Ref := ⟨0x5410, i, 0⟩
abbrev FR_PATH (i : Nat) : Ref := ⟨0x5410, i, 1⟩

/-! 22_device_update.md -/
abbrev UP_STATE : Ref := ⟨0x6000, 0, 0⟩
abbrev UP_OFFSET : Ref := ⟨0x6000, 0, 1⟩
abbrev UP_DATA (k : Nat) : Ref := ⟨0x6000, 0, 2 + k⟩
abbrev UP_WRITE : Ref := ⟨0x6000, 0, 34⟩
abbrev UP_LENGTH : Ref := ⟨0x6000, 0, 35⟩
abbrev UP_CMD : Ref := ⟨0x6000, 0, 36⟩
abbrev UP_INSTANT : Ref := ⟨0x6000, 0, 37⟩
abbrev UP_ASN : Ref := ⟨0x6000, 0, 38⟩
abbrev UP_TIME (k : Nat) : Ref := ⟨0x6000, 0, 39 + k⟩
abbrev UP_STAGED_VER : Ref := ⟨0x6000, 0, 41⟩
abbrev UP_STAGED_SCHEMA : Ref := ⟨0x6000, 0, 42⟩
abbrev UP_RUN_VER : Ref := ⟨0x6001, 0, 0⟩
abbrev UP_RUN_STATE : Ref := ⟨0x6001, 0, 1⟩
abbrev UP_BANK : Ref := ⟨0x6001, 0, 2⟩
abbrev UP_TRIES : Ref := ⟨0x6001, 0, 3⟩
abbrev UP_FLOOR : Ref := ⟨0x6001, 0, 4⟩
abbrev UP_PAUSE_RF : Ref := ⟨0x6001, 0, 5⟩
abbrev UP_PAUSE_BH : Ref := ⟨0x6001, 0, 6⟩
abbrev UP_ACTIVATIONS : Ref := ⟨0x6001, 0, 7⟩
abbrev UP_RX_DROPPED : Ref := ⟨0x6001, 0, 8⟩
abbrev UP_BAD : Ref := ⟨0x6001, 0, 9⟩

/-! 23_ledger_faults_debug.md -/
abbrev LG_TOTAL (i : Nat) : Ref := ⟨0x7000, i, 0⟩
abbrev LG_FREE (i : Nat) : Ref := ⟨0x7000, i, 1⟩
abbrev LG_HELD (i : Nat) : Ref := ⟨0x7000, i, 2⟩
abbrev LG_INFLIGHT (i : Nat) : Ref := ⟨0x7000, i, 3⟩
abbrev LG_STATE (i : Nat) : Ref := ⟨0x7000, i, 4⟩
abbrev LG_MISMATCH (i : Nat) : Ref := ⟨0x7000, i, 5⟩
abbrev LG_GUARANTEE : Ref := ⟨0x7001, 0, 0⟩
abbrev LG_LAPSED_FATAL : Ref := ⟨0x7001, 0, 1⟩
abbrev LG_FAULT_Q : Ref := ⟨0x7001, 0, 2⟩
abbrev LG_REBUILDS : Ref := ⟨0x7001, 0, 3⟩
abbrev LG_AUDITS : Ref := ⟨0x7001, 0, 4⟩
abbrev VR_WORD (i : Nat) : Ref := ⟨0x7010, i, 0⟩
abbrev VR_ADDR (i : Nat) : Ref := ⟨0x7010, i, 1⟩
abbrev VR_TIME (i : Nat) (k : Nat) : Ref := ⟨0x7010, i, 2 + k⟩
abbrev VR_RELEASE : Ref := ⟨0x7011, 0, 0⟩
abbrev VR_FROZEN : Ref := ⟨0x7011, 0, 1⟩
abbrev VR_LOST : Ref := ⟨0x7011, 0, 2⟩
abbrev FT_RESET : Ref := ⟨0x7020, 0, 0⟩
abbrev FT_DECLARE : Ref := ⟨0x7020, 0, 1⟩
abbrev FD_SLOT : Ref := ⟨0x7020, 0, 2⟩
abbrev FD_OFFSET : Ref := ⟨0x7020, 0, 3⟩
abbrev FD_DATA (k : Nat) : Ref := ⟨0x7020, 0, 4 + k⟩
abbrev FD_ERASE : Ref := ⟨0x7020, 0, 36⟩
abbrev FD_ENTRY (i : Nat) (k : Nat) : Ref := ⟨0x7021, i, k⟩
abbrev PE_POINT (i : Nat) : Ref := ⟨0x7030, i, 0⟩
abbrev PE_DELAY (i : Nat) : Ref := ⟨0x7030, i, 1⟩
abbrev PE_EVERY (i : Nat) : Ref := ⟨0x7030, i, 2⟩
abbrev PE_COUNT (i : Nat) : Ref := ⟨0x7030, i, 3⟩
abbrev PE_EN (i : Nat) : Ref := ⟨0x7030, i, 4⟩
abbrev PE_HITS (i : Nat) : Ref := ⟨0x7030, i, 5⟩
abbrev DB_OPEN : Ref := ⟨0x7040, 0, 0⟩
abbrev FX_FUSE_ENTRY : Ref := ⟨0x7F00, 0, 0⟩
abbrev FX_FUSE_VALUE : Ref := ⟨0x7F00, 0, 1⟩
abbrev FX_FUSE_BURN : Ref := ⟨0x7F00, 0, 2⟩
abbrev FX_RAW_ADDR : Ref := ⟨0x7F00, 0, 3⟩
abbrev FX_RAW_DATA : Ref := ⟨0x7F00, 0, 4⟩
abbrev FX_RAW_CMD : Ref := ⟨0x7F00, 0, 5⟩
abbrev FX_PT_ALLOW : Ref := ⟨0x7F00, 0, 6⟩
abbrev FX_FUSE_READ (i : Nat) : Ref := ⟨0x7F01, i, 0⟩

end Sys2Proof.Machine.R
end

