-- ==== Sys2Proof/Machine/Dict.lean ====
section
/-! DEFINITION. The object dictionary as data: every object of the spec's object tables with its type, access class,
privilege, range and default (03_object_dictionary.md R54 to R62, Tables DICT-1 and DICT-2; the rows are those of the
object tables of chapters 03 to 23, chapter by chapter). -/

namespace Sys2Proof.Machine

/-- The types of Table DICT-1. -/
inductive Ty where
  | bool | u8 | u16 | u32 | u64 | s32 | s64 | enum | bits | time | eui | ipv6
  | octets (n : Nat)
  deriving DecidableEq, Repr

/-- The access classes of Table DICT-2. -/
inductive Cls where
  | ro | rw | wo | rc | cmd | txn
  deriving DecidableEq, Repr

/-- Which instance groups R55 lets a family take. -/
inductive Scope where
  | plain | port | lane | queue | node
  deriving DecidableEq, Repr

/-- One row of an object table: `cnt` members from `m0`, each value `width` members wide; a number of the row lies in
`lo` to `hi` (for `bits`: the bits of `hi` are the writable ones, the others Reserved, R8). -/
structure Row where
  m0 : Nat
  cnt : Nat
  width : Nat
  ty : Ty
  cls : Cls
  priv : Nat
  lo : Int
  hi : Int
  dflt : Nat
  split : Bool
  deriving DecidableEq, Repr

/-- One family: the objects of one index, over the instances `lo` to `hi`. -/
structure Family where
  idx : Nat
  lo : Nat
  hi : Nat
  scope : Scope
  group : Bool
  rows : List Row
  deriving DecidableEq, Repr

/-- The families 0x0000, 0x0001, 0x0010, 0x0020, 0x0021, 0x0030, 0x0040, 0x0041 of 03_object_dictionary.md.
DESIGN CHOICE: log 155. -/
def dict03a : List Family := [
  ⟨0x0000, 0, 0, .plain, false, [
    ⟨0, 1, 1, .u32, .ro, 0, 0, 4294967295, 0xC1B, false⟩,
    ⟨1, 1, 1, .u32, .ro, 0, 0, 4294967295, 0x9624, false⟩,
    ⟨2, 1, 1, .u16, .ro, 0, 0, 65535, 0xB0, false⟩,
    ⟨3, 1, 1, .eui, .ro, 0, 0, 18446744073709551615, 0, false⟩,
    ⟨4, 1, 1, .bits, .ro, 0, 0, 18446744073709551615, 0, false⟩,
    ⟨5, 1, 1, .enum, .ro, 0, 0, 255, 0, false⟩,
    ⟨6, 1, 1, .u8, .ro, 0, 0, 255, 0, false⟩,
    ⟨7, 1, 1, .enum, .ro, 0, 0, 255, 0, false⟩,
    ⟨8, 1, 1, .u32, .ro, 0, 0, 4294967295, 0, false⟩]⟩,
  ⟨0x0001, 0, 0, .plain, false, [
    ⟨0, 1, 1, .u64, .ro, 0, 0, 18446744073709551615, 0x3231302423, false⟩,
    ⟨1, 1, 1, .u8, .ro, 0, 0, 255, 0x40, false⟩]⟩,
  ⟨0x0010, 0, 0, .plain, false, [
    ⟨0, 1, 1, .bits, .rw, 2, 0, 31, 0x10, false⟩,
    ⟨1, 1, 1, .u16, .rw, 2, 0, 65535, 0xB813, false⟩,
    ⟨2, 1, 1, .u32, .rw, 2, 1000, 600000, 0x2710, false⟩,
    ⟨3, 1, 1, .u8, .rw, 2, 1, 32, 8, false⟩,
    ⟨4, 1, 1, .bool, .rw, 2, 0, 1, 0, false⟩,
    ⟨5, 1, 1, .enum, .rw, 2, 0, 2, 2, false⟩,
    ⟨6, 1, 1, .enum, .rw, 2, 0, 2, 1, false⟩,
    ⟨7, 1, 1, .enum, .rw, 2, 0, 2, 1, false⟩,
    ⟨8, 1, 1, .bool, .rw, 2, 0, 1, 1, false⟩,
    ⟨9, 1, 1, .bool, .rw, 2, 0, 1, 0, false⟩]⟩,
  ⟨0x0020, 0, 63, .plain, false, [
    ⟨0, 1, 1, .enum, .ro, 1, 0, 255, 0, false⟩,
    ⟨1, 1, 1, .u16, .ro, 1, 0, 65535, 0, false⟩,
    ⟨2, 1, 1, .enum, .ro, 1, 0, 255, 0, false⟩,
    ⟨3, 1, 1, .u8, .ro, 1, 0, 255, 0, false⟩,
    ⟨4, 1, 1, .enum, .ro, 1, 0, 255, 0, false⟩,
    ⟨5, 1, 1, .u16, .ro, 1, 0, 65535, 0xFFFF, false⟩,
    ⟨6, 1, 1, .u8, .ro, 1, 0, 255, 0, false⟩,
    ⟨7, 2, 2, .ipv6, .ro, 1, 0, 18446744073709551615, 0, false⟩,
    ⟨9, 1, 1, .u32, .ro, 1, 0, 4294967295, 0, false⟩,
    ⟨10, 1, 1, .u64, .ro, 1, 0, 18446744073709551615, 0, false⟩]⟩,
  ⟨0x0021, 0, 63, .plain, false, [
    ⟨0, 1, 1, .u8, .cmd, 2, 0, 255, 0, false⟩]⟩,
  ⟨0x0030, 0, 3, .plain, false, [
    ⟨0, 1, 1, .u8, .cmd, 0, 0, 255, 0, false⟩,
    ⟨1, 1, 1, .u64, .rw, 0, 0, 18446744073709551615, 0, false⟩,
    ⟨2, 1, 1, .u16, .rw, 0, 16, 4096, 0, false⟩,
    ⟨3, 1, 1, .u64, .rw, 0, 0, 18446744073709551615, 0, false⟩,
    ⟨4, 1, 1, .u16, .ro, 0, 0, 65535, 0, false⟩,
    ⟨5, 1, 1, .enum, .ro, 0, 0, 255, 0, false⟩,
    ⟨6, 1, 1, .u8, .rw, 2, 0, 63, 0, false⟩]⟩,
  ⟨0x0040, 0, 7, .plain, false, [
    ⟨0, 1, 1, .bits, .rw, 2, 0, 16777215, 0, true⟩]⟩,
  ⟨0x0041, 0, 15, .plain, false, [
    ⟨0, 32, 1, .bits, .rw, 2, 0, 18446744073709551615, 0, true⟩]⟩]

/-- The families 0x0042, 0x0050 of 03_object_dictionary.md. -/
def dict03b : List Family := [
  ⟨0x0042, 0, 31, .plain, false, [
    ⟨0, 64, 1, .bits, .rw, 2, 0, 18446744073709551615, 0, true⟩]⟩,
  ⟨0x0050, 0, 0, .plain, false, [
    ⟨0, 1, 1, .u64, .rc, 1, 0, 18446744073709551615, 0, false⟩,
    ⟨1, 1, 1, .u64, .rc, 1, 0, 18446744073709551615, 0, false⟩,
    ⟨2, 1, 1, .u64, .rc, 1, 0, 18446744073709551615, 0, false⟩,
    ⟨3, 1, 1, .u64, .rc, 1, 0, 18446744073709551615, 0, false⟩,
    ⟨4, 1, 1, .u64, .rc, 1, 0, 18446744073709551615, 0, false⟩,
    ⟨5, 1, 1, .u64, .rc, 1, 0, 18446744073709551615, 0, false⟩]⟩]

/-- The families 0x0100, 0x0101, 0x0102, 0x0110, 0x0111, 0x0112, 0x0113 of 04_transactions_configurations.md. -/
def dict04a : List Family := [
  ⟨0x0100, 1, 64, .plain, false, [
    ⟨0, 1, 1, .enum, .ro, 0, 0, 255, 0, false⟩,
    ⟨1, 1, 1, .bits, .ro, 0, 0, 18446744073709551615, 0, false⟩,
    ⟨2, 1, 1, .u16, .ro, 0, 0, 65535, 0, false⟩,
    ⟨3, 1, 1, .enum, .ro, 0, 0, 255, 0, false⟩,
    ⟨4, 1, 1, .u64, .ro, 0, 0, 18446744073709551615, 0, false⟩,
    ⟨5, 2, 2, .time, .ro, 0, 0, 0, 0, false⟩,
    ⟨7, 1, 1, .enum, .ro, 0, 0, 255, 0, false⟩,
    ⟨8, 2, 2, .time, .ro, 0, 0, 0, 0, false⟩,
    ⟨10, 1, 1, .bits, .ro, 0, 0, 18446744073709551615, 0, false⟩,
    ⟨11, 1, 1, .bits, .rw, 1, 0, 255, 0, false⟩,
    ⟨12, 1, 1, .bits, .rw, 1, 0, 4095, 0, false⟩]⟩,
  ⟨0x0101, 0, 17, .plain, false, [
    ⟨0, 1, 1, .u16, .cmd, 1, 0, 65535, 0, false⟩,
    ⟨1, 1, 1, .u8, .rw, 1, 0, 255, 0, false⟩,
    ⟨2, 1, 1, .enum, .rw, 1, 0, 2, 0, false⟩,
    ⟨3, 1, 1, .u64, .rw, 1, 0, 18446744073709551615, 0, false⟩,
    ⟨4, 2, 2, .time, .rw, 1, 0, 0, 0, false⟩,
    ⟨6, 1, 1, .u8, .cmd, 1, 0, 255, 0, false⟩,
    ⟨7, 1, 1, .u8, .cmd, 1, 0, 255, 0, false⟩]⟩,
  ⟨0x0102, 0, 0, .plain, false, [
    ⟨0, 1, 1, .u32, .rw, 2, 100, 600000, 0x2710, false⟩,
    ⟨1, 1, 1, .u8, .ro, 0, 0, 255, 0, false⟩,
    ⟨2, 1, 1, .u64, .rc, 1, 0, 18446744073709551615, 0, false⟩,
    ⟨3, 1, 1, .u64, .rc, 1, 0, 18446744073709551615, 0, false⟩,
    ⟨4, 1, 1, .u64, .rc, 1, 0, 18446744073709551615, 0, false⟩,
    ⟨5, 1, 1, .u64, .ro, 0, 0, 18446744073709551615, 0, false⟩]⟩,
  ⟨0x0110, 0, 0, .plain, false, [
    ⟨0, 1, 1, .enum, .rw, 2, 0, 1, 0, false⟩,
    ⟨1, 1, 1, .enum, .ro, 0, 0, 255, 2, false⟩,
    ⟨2, 1, 1, .bits, .rw, 2, 0, 4294967295, 0, false⟩,
    ⟨3, 1, 1, .bits, .ro, 0, 0, 18446744073709551615, 0, false⟩,
    ⟨4, 4, 4, (.octets 32), .ro, 0, 0, 18446744073709551615, 0, false⟩]⟩,
  ⟨0x0111, 0, 0, .plain, false, [
    ⟨0, 1, 1, .bits, .rw, 1, 0, 4294967295, 0, false⟩,
    ⟨1, 1, 1, .enum, .rw, 1, 0, 2, 0, false⟩,
    ⟨2, 1, 1, .u64, .rw, 1, 0, 18446744073709551615, 0, false⟩,
    ⟨3, 2, 2, .time, .rw, 1, 0, 0, 0, false⟩,
    ⟨5, 1, 1, .u16, .cmd, 1, 0, 65535, 0, false⟩]⟩,
  ⟨0x0112, 0, 33, .plain, false, [
    ⟨0, 1, 1, .enum, .ro, 0, 0, 255, 0, false⟩,
    ⟨1, 1, 1, .u32, .ro, 0, 0, 4294967295, 0, false⟩,
    ⟨2, 2, 2, (.octets 16), .ro, 0, 0, 18446744073709551615, 0, false⟩,
    ⟨4, 4, 4, (.octets 32), .ro, 0, 0, 18446744073709551615, 0, false⟩,
    ⟨8, 1, 1, .u32, .ro, 0, 0, 4294967295, 0, false⟩,
    ⟨9, 1, 1, .u32, .ro, 0, 0, 4294967295, 0, false⟩,
    ⟨10, 1, 1, .u8, .cmd, 2, 0, 255, 0, false⟩]⟩,
  ⟨0x0113, 0, 0, .plain, false, [
    ⟨0, 1, 1, .u8, .rw, 2, 0, 33, 0, false⟩,
    ⟨1, 1, 1, .u32, .rw, 2, 0, 4294967295, 0, false⟩,
    ⟨2, 32, 32, (.octets 256), .wo, 2, 0, 18446744073709551615, 0, false⟩,
    ⟨34, 1, 1, .u16, .cmd, 2, 0, 65535, 0, false⟩,
    ⟨35, 1, 1, .u8, .cmd, 2, 0, 255, 0, false⟩]⟩]

/-- The families 0x1000, 0x1001, 0x1002, 0x1003, 0x1010, 0x1020, 0x1021, 0x1030 of 05_radio_ports.md. -/
def dict05a : List Family := [
  ⟨0x1000, 0, 23, .port, true, [
    ⟨0, 1, 1, .bool, .rw, 2, 0, 1, 0, false⟩,
    ⟨1, 1, 1, .enum, .rw, 2, 0, 1, 0, false⟩,
    ⟨2, 1, 1, .u32, .rw, 2, 165000000, 945000000, 0x33BCA100, false⟩,
    ⟨3, 1, 1, .s32, .rw, 1, -80, 64, 0, false⟩,
    ⟨4, 1, 1, .u32, .rw, 2, 0, 20000, 0x1388, false⟩,
    ⟨5, 1, 1, .u32, .rw, 2, 0, 20000, 0x7D0, false⟩,
    ⟨6, 1, 1, .u32, .rw, 2, 0, 50000, 0x2710, false⟩,
    ⟨7, 1, 1, .u32, .rw, 2, 1000, 16000, 0xFA0, false⟩,
    ⟨8, 1, 1, .bits, .rw, 2, 0, 65472, 0xA000, false⟩,
    ⟨9, 1, 1, .u32, .rw, 2, 0, 2000, 0, false⟩,
    ⟨10, 1, 1, .u32, .rw, 2, 0, 2000, 0, false⟩,
    ⟨11, 1, 1, .enum, .ro, 0, 0, 255, 0, false⟩,
    ⟨12, 1, 1, .enum, .ro, 0, 0, 255, 0, false⟩,
    ⟨13, 1, 1, .u8, .cmd, 2, 0, 255, 0, false⟩]⟩,
  ⟨0x1001, 0, 23, .plain, false, [
    ⟨0, 1, 1, .u64, .rc, 1, 0, 18446744073709551615, 0, false⟩,
    ⟨1, 1, 1, .u64, .rc, 1, 0, 18446744073709551615, 0, false⟩,
    ⟨2, 1, 1, .u64, .rc, 1, 0, 18446744073709551615, 0, false⟩,
    ⟨3, 1, 1, .u64, .rc, 1, 0, 18446744073709551615, 0, false⟩,
    ⟨4, 1, 1, .u64, .rc, 1, 0, 18446744073709551615, 0, false⟩,
    ⟨5, 1, 1, .u64, .rc, 1, 0, 18446744073709551615, 0, false⟩,
    ⟨6, 1, 1, .u64, .rc, 1, 0, 18446744073709551615, 0, false⟩,
    ⟨7, 1, 1, .u64, .rc, 1, 0, 18446744073709551615, 0, false⟩,
    ⟨8, 1, 1, .u64, .rc, 1, 0, 18446744073709551615, 0, false⟩,
    ⟨9, 1, 1, .u64, .rc, 1, 0, 18446744073709551615, 0, false⟩]⟩,
  ⟨0x1002, 0, 23, .port, true, [
    ⟨0, 1, 1, .enum, .rw, 2, 0, 1, 0, false⟩,
    ⟨1, 1, 1, .s32, .rw, 2, -96, -24, 0xFFFFFFFFFFFFFFD0, false⟩,
    ⟨2, 1, 1, .u8, .rw, 2, 0, 72, 0x28, false⟩,
    ⟨3, 1, 1, .u8, .ro, 0, 0, 255, 0, false⟩,
    ⟨4, 1, 1, .enum, .ro, 0, 0, 255, 0, false⟩,
    ⟨5, 1, 1, .s32, .rw, 2, -320, 0, 0xFFFFFFFFFFFFFF60, false⟩]⟩,
  ⟨0x1003, 0, 23, .port, true, [
    ⟨0, 1, 1, .enum, .ro, 0, 0, 255, 0, false⟩,
    ⟨1, 1, 1, .u32, .ro, 0, 0, 4294967295, 0, false⟩,
    ⟨2, 1, 1, .u32, .rw, 2, 10, 60000, 0x3E8, false⟩,
    ⟨3, 1, 1, .u32, .ro, 0, 0, 4294967295, 0, false⟩,
    ⟨4, 1, 1, .u8, .ro, 0, 0, 255, 0, false⟩]⟩,
  ⟨0x1010, 0, 23, .port, true, [
    ⟨0, 64, 1, .s32, .txn, 2, -131072, 131071, 0, false⟩]⟩,
  ⟨0x1020, 0, 23, .port, true, [
    ⟨0, 32, 1, .bits, .txn, 2, 0, 9295429626597801983, 0, false⟩]⟩,
  ⟨0x1021, 0, 23, .port, true, [
    ⟨0, 1, 1, .bool, .txn, 2, 0, 1, 1, false⟩,
    ⟨1, 1, 1, .enum, .rw, 2, 0, 1, 0, false⟩,
    ⟨2, 1, 1, .bits, .ro, 0, 0, 18446744073709551615, 0, false⟩]⟩,
  ⟨0x1030, 0, 7, .plain, false, [
    ⟨0, 1, 1, .u32, .rw, 2, 0, 50000, 0x1F40, false⟩,
    ⟨1, 1, 1, .u32, .rw, 2, 0, 50000, 0x1770, false⟩,
    ⟨2, 1, 1, .bool, .rw, 2, 0, 1, 0, false⟩,
    ⟨3, 1, 1, .bits, .ro, 0, 0, 18446744073709551615, 0, false⟩]⟩]

/-- The families 0x1040, 0x1050 of 05_radio_ports.md. -/
def dict05b : List Family := [
  ⟨0x1040, 0, 3, .plain, false, [
    ⟨0, 1, 1, .enum, .rw, 2, 0, 1, 0, false⟩,
    ⟨1, 1, 1, .u32, .rw, 2, 10000, 1000000, 0xC350, false⟩,
    ⟨2, 1, 1, .u32, .rw, 2, 0, 1000000, 0x2710, false⟩,
    ⟨3, 1, 1, .bits, .rw, 2, 0, 15, 0, false⟩,
    ⟨4, 1, 1, .bits, .rw, 2, 0, 63, 0, false⟩,
    ⟨5, 1, 1, .bool, .ro, 0, 0, 1, 0, false⟩,
    ⟨6, 1, 1, .u64, .rc, 1, 0, 18446744073709551615, 0, false⟩,
    ⟨7, 1, 1, .u64, .rc, 1, 0, 18446744073709551615, 0, false⟩]⟩,
  ⟨0x1050, 0, 0, .plain, false, [
    ⟨0, 1, 1, .bool, .rw, 2, 0, 1, 0, false⟩,
    ⟨1, 1, 1, .u32, .rw, 2, 0, 4294967295, 0, false⟩,
    ⟨2, 1, 1, .u32, .rw, 2, 0, 4294967295, 0, false⟩,
    ⟨3, 1, 1, .bool, .rw, 2, 0, 1, 0, false⟩,
    ⟨4, 1, 1, .u8, .rw, 2, 0, 4, 2, false⟩,
    ⟨5, 1, 1, .u32, .ro, 0, 0, 4294967295, 0, false⟩,
    ⟨6, 1, 1, .enum, .ro, 0, 0, 255, 0, false⟩]⟩]

/-- The families 0x1400, 0x1401, 0x1410, 0x1411, 0x1412, 0x1430 of 06_channelizer_lanes.md. -/
def dict06a : List Family := [
  ⟨0x1400, 0, 23, .port, true, [
    ⟨0, 1, 1, .u32, .txn, 2, 150000000, 2483500000, 0x3371DC60, false⟩,
    ⟨1, 1, 1, .u32, .txn, 2, 12500, 5000000, 0x30D40, false⟩,
    ⟨2, 1, 1, .u16, .txn, 2, 1, 1024, 0x23, false⟩,
    ⟨3, 1, 1, .s32, .rw, 2, -160, 160, 0, false⟩,
    ⟨4, 1, 1, .u8, .rw, 2, 8, 32, 0x10, false⟩,
    ⟨5, 1, 1, .u8, .rw, 2, 0, 20, 6, false⟩,
    ⟨6, 1, 1, .s32, .rw, 2, -96, -24, 0xFFFFFFFFFFFFFFC4, false⟩]⟩,
  ⟨0x1401, 0, 23, .plain, false, [
    ⟨0, 1, 1, .u8, .ro, 0, 0, 255, 0x40, false⟩,
    ⟨1, 1, 1, .u8, .ro, 0, 0, 255, 0x40, false⟩,
    ⟨2, 1, 1, .u8, .ro, 0, 0, 255, 0, false⟩,
    ⟨3, 1, 1, .u64, .rc, 1, 0, 18446744073709551615, 0, false⟩,
    ⟨4, 1, 1, .u64, .rc, 1, 0, 18446744073709551615, 0, false⟩,
    ⟨5, 1, 1, .u64, .rc, 1, 0, 18446744073709551615, 0, false⟩]⟩,
  ⟨0x1410, 0, 2047, .lane, true, [
    ⟨0, 1, 1, .u8, .txn, 2, 0, 255, 0, false⟩,
    ⟨1, 1, 1, .enum, .txn, 2, 0, 1, 1, false⟩,
    ⟨2, 1, 1, .u16, .txn, 2, 0, 1023, 0, false⟩,
    ⟨3, 1, 1, .bits, .txn, 2, 0, 18446726481523507200, 0, false⟩,
    ⟨4, 1, 1, .s32, .txn, 2, -2147483648, 2147483647, 0, false⟩]⟩,
  ⟨0x1411, 0, 2047, .lane, true, [
    ⟨0, 1, 1, .enum, .ro, 0, 0, 255, 0, false⟩,
    ⟨1, 1, 1, .u8, .ro, 0, 0, 255, 0, false⟩,
    ⟨2, 1, 1, .u16, .ro, 0, 0, 65535, 0, false⟩,
    ⟨3, 1, 1, .bits, .ro, 0, 0, 18446744073709551615, 0, false⟩,
    ⟨4, 1, 1, .s32, .ro, 0, -2147483648, 2147483647, 0, false⟩,
    ⟨5, 1, 1, .s32, .ro, 0, -2147483648, 2147483647, 0xFFFFFFFFFFFFFD48, false⟩,
    ⟨6, 1, 1, .enum, .ro, 0, 0, 255, 0, false⟩]⟩,
  ⟨0x1412, 0, 2047, .lane, true, [
    ⟨0, 1, 1, .u64, .rc, 1, 0, 18446744073709551615, 0, false⟩,
    ⟨1, 1, 1, .u64, .rc, 1, 0, 18446744073709551615, 0, false⟩,
    ⟨2, 1, 1, .u64, .rc, 1, 0, 18446744073709551615, 0, false⟩,
    ⟨3, 1, 1, .u64, .rc, 1, 0, 18446744073709551615, 0, false⟩,
    ⟨4, 1, 1, .u64, .rc, 1, 0, 18446744073709551615, 0, false⟩,
    ⟨5, 1, 1, .u64, .rc, 1, 0, 18446744073709551615, 0, false⟩,
    ⟨6, 1, 1, .u64, .rc, 1, 0, 18446744073709551615, 0, false⟩,
    ⟨7, 1, 1, .u64, .rc, 1, 0, 18446744073709551615, 0, false⟩,
    ⟨8, 1, 1, .u64, .rc, 1, 0, 18446744073709551615, 0, false⟩,
    ⟨9, 1, 1, .u64, .rc, 1, 0, 18446744073709551615, 0, false⟩,
    ⟨10, 1, 1, .u64, .rc, 1, 0, 18446744073709551615, 0, false⟩,
    ⟨11, 1, 1, .u64, .rc, 1, 0, 18446744073709551615, 0, false⟩]⟩,
  ⟨0x1430, 0, 0, .plain, false, [
    ⟨0, 1, 1, .u16, .ro, 0, 0, 65535, 0x200, false⟩,
    ⟨1, 1, 1, .u16, .ro, 0, 0, 65535, 0, false⟩]⟩]

/-- The families 0x1600, 0x1601, 0x1602, 0x1610, 0x1620 of 07_coding_deep_link.md. -/
def dict07a : List Family := [
  ⟨0x1600, 0, 0, .plain, false, [
    ⟨0, 1, 1, .u32, .rw, 2, 0, 4294967295, 0xB27A4C1D, false⟩,
    ⟨1, 1, 1, .u8, .rw, 2, 1, 20, 0x14, false⟩,
    ⟨2, 1, 1, .u8, .rw, 2, 0, 7, 1, false⟩,
    ⟨3, 1, 1, .u32, .rw, 2, 1000, 600000, 0x7530, false⟩]⟩,
  ⟨0x1601, 0, 23, .port, true, [
    ⟨0, 1, 1, .u8, .rw, 2, 0, 255, 0x10, false⟩,
    ⟨1, 1, 1, .u16, .rw, 2, 0, 4096, 0x200, false⟩,
    ⟨2, 1, 1, .u8, .ro, 0, 0, 255, 0, false⟩,
    ⟨3, 1, 1, .u16, .ro, 0, 0, 65535, 0, false⟩]⟩,
  ⟨0x1602, 0, 23, .plain, false, [
    ⟨0, 1, 1, .u64, .rc, 1, 0, 18446744073709551615, 0, false⟩,
    ⟨1, 1, 1, .u64, .rc, 1, 0, 18446744073709551615, 0, false⟩,
    ⟨2, 1, 1, .u64, .rc, 1, 0, 18446744073709551615, 0, false⟩,
    ⟨3, 1, 1, .u64, .rc, 1, 0, 18446744073709551615, 0, false⟩,
    ⟨4, 1, 1, .u64, .rc, 1, 0, 18446744073709551615, 0, false⟩,
    ⟨5, 1, 1, .u64, .rc, 1, 0, 18446744073709551615, 0, false⟩,
    ⟨6, 1, 1, .u64, .rc, 1, 0, 18446744073709551615, 0, false⟩,
    ⟨7, 1, 1, .u64, .rc, 1, 0, 18446744073709551615, 0, false⟩,
    ⟨8, 1, 1, .u64, .rc, 1, 0, 18446744073709551615, 0, false⟩,
    ⟨9, 1, 1, .u64, .rc, 1, 0, 18446744073709551615, 0, false⟩,
    ⟨10, 8, 1, .u64, .rc, 1, 0, 18446744073709551615, 0, false⟩]⟩,
  ⟨0x1610, 0, 0, .plain, false, [
    ⟨0, 1, 1, .u16, .ro, 0, 0, 65535, 0x1000, false⟩,
    ⟨1, 1, 1, .u16, .ro, 0, 0, 65535, 0, false⟩,
    ⟨2, 1, 1, .u8, .ro, 0, 0, 255, 0, false⟩,
    ⟨3, 1, 1, .u16, .ro, 0, 0, 65535, 0, false⟩,
    ⟨4, 1, 1, .u64, .rc, 1, 0, 18446744073709551615, 0, false⟩]⟩,
  ⟨0x1620, 0, 4095, .plain, false, [
    ⟨0, 1, 1, .bits, .ro, 1, 0, 18446744073709551615, 0, false⟩,
    ⟨1, 2, 2, .time, .ro, 1, 0, 0, 0, false⟩]⟩]

/-- The families 0x2000, 0x2001, 0x2002, 0x2010, 0x2011, 0x2020, 0x2030, 0x2040 of 08_tsch_engine.md. -/
def dict08a : List Family := [
  ⟨0x2000, 0, 0, .plain, false, [
    ⟨0, 1, 1, .bool, .rw, 2, 0, 1, 0, false⟩,
    ⟨1, 1, 1, .u32, .rw, 2, 1000, 1000000, 0x2710, false⟩,
    ⟨2, 1, 1, .u32, .rw, 2, 1, 16777215, 0x3E8, false⟩,
    ⟨3, 1, 1, .u32, .rw, 2, 200, 10000, 0x3E8, false⟩,
    ⟨4, 1, 1, .u32, .rw, 2, 60000, 2000000, 0x493E0, false⟩,
    ⟨5, 1, 1, .u8, .rw, 1, 0, 7, 3, false⟩,
    ⟨6, 1, 1, .u8, .rw, 1, 0, 7, 1, false⟩,
    ⟨7, 1, 1, .u8, .rw, 1, 1, 7, 7, false⟩,
    ⟨8, 1, 1, .u16, .rw, 2, 0, 65534, 0, false⟩,
    ⟨9, 1, 1, .u16, .rw, 2, 0, 65535, 0, false⟩,
    ⟨10, 1, 1, .u64, .ro, 0, 0, 18446744073709551615, 0, false⟩,
    ⟨11, 1, 1, .bool, .rw, 2, 0, 1, 1, false⟩]⟩,
  ⟨0x2001, 0, 0, .plain, false, [
    ⟨0, 1, 1, .u64, .rw, 2, 0, 18446744073709551615, 0, false⟩,
    ⟨1, 2, 2, .time, .rw, 2, 0, 0, 0, false⟩]⟩,
  ⟨0x2002, 0, 0, .plain, false, [
    ⟨0, 1, 1, .enum, .txn, 2, 0, 1, 0, false⟩]⟩,
  ⟨0x2010, 0, 383, .plain, false, [
    ⟨0, 1, 1, .u16, .rw, 2, 0, 65535, 0, false⟩,
    ⟨1, 1, 1, .bool, .rw, 2, 0, 1, 0, false⟩]⟩,
  ⟨0x2011, 0, 383, .plain, false, [
    ⟨0, 1, 1, .u16, .rw, 2, 0, 65535, 0, false⟩,
    ⟨1, 1, 1, .bool, .rw, 2, 0, 1, 0, false⟩]⟩,
  ⟨0x2020, 0, 23, .port, true, [
    ⟨0, 1, 1, .u16, .txn, 2, 0, 256, 0, false⟩,
    ⟨1, 1, 1, .u8, .txn, 2, 0, 255, 0, false⟩,
    ⟨2, 64, 1, .bits, .txn, 2, 0, 18446744073709551615, 0, false⟩]⟩,
  ⟨0x2030, 0, 7, .plain, false, [
    ⟨0, 1, 1, .u32, .rw, 2, 0, 4294967295, 0x708, false⟩,
    ⟨1, 1, 1, .u32, .rw, 2, 0, 4294967295, 0x80, false⟩,
    ⟨2, 1, 1, .u32, .rw, 2, 0, 4294967295, 0x848, false⟩,
    ⟨3, 1, 1, .u32, .rw, 2, 0, 4294967295, 0x3FC, false⟩,
    ⟨4, 1, 1, .u32, .rw, 2, 0, 4294967295, 0x320, false⟩,
    ⟨5, 1, 1, .u32, .rw, 2, 0, 4294967295, 0x3E8, false⟩,
    ⟨6, 1, 1, .u32, .rw, 2, 0, 4294967295, 0x898, false⟩,
    ⟨7, 1, 1, .u32, .rw, 2, 0, 4294967295, 0x190, false⟩,
    ⟨8, 1, 1, .u32, .rw, 2, 0, 4294967295, 0xC0, false⟩,
    ⟨9, 1, 1, .u32, .rw, 2, 0, 4294967295, 0x960, false⟩,
    ⟨10, 1, 1, .u32, .rw, 2, 0, 4294967295, 0x10A0, false⟩]⟩,
  ⟨0x2040, 0, 23, .port, true, [
    ⟨0, 1, 1, .u32, .rw, 1, 0, 600000, 0, false⟩,
    ⟨1, 1, 1, .enum, .rw, 2, 0, 1, 0, false⟩]⟩]

/-- The families 0x2041, 0x2100, 0x2101 of 08_tsch_engine.md. -/
def dict08b : List Family := [
  ⟨0x2041, 0, 23, .plain, false, [
    ⟨0, 1, 1, .u64, .rc, 1, 0, 18446744073709551615, 0, false⟩,
    ⟨1, 1, 1, .u64, .rc, 1, 0, 18446744073709551615, 0, false⟩,
    ⟨2, 1, 1, .u64, .rc, 1, 0, 18446744073709551615, 0, false⟩,
    ⟨3, 1, 1, .u64, .rc, 1, 0, 18446744073709551615, 0, false⟩,
    ⟨4, 1, 1, .u64, .rc, 1, 0, 18446744073709551615, 0, false⟩,
    ⟨5, 1, 1, .u64, .rc, 1, 0, 18446744073709551615, 0, false⟩,
    ⟨6, 1, 1, .u64, .rc, 1, 0, 18446744073709551615, 0, false⟩,
    ⟨7, 1, 1, .u64, .rc, 1, 0, 18446744073709551615, 0, false⟩,
    ⟨8, 1, 1, .u64, .rc, 1, 0, 18446744073709551615, 0, false⟩,
    ⟨9, 1, 1, .u64, .rc, 1, 0, 18446744073709551615, 0, false⟩,
    ⟨10, 1, 1, .u64, .rc, 1, 0, 18446744073709551615, 0, false⟩,
    ⟨11, 1, 1, .u64, .rc, 1, 0, 18446744073709551615, 0, false⟩,
    ⟨12, 1, 1, .u64, .rc, 1, 0, 18446744073709551615, 0, false⟩,
    ⟨13, 1, 1, .u64, .rc, 1, 0, 18446744073709551615, 0, false⟩,
    ⟨14, 1, 1, .u64, .rc, 1, 0, 18446744073709551615, 0, false⟩,
    ⟨15, 1, 1, .u64, .rc, 1, 0, 18446744073709551615, 0, false⟩,
    ⟨16, 1, 1, .u64, .rc, 1, 0, 18446744073709551615, 0, false⟩]⟩,
  ⟨0x2100, 0, 131071, .plain, false, [
    ⟨0, 1, 1, .bits, .rw, 2, 0, 18446744073709486080, 0, false⟩,
    ⟨1, 1, 1, .bits, .rw, 2, 0, 18446744073707454464, 0, false⟩]⟩,
  ⟨0x2101, 0, 131071, .plain, false, [
    ⟨0, 1, 1, .bits, .rw, 2, 0, 18446744073709486080, 0, false⟩,
    ⟨1, 1, 1, .bits, .rw, 2, 0, 18446744073707454464, 0, false⟩]⟩]

/-- The families 0x2300, 0x2301, 0x2302, 0x2310 of 09_sleepy_nodes.md. -/
def dict09a : List Family := [
  ⟨0x2300, 0, 0, .plain, false, [
    ⟨0, 1, 1, .bool, .rw, 2, 0, 1, 0, false⟩,
    ⟨1, 1, 1, .u32, .rw, 2, 0, 16777216, 0x100000, false⟩,
    ⟨2, 1, 1, .u32, .rw, 2, 0, 10000, 0x12C, false⟩,
    ⟨3, 1, 1, .u32, .rw, 2, 500, 100000, 0x1388, false⟩,
    ⟨4, 1, 1, .u32, .rw, 2, 10, 10000, 0x1F4, false⟩,
    ⟨5, 1, 1, .u8, .rw, 2, 1, 16, 8, false⟩,
    ⟨6, 1, 1, .u32, .rw, 2, 500, 20000, 0x7D0, false⟩,
    ⟨7, 1, 1, .u32, .rw, 2, 192, 10000, 0x3E8, false⟩,
    ⟨8, 1, 1, .u32, .rw, 2, 100, 10000, 0x190, false⟩,
    ⟨9, 1, 1, .u32, .rw, 2, 192, 10000, 0x3E8, false⟩,
    ⟨10, 1, 1, .u32, .rw, 2, 192, 10000, 0x3E8, false⟩,
    ⟨11, 1, 1, .u8, .rw, 1, 1, 16, 4, false⟩,
    ⟨12, 1, 1, .u32, .rw, 2, 1, 1000, 5, false⟩,
    ⟨13, 1, 1, .u32, .rw, 2, 10, 70000, 0x7D0, false⟩,
    ⟨14, 1, 1, .u32, .rw, 2, 125000, 2000000, 0x1FBD0, false⟩,
    ⟨15, 1, 1, .u32, .rw, 1, 10, 86400, 0xE10, false⟩,
    ⟨16, 1, 1, .u8, .rw, 1, 1, 255, 0x10, false⟩]⟩,
  ⟨0x2301, 0, 0, .plain, false, [
    ⟨0, 1, 1, .u32, .ro, 0, 0, 4294967295, 0, false⟩,
    ⟨1, 1, 1, .u32, .ro, 0, 0, 4294967295, 0x40000, false⟩,
    ⟨2, 1, 1, .u32, .ro, 0, 0, 4294967295, 0, false⟩]⟩,
  ⟨0x2302, 0, 0, .plain, false, [
    ⟨0, 1, 1, .u64, .rc, 1, 0, 18446744073709551615, 0, false⟩,
    ⟨1, 1, 1, .u64, .rc, 1, 0, 18446744073709551615, 0, false⟩,
    ⟨2, 1, 1, .u64, .rc, 1, 0, 18446744073709551615, 0, false⟩,
    ⟨3, 1, 1, .u64, .rc, 1, 0, 18446744073709551615, 0, false⟩,
    ⟨4, 1, 1, .u64, .rc, 1, 0, 18446744073709551615, 0, false⟩,
    ⟨5, 1, 1, .u64, .rc, 1, 0, 18446744073709551615, 0, false⟩,
    ⟨6, 1, 1, .u64, .rc, 1, 0, 18446744073709551615, 0, false⟩,
    ⟨7, 1, 1, .u64, .rc, 1, 0, 18446744073709551615, 0, false⟩,
    ⟨8, 1, 1, .u64, .rc, 1, 0, 18446744073709551615, 0, false⟩,
    ⟨9, 1, 1, .u64, .rc, 1, 0, 18446744073709551615, 0, false⟩,
    ⟨10, 1, 1, .u64, .rc, 1, 0, 18446744073709551615, 0, false⟩,
    ⟨11, 1, 1, .u64, .rc, 1, 0, 18446744073709551615, 0, false⟩,
    ⟨12, 1, 1, .u64, .rc, 1, 0, 18446744073709551615, 0, false⟩,
    ⟨13, 1, 1, .u64, .rc, 1, 0, 18446744073709551615, 0, false⟩]⟩,
  ⟨0x2310, 1, 8388607, .node, false, [
    ⟨0, 1, 1, .enum, .rw, 1, 0, 3, 0, false⟩,
    ⟨1, 1, 1, .u16, .rw, 1, 10, 65535, 0x3E8, false⟩,
    ⟨2, 1, 1, .bits, .rw, 1, 0, 18446744073642442752, 0, false⟩,
    ⟨3, 1, 1, .bits, .ro, 0, 0, 18446744073709551615, 0, false⟩,
    ⟨4, 1, 1, .s32, .ro, 0, -2147483648, 2147483647, 0, false⟩,
    ⟨5, 1, 1, .u32, .ro, 0, 0, 4294967295, 0, false⟩,
    ⟨6, 2, 2, .time, .ro, 0, 0, 0, 0, false⟩,
    ⟨8, 1, 1, .u8, .cmd, 1, 0, 255, 0, false⟩]⟩]

/-- The families 0x2400, 0x2401, 0x2410, 0x2420, 0x2430 of 10_tally.md. -/
def dict10a : List Family := [
  ⟨0x2400, 0, 0, .plain, false, [
    ⟨0, 1, 1, .enum, .txn, 2, 0, 5, 0, false⟩,
    ⟨1, 1, 1, .bool, .rw, 2, 0, 1, 1, false⟩,
    ⟨2, 1, 1, .u16, .ro, 0, 0, 65535, 0, false⟩]⟩,
  ⟨0x2401, 0, 23, .port, true, [
    ⟨0, 1, 1, .u8, .txn, 2, 0, 23, 0, false⟩]⟩,
  ⟨0x2410, 0, 31, .plain, false, [
    ⟨0, 1, 1, .u32, .txn, 2, 0, 4294967295, 0, false⟩,
    ⟨1, 1, 1, .u32, .txn, 2, 0, 4294967295, 0, false⟩,
    ⟨2, 1, 1, .u32, .txn, 2, 0, 3600000, 0, false⟩,
    ⟨3, 1, 1, .u32, .txn, 2, 0, 4294967295, 0, false⟩,
    ⟨4, 1, 1, .bits, .txn, 2, 0, 281474976710655, 0, false⟩,
    ⟨5, 1, 1, .bits, .txn, 2, 0, 13835339530258874367, 0, false⟩]⟩,
  ⟨0x2420, 0, 767, .plain, false, [
    ⟨0, 1, 1, .u64, .ro, 0, 0, 18446744073709551615, 0, false⟩,
    ⟨1, 1, 1, .u64, .ro, 0, 0, 18446744073709551615, 0, false⟩,
    ⟨2, 1, 1, .bool, .ro, 0, 0, 1, 0, false⟩,
    ⟨3, 1, 1, .u64, .rc, 1, 0, 18446744073709551615, 0, false⟩,
    ⟨4, 1, 1, .enum, .ro, 0, 0, 255, 0, false⟩]⟩,
  ⟨0x2430, 0, 0, .plain, false, [
    ⟨0, 1, 1, .u64, .rc, 1, 0, 18446744073709551615, 0, false⟩,
    ⟨1, 1, 1, .u64, .rc, 1, 0, 18446744073709551615, 0, false⟩,
    ⟨2, 1, 1, .u64, .rc, 1, 0, 18446744073709551615, 0, false⟩,
    ⟨3, 1, 1, .u64, .rc, 1, 0, 18446744073709551615, 0, false⟩,
    ⟨4, 1, 1, .u64, .rc, 1, 0, 18446744073709551615, 0, false⟩]⟩]

/-- The families 0x3000, 0x3001, 0x3002, 0x3003, 0x3008, 0x3020, 0x3030, 0x3031 of 11_node_table_forwarding.md. -/
def dict11a : List Family := [
  ⟨0x3000, 0, 0, .plain, false, [
    ⟨0, 1, 1, .enum, .rw, 2, 0, 1, 0, false⟩,
    ⟨1, 1, 1, .u8, .rw, 2, 1, 128, 0x80, false⟩,
    ⟨2, 1, 1, .u32, .ro, 0, 0, 4294967295, 0, false⟩,
    ⟨3, 1, 1, .u32, .ro, 0, 0, 4294967295, 0, false⟩,
    ⟨4, 1, 1, .u32, .rw, 2, 10, 10000, 0x64, false⟩,
    ⟨5, 1, 1, .u64, .rc, 1, 0, 18446744073709551615, 0, false⟩,
    ⟨6, 1, 1, .u64, .rc, 1, 0, 18446744073709551615, 0, false⟩]⟩,
  ⟨0x3001, 0, 15, .plain, false, [
    ⟨0, 1, 1, .eui, .rw, 2, 0, 18446744073709551615, 0, false⟩,
    ⟨1, 1, 1, .eui, .rw, 2, 0, 18446744073709551615, 0, false⟩,
    ⟨2, 1, 1, .u32, .rw, 2, 0, 4294967295, 0, false⟩,
    ⟨3, 1, 1, .u8, .cmd, 2, 0, 255, 0, false⟩,
    ⟨4, 1, 1, .bits, .ro, 0, 0, 18446744073709551615, 0, false⟩]⟩,
  ⟨0x3002, 0, 1, .plain, false, [
    ⟨0, 1, 1, .u64, .rw, 2, 0, 18446744073709551615, 0, false⟩,
    ⟨1, 1, 1, .u64, .rw, 2, 0, 18446744073709551615, 0, false⟩,
    ⟨2, 1, 1, .u32, .ro, 0, 0, 4294967295, 0, false⟩,
    ⟨3, 1, 1, .u8, .ro, 0, 0, 255, 0, false⟩,
    ⟨4, 1, 1, .u64, .rc, 1, 0, 18446744073709551615, 0, false⟩,
    ⟨5, 1, 1, .u64, .rc, 1, 0, 18446744073709551615, 0, false⟩,
    ⟨6, 1, 1, .u8, .ro, 0, 0, 255, 0, false⟩,
    ⟨7, 1, 1, .u64, .rc, 1, 0, 18446744073709551615, 0, false⟩,
    ⟨8, 1, 1, .u64, .rc, 1, 0, 18446744073709551615, 0, false⟩,
    ⟨9, 1, 1, .u64, .rc, 1, 0, 18446744073709551615, 0, false⟩]⟩,
  ⟨0x3003, 0, 7, .plain, false, [
    ⟨0, 1, 1, .u32, .txn, 2, 0, 8388607, 1, false⟩,
    ⟨1, 1, 1, .u32, .txn, 2, 0, 8388607, 0x7FFFFF, false⟩]⟩,
  ⟨0x3008, 0, 31, .plain, false, [
    ⟨0, 1, 1, .u16, .rw, 1, 0, 65535, 0x3100, false⟩,
    ⟨1, 1, 1, .u32, .rw, 1, 0, 4294967295, 0, false⟩]⟩,
  ⟨0x3020, 0, 3, .plain, false, [
    ⟨0, 1, 1, .u64, .rc, 1, 0, 18446744073709551615, 0, false⟩,
    ⟨1, 1, 1, .u64, .rc, 1, 0, 18446744073709551615, 0, false⟩,
    ⟨2, 1, 1, .u64, .rc, 1, 0, 18446744073709551615, 0, false⟩,
    ⟨3, 1, 1, .u64, .rc, 1, 0, 18446744073709551615, 0, false⟩,
    ⟨4, 1, 1, .u64, .rc, 1, 0, 18446744073709551615, 0, false⟩,
    ⟨5, 1, 1, .u64, .rc, 1, 0, 18446744073709551615, 0, false⟩,
    ⟨6, 1, 1, .u64, .rc, 1, 0, 18446744073709551615, 0, false⟩,
    ⟨7, 1, 1, .u64, .rc, 1, 0, 18446744073709551615, 0, false⟩,
    ⟨8, 1, 1, .u64, .rc, 1, 0, 18446744073709551615, 0, false⟩,
    ⟨9, 1, 1, .u64, .rc, 1, 0, 18446744073709551615, 0, false⟩,
    ⟨10, 1, 1, .u64, .rc, 1, 0, 18446744073709551615, 0, false⟩,
    ⟨11, 1, 1, .u64, .rc, 1, 0, 18446744073709551615, 0, false⟩,
    ⟨12, 1, 1, .u64, .rc, 1, 0, 18446744073709551615, 0, false⟩,
    ⟨13, 1, 1, .u64, .rc, 1, 0, 18446744073709551615, 0, false⟩]⟩,
  ⟨0x3030, 0, 0, .plain, false, [
    ⟨0, 2, 2, .ipv6, .rw, 2, 0, 18446744073709551615, 0, false⟩,
    ⟨2, 1, 1, .u8, .rw, 2, 0, 255, 0, false⟩,
    ⟨3, 1, 1, .u16, .rw, 2, 0, 65535, 0x100, false⟩,
    ⟨4, 1, 1, .u8, .rw, 2, 1, 64, 0x10, false⟩,
    ⟨5, 1, 1, .u32, .rw, 2, 100, 60000, 0x1388, false⟩,
    ⟨6, 1, 1, .u16, .rw, 2, 1, 16384, 0x1000, false⟩,
    ⟨7, 1, 1, .u8, .rw, 2, 0, 31, 1, false⟩,
    ⟨8, 1, 1, .u8, .rw, 2, 0, 31, 0, false⟩]⟩,
  ⟨0x3031, 1, 15, .plain, false, [
    ⟨0, 2, 2, .ipv6, .rw, 2, 0, 18446744073709551615, 0, false⟩,
    ⟨2, 1, 1, .u8, .rw, 2, 0, 128, 0, false⟩]⟩]

/-- The families 0x3100 of 11_node_table_forwarding.md. -/
def dict11b : List Family := [
  ⟨0x3100, 1, 8388607, .node, false, [
    ⟨0, 1, 1, .enum, .ro, 0, 0, 255, 0, false⟩,
    ⟨1, 1, 1, .eui, .ro, 0, 0, 18446744073709551615, 0, false⟩,
    ⟨2, 1, 1, .eui, .ro, 0, 0, 18446744073709551615, 0, false⟩,
    ⟨3, 1, 1, .u16, .rw, 2, 0, 65535, 0xFFFE, false⟩,
    ⟨4, 3, 1, .u32, .rw, 2, 0, 8388608, 0, false⟩,
    ⟨7, 1, 1, .u16, .rw, 2, 0, 65535, 0, false⟩,
    ⟨8, 1, 1, .bits, .rw, 2, 0, 280384055017471, 0, false⟩,
    ⟨9, 1, 1, .bits, .ro, 1, 0, 18446744073709551615, 0, false⟩,
    ⟨10, 1, 1, .u32, .ro, 1, 0, 4294967295, 0, false⟩,
    ⟨11, 1, 1, .bits, .ro, 1, 0, 18446744073709551615, 0, false⟩,
    ⟨12, 1, 1, .u32, .rw, 1, 0, 4294967295, 0, false⟩,
    ⟨13, 1, 1, .u32, .ro, 0, 0, 4294967295, 0, false⟩,
    ⟨14, 1, 1, .bits, .ro, 0, 0, 18446744073709551615, 0x800000000, false⟩,
    ⟨15, 1, 1, .bits, .rw, 1, 0, 65535, 0, false⟩,
    ⟨16, 1, 1, .bits, .ro, 0, 0, 18446744073709551615, 0, false⟩,
    ⟨17, 1, 1, .bool, .rw, 2, 0, 1, 0, false⟩,
    ⟨18, 1, 1, .u8, .ro, 0, 0, 255, 0, false⟩,
    ⟨19, 1, 1, .u8, .cmd, 2, 0, 255, 0, false⟩]⟩]

/-- The families 0x3400, 0x3401, 0x3410, 0x3420, 0x3421, 0x3430, 0x3440, 0x3441 of 12_queues_shaping_policing.md. -/
def dict12a : List Family := [
  ⟨0x3400, 0, 0, .plain, false, [
    ⟨0, 1, 1, .u32, .ro, 0, 0, 4294967295, 0x20000, false⟩,
    ⟨1, 1, 1, .u8, .rw, 2, 0, 63, 0, false⟩,
    ⟨2, 1, 1, .u16, .rw, 1, 0, 65535, 0xFFF, false⟩,
    ⟨3, 1, 1, .u16, .rw, 2, 0, 4095, 0xFFF, false⟩,
    ⟨4, 1, 1, .u32, .rw, 1, 1, 131072, 0xC00, false⟩,
    ⟨5, 1, 1, .u32, .rw, 1, 0, 131071, 0x400, false⟩,
    ⟨6, 1, 1, .bool, .ro, 0, 0, 1, 0, false⟩,
    ⟨7, 1, 1, .u64, .rc, 1, 0, 18446744073709551615, 0, false⟩,
    ⟨8, 1, 1, .u64, .rc, 1, 0, 18446744073709551615, 0, false⟩]⟩,
  ⟨0x3401, 0, 4, .plain, false, [
    ⟨0, 64, 1, .u8, .rw, 2, 0, 63, 0, false⟩]⟩,
  ⟨0x3410, 0, 63, .plain, false, [
    ⟨0, 1, 1, .u16, .rw, 1, 0, 65535, 0xFFFF, false⟩,
    ⟨1, 1, 1, .u16, .rw, 2, 0, 4095, 0, false⟩]⟩,
  ⟨0x3420, 0, 4095, .queue, true, [
    ⟨0, 1, 1, .bits, .txn, 2, 0, 17293822569102706463, 0, false⟩,
    ⟨1, 1, 1, .u32, .rw, 2, 0, 131072, 0x1000, false⟩,
    ⟨2, 1, 1, .u32, .rw, 2, 0, 131072, 0x800, false⟩,
    ⟨3, 1, 1, .u16, .rw, 1, 1, 1024, 0x10, false⟩,
    ⟨4, 1, 1, .u32, .ro, 0, 0, 4294967295, 0, false⟩,
    ⟨5, 1, 1, .u32, .ro, 0, 0, 4294967295, 0, false⟩,
    ⟨6, 1, 1, .bool, .ro, 0, 0, 1, 0, false⟩]⟩,
  ⟨0x3421, 0, 4095, .plain, false, [
    ⟨0, 1, 1, .u64, .rc, 1, 0, 18446744073709551615, 0, false⟩,
    ⟨1, 1, 1, .u64, .rc, 1, 0, 18446744073709551615, 0, false⟩,
    ⟨2, 1, 1, .u64, .rc, 1, 0, 18446744073709551615, 0, false⟩,
    ⟨3, 1, 1, .u64, .rc, 1, 0, 18446744073709551615, 0, false⟩,
    ⟨4, 1, 1, .u64, .rc, 1, 0, 18446744073709551615, 0, false⟩,
    ⟨5, 1, 1, .u64, .rc, 1, 0, 18446744073709551615, 0, false⟩]⟩,
  ⟨0x3430, 0, 4095, .queue, true, [
    ⟨0, 1, 1, .bool, .rw, 1, 0, 1, 0, false⟩,
    ⟨1, 1, 1, .u64, .rw, 1, 0, 100000000000, 0, false⟩,
    ⟨2, 1, 1, .u64, .rw, 1, 64, 4294967296, 0x4000, false⟩,
    ⟨3, 1, 1, .s32, .rw, 1, -64, 64, 0, false⟩,
    ⟨4, 1, 1, .s64, .ro, 0, -9223372036854775808, 9223372036854775807, 0x4000, false⟩]⟩,
  ⟨0x3440, 0, 4095, .plain, false, [
    ⟨0, 1, 1, .enum, .rw, 1, 0, 2, 0, false⟩,
    ⟨1, 1, 1, .u64, .rw, 1, 0, 18446744073709551615, 0, false⟩,
    ⟨2, 1, 1, .u64, .rw, 1, 0, 18446744073709551615, 0, false⟩,
    ⟨3, 1, 1, .u64, .rw, 1, 0, 18446744073709551615, 0, false⟩,
    ⟨4, 1, 1, .u64, .rw, 1, 0, 18446744073709551615, 0, false⟩,
    ⟨5, 1, 1, .bits, .rw, 1, 0, 131071, 0x1FFFF, false⟩,
    ⟨6, 1, 1, .s64, .ro, 0, -9223372036854775808, 9223372036854775807, 0, false⟩,
    ⟨7, 1, 1, .s64, .ro, 0, -9223372036854775808, 9223372036854775807, 0, false⟩]⟩,
  ⟨0x3441, 0, 4095, .plain, false, [
    ⟨0, 1, 1, .u64, .rc, 1, 0, 18446744073709551615, 0, false⟩,
    ⟨1, 1, 1, .u64, .rc, 1, 0, 18446744073709551615, 0, false⟩,
    ⟨2, 1, 1, .u64, .rc, 1, 0, 18446744073709551615, 0, false⟩,
    ⟨3, 1, 1, .u64, .rc, 1, 0, 18446744073709551615, 0, false⟩]⟩]

/-- The families 0x3450, 0x3460, 0x3470, 0x3471, 0x3472 of 12_queues_shaping_policing.md. -/
def dict12b : List Family := [
  ⟨0x3450, 0, 16, .plain, false, [
    ⟨0, 1, 1, .u16, .rw, 1, 0, 65535, 0xFFFF, false⟩,
    ⟨1, 1, 1, .u16, .rw, 2, 0, 4095, 0x40, false⟩,
    ⟨2, 1, 1, .u32, .rw, 2, 0, 4294967295, 0x20000, false⟩,
    ⟨3, 1, 1, .u32, .rw, 2, 0, 4294967295, 0x1000000, false⟩,
    ⟨4, 1, 1, .u32, .ro, 0, 0, 4294967295, 0, false⟩,
    ⟨5, 1, 1, .u32, .ro, 0, 0, 4294967295, 0, false⟩,
    ⟨6, 1, 1, .bits, .ro, 0, 0, 18446744073709551615, 0, false⟩,
    ⟨7, 1, 1, .u64, .rc, 1, 0, 18446744073709551615, 0, false⟩]⟩,
  ⟨0x3460, 0, 31, .plain, false, [
    ⟨0, 1, 1, .u32, .rw, 2, 0, 4294967295, 0x20000, false⟩,
    ⟨1, 1, 1, .u32, .rw, 2, 0, 4294967295, 0x1000000, false⟩,
    ⟨2, 1, 1, .u32, .ro, 0, 0, 4294967295, 0, false⟩,
    ⟨3, 1, 1, .u32, .ro, 0, 0, 4294967295, 0, false⟩,
    ⟨4, 1, 1, .bits, .ro, 0, 0, 18446744073709551615, 0, false⟩,
    ⟨5, 1, 1, .u64, .rc, 1, 0, 18446744073709551615, 0, false⟩]⟩,
  ⟨0x3470, 0, 3, .plain, false, [
    ⟨0, 1, 1, .enum, .txn, 2, 0, 1, 0, false⟩,
    ⟨1, 1, 1, .enum, .ro, 0, 0, 255, 0, false⟩,
    ⟨2, 1, 1, .bits, .ro, 0, 0, 18446744073709551615, 0xFF, false⟩,
    ⟨3, 2, 2, .time, .ro, 0, 0, 0, 0, false⟩,
    ⟨5, 1, 1, .u8, .ro, 0, 0, 255, 0, false⟩]⟩,
  ⟨0x3471, 0, 3, .plain, false, [
    ⟨0, 1, 1, .u8, .rw, 2, 0, 64, 0, false⟩,
    ⟨1, 1, 1, .u32, .rw, 2, 1000, 1000000000, 0xF4240, false⟩,
    ⟨2, 2, 2, .time, .rw, 2, 0, 0, 0, false⟩,
    ⟨4, 64, 1, .bits, .rw, 2, 0, 1099511627775, 0, false⟩]⟩,
  ⟨0x3472, 0, 3, .plain, false, [
    ⟨0, 1, 1, .u8, .rw, 2, 0, 64, 0, false⟩,
    ⟨1, 1, 1, .u32, .rw, 2, 1000, 1000000000, 0xF4240, false⟩,
    ⟨2, 2, 2, .time, .rw, 2, 0, 0, 0, false⟩,
    ⟨4, 64, 1, .bits, .rw, 2, 0, 1099511627775, 0, false⟩]⟩]

/-- The families 0x4000, 0x4010, 0x4011, 0x4020, 0x4030, 0x4040 of 13_keys_crypto.md. -/
def dict13a : List Family := [
  ⟨0x4000, 0, 4095, .plain, false, [
    ⟨0, 1, 1, .bits, .ro, 0, 0, 18446744073709551615, 0, false⟩,
    ⟨1, 1, 1, .enum, .ro, 0, 0, 255, 0, false⟩,
    ⟨2, 1, 1, .u32, .ro, 0, 0, 4294967295, 0, false⟩,
    ⟨3, 1, 1, .u32, .ro, 0, 0, 4294967295, 0, false⟩,
    ⟨4, 1, 1, .u32, .ro, 0, 0, 4294967295, 0, false⟩,
    ⟨5, 1, 1, .bool, .txn, 2, 0, 1, 0, false⟩,
    ⟨6, 1, 1, .u8, .cmd, 2, 0, 255, 0, false⟩,
    ⟨7, 1, 1, .u32, .ro, 1, 0, 4294967295, 0, false⟩,
    ⟨8, 1, 1, .u64, .rc, 1, 0, 18446744073709551615, 0, false⟩]⟩,
  ⟨0x4010, 0, 0, .plain, false, [
    ⟨0, 1, 1, .u16, .rw, 2, 0, 4095, 0, false⟩,
    ⟨1, 1, 1, .bits, .rw, 2, 0, 17870283320332386304, 0, false⟩,
    ⟨2, 1, 1, .u32, .rw, 2, 1, 4294967295, 0, false⟩,
    ⟨3, 1, 1, .u16, .rw, 2, 0, 65535, 0xFFFF, false⟩,
    ⟨4, 1, 1, .u32, .rw, 2, 0, 4294967295, 0, false⟩,
    ⟨5, 1, 1, .u16, .rw, 2, 0, 65535, 0, false⟩,
    ⟨6, 32, 32, (.octets 256), .wo, 2, 0, 18446744073709551615, 0, false⟩,
    ⟨38, 1, 1, .u16, .cmd, 2, 0, 65535, 0, false⟩,
    ⟨39, 1, 1, .u16, .rw, 2, 0, 4096, 0, false⟩,
    ⟨40, 1, 1, .u8, .cmd, 2, 0, 255, 0, false⟩,
    ⟨41, 1, 1, .enum, .ro, 0, 0, 255, 0, false⟩]⟩,
  ⟨0x4011, 0, 0, .plain, false, [
    ⟨0, 1, 1, .u16, .rw, 0, 0, 65535, 1, false⟩,
    ⟨1, 1, 1, .u16, .rw, 0, 0, 65535, 0, false⟩,
    ⟨2, 1, 1, .u16, .ro, 0, 0, 65535, 0, false⟩,
    ⟨3, 32, 32, (.octets 256), .ro, 0, 0, 18446744073709551615, 0, false⟩]⟩,
  ⟨0x4020, 0, 0, .plain, false, [
    ⟨0, 1, 1, .enum, .ro, 0, 0, 255, 0, false⟩,
    ⟨1, 1, 1, .enum, .rw, 2, 0, 5, 0, false⟩,
    ⟨2, 1, 1, .u8, .cmd, 2, 0, 255, 0, false⟩,
    ⟨3, 1, 1, .u8, .ro, 0, 0, 255, 0, false⟩,
    ⟨4, 1, 1, .u64, .ro, 2, 0, 18446744073709551615, 0, false⟩,
    ⟨5, 1, 1, .bool, .ro, 0, 0, 1, 0, false⟩]⟩,
  ⟨0x4030, 0, 0, .plain, false, [
    ⟨0, 1, 1, .u8, .rw, 2, 5, 7, 5, false⟩,
    ⟨1, 1, 1, .u8, .rw, 2, 5, 7, 5, false⟩,
    ⟨2, 1, 1, .u16, .rw, 2, 0, 65535, 0xFFFF, false⟩,
    ⟨3, 1, 1, .u8, .ro, 0, 0, 255, 0, false⟩,
    ⟨4, 1, 1, .bits, .ro, 0, 0, 18446744073709551615, 0, false⟩,
    ⟨5, 1, 1, .u64, .rc, 1, 0, 18446744073709551615, 0, false⟩,
    ⟨6, 1, 1, .u64, .rc, 1, 0, 18446744073709551615, 0, false⟩,
    ⟨7, 1, 1, .u64, .rc, 1, 0, 18446744073709551615, 0, false⟩,
    ⟨8, 1, 1, .u64, .rc, 1, 0, 18446744073709551615, 0, false⟩]⟩,
  ⟨0x4040, 0, 5, .plain, false, [
    ⟨0, 1, 1, .u8, .rw, 2, 1, 64, 4, false⟩,
    ⟨1, 1, 1, .u16, .ro, 0, 0, 65535, 0, false⟩,
    ⟨2, 1, 1, .u64, .rc, 1, 0, 18446744073709551615, 0, false⟩,
    ⟨3, 1, 1, .u64, .rc, 1, 0, 18446744073709551615, 0, false⟩]⟩]

/-- The families 0x4300, 0x4301, 0x4302, 0x4303, 0x4310, 0x4320 of 14_join_attestation.md. -/
def dict14a : List Family := [
  ⟨0x4300, 0, 0, .plain, false, [
    ⟨0, 1, 1, .bool, .rw, 2, 0, 1, 0, false⟩,
    ⟨1, 1, 1, .u16, .rw, 2, 0, 65535, 0xB814, false⟩,
    ⟨2, 1, 1, .u16, .rw, 2, 0, 65535, 0xFFFF, false⟩,
    ⟨3, 1, 1, .u16, .rw, 2, 0, 65535, 0xFFFF, false⟩,
    ⟨4, 1, 1, .u32, .rw, 2, 3600, 31536000, 0x278D00, false⟩,
    ⟨5, 1, 1, .u16, .rw, 2, 0, 65535, 0, false⟩,
    ⟨6, 1, 1, .u32, .rw, 2, 1000, 600000, 0xEA60, false⟩,
    ⟨7, 1, 1, .u16, .rw, 2, 1, 4096, 0x400, false⟩,
    ⟨8, 1, 1, .u32, .rw, 2, 1000, 600000, 0x7530, false⟩,
    ⟨9, 1, 1, .u32, .rw, 2, 1000, 600000, 0xEA60, false⟩,
    ⟨10, 1, 1, .u16, .rw, 1, 1, 65535, 0x3C, false⟩,
    ⟨11, 1, 1, .bool, .rw, 1, 0, 1, 0, false⟩,
    ⟨12, 1, 1, .u64, .rw, 2, 0, 18446744073709551615, 0, false⟩,
    ⟨13, 1, 1, .bool, .rw, 2, 0, 1, 1, false⟩,
    ⟨14, 1, 1, .u64, .ro, 0, 0, 18446744073709551615, 0, false⟩,
    ⟨15, 1, 1, .u16, .ro, 0, 0, 65535, 0, false⟩]⟩,
  ⟨0x4301, 0, 0, .plain, false, [
    ⟨0, 1, 1, .u16, .rw, 2, 0, 65535, 0, false⟩,
    ⟨1, 32, 32, (.octets 256), .wo, 2, 0, 18446744073709551615, 0, false⟩,
    ⟨33, 1, 1, .u16, .cmd, 2, 0, 65535, 0, false⟩,
    ⟨34, 1, 1, .u16, .cmd, 2, 0, 65535, 0, false⟩,
    ⟨35, 1, 1, .enum, .ro, 0, 0, 255, 0, false⟩,
    ⟨36, 1, 1, .u64, .ro, 0, 0, 18446744073709551615, 0, false⟩]⟩,
  ⟨0x4302, 0, 0, .plain, false, [
    ⟨0, 1, 1, .u64, .rc, 1, 0, 18446744073709551615, 0, false⟩,
    ⟨1, 1, 1, .u64, .rc, 1, 0, 18446744073709551615, 0, false⟩,
    ⟨2, 1, 1, .u64, .rc, 1, 0, 18446744073709551615, 0, false⟩,
    ⟨3, 1, 1, .u64, .rc, 1, 0, 18446744073709551615, 0, false⟩,
    ⟨4, 1, 1, .u64, .rc, 1, 0, 18446744073709551615, 0, false⟩]⟩,
  ⟨0x4303, 0, 0, .plain, false, [
    ⟨1, 14, 1, .u64, .rc, 1, 0, 18446744073709551615, 0, false⟩]⟩,
  ⟨0x4310, 0, 15, .plain, false, [
    ⟨0, 1, 1, .u16, .rw, 2, 0, 65535, 0xFFFF, false⟩,
    ⟨1, 1, 1, .bool, .rw, 2, 0, 1, 0, false⟩,
    ⟨2, 1, 1, .enum, .ro, 0, 0, 255, 0, false⟩,
    ⟨3, 1, 1, .u64, .ro, 0, 0, 18446744073709551615, 0, false⟩,
    ⟨4, 1, 1, .u16, .rw, 2, 0, 65535, 0, false⟩,
    ⟨5, 32, 32, (.octets 256), .wo, 2, 0, 18446744073709551615, 0, false⟩,
    ⟨37, 1, 1, .u16, .cmd, 2, 0, 65535, 0, false⟩,
    ⟨38, 1, 1, .u16, .cmd, 2, 0, 65535, 0, false⟩]⟩,
  ⟨0x4320, 0, 0, .plain, false, [
    ⟨0, 4, 4, (.octets 32), .rw, 0, 0, 18446744073709551615, 0, false⟩,
    ⟨4, 1, 1, .u8, .cmd, 0, 0, 255, 0, false⟩,
    ⟨5, 1, 1, .enum, .ro, 0, 0, 255, 0, false⟩,
    ⟨6, 1, 1, .u16, .rw, 0, 0, 65535, 0, false⟩,
    ⟨7, 32, 32, (.octets 256), .ro, 0, 0, 18446744073709551615, 0, false⟩]⟩]

/-- The families 0x4400, 0x4401, 0x4410, 0x4420 of 15_node_image_campaigns.md. -/
def dict15a : List Family := [
  ⟨0x4400, 0, 63, .plain, false, [
    ⟨0, 1, 1, .enum, .ro, 0, 0, 255, 0, false⟩,
    ⟨1, 1, 1, .u32, .ro, 0, 0, 4294967295, 0, false⟩,
    ⟨2, 1, 1, .u32, .ro, 0, 0, 4294967295, 0, false⟩,
    ⟨3, 1, 1, .u64, .ro, 0, 0, 18446744073709551615, 0, false⟩,
    ⟨4, 1, 1, .u16, .rw, 2, 0, 65535, 0xFFFF, false⟩,
    ⟨5, 1, 1, .u32, .rw, 2, 0, 4294967295, 0, false⟩,
    ⟨6, 32, 32, (.octets 256), .wo, 2, 0, 18446744073709551615, 0, false⟩,
    ⟨38, 1, 1, .u16, .cmd, 2, 0, 65535, 0, false⟩,
    ⟨39, 1, 1, .u8, .cmd, 2, 0, 255, 0, false⟩,
    ⟨40, 1, 1, .u8, .cmd, 2, 0, 255, 0, false⟩,
    ⟨41, 1, 1, .u8, .ro, 0, 0, 255, 0, false⟩]⟩,
  ⟨0x4401, 0, 0, .plain, false, [
    ⟨0, 1, 1, .u16, .rw, 2, 0, 65535, 0xB815, false⟩,
    ⟨1, 1, 1, .u64, .rc, 1, 0, 18446744073709551615, 0, false⟩]⟩,
  ⟨0x4410, 0, 3, .plain, false, [
    ⟨0, 1, 1, .u8, .rw, 1, 0, 63, 0, false⟩,
    ⟨1, 1, 1, .bits, .rw, 1, 0, 65535, 0, false⟩,
    ⟨2, 1, 1, .bits, .rw, 1, 0, 16777215, 0, false⟩,
    ⟨3, 1, 1, .u8, .rw, 1, 0, 8, 4, false⟩,
    ⟨4, 1, 1, .u32, .rw, 1, 0, 600000, 0x1F4, false⟩,
    ⟨5, 1, 1, .u16, .rw, 2, 0, 4095, 0x3C, false⟩,
    ⟨6, 1, 1, .u16, .rw, 1, 1, 4096, 0x100, false⟩,
    ⟨7, 1, 1, .u8, .rw, 1, 1, 16, 3, false⟩,
    ⟨8, 1, 1, .u32, .rw, 1, 10, 86400, 0x258, false⟩,
    ⟨9, 1, 1, .u64, .rw, 1, 0, 18446744073709551615, 0, false⟩,
    ⟨10, 1, 1, .u8, .cmd, 1, 0, 255, 0, false⟩,
    ⟨11, 1, 1, .enum, .ro, 0, 0, 255, 0, false⟩,
    ⟨12, 1, 1, .enum, .ro, 0, 0, 255, 0, false⟩,
    ⟨13, 1, 1, .u16, .ro, 0, 0, 65535, 0, false⟩,
    ⟨14, 7, 1, .u32, .ro, 0, 0, 4294967295, 0, false⟩,
    ⟨21, 1, 1, .u64, .rc, 1, 0, 18446744073709551615, 0, false⟩,
    ⟨22, 1, 1, .u64, .rc, 1, 0, 18446744073709551615, 0, false⟩]⟩,
  ⟨0x4420, 1, 8388607, .node, false, [
    ⟨0, 4, 1, .enum, .ro, 0, 0, 255, 0, false⟩]⟩]

/-- The families 0x5000, 0x5001, 0x5002, 0x5010, 0x5020, 0x5100, 0x5101, 0x5200 of 16_backhaul_time.md. -/
def dict16a : List Family := [
  ⟨0x5000, 0, 4, .plain, false, [
    ⟨0, 1, 1, .enum, .rw, 2, 0, 4, 0, false⟩,
    ⟨1, 1, 1, .bool, .rw, 2, 0, 1, 1, false⟩,
    ⟨2, 1, 1, .enum, .ro, 0, 0, 255, 0, false⟩,
    ⟨3, 1, 1, .bool, .ro, 0, 0, 1, 0, false⟩,
    ⟨4, 1, 1, .u64, .rw, 2, 0, 18446744073709551615, 0, false⟩,
    ⟨5, 1, 1, .u16, .rw, 2, 68, 9000, 0x5DC, false⟩,
    ⟨6, 1, 1, .u16, .rw, 2, 0, 4094, 0, false⟩,
    ⟨7, 1, 1, .bool, .rw, 2, 0, 1, 0, false⟩,
    ⟨8, 1, 1, .u32, .rw, 2, 0, 10000, 0, false⟩,
    ⟨9, 1, 1, .u32, .rw, 2, 0, 10000, 0, false⟩,
    ⟨10, 1, 1, .u8, .rw, 2, 0, 255, 0xFF, false⟩]⟩,
  ⟨0x5001, 0, 4, .plain, false, [
    ⟨0, 1, 1, .u64, .rc, 1, 0, 18446744073709551615, 0, false⟩,
    ⟨1, 2, 2, .u64, .rc, 1, 0, 18446744073709551615, 0, false⟩,
    ⟨3, 1, 1, .u64, .rc, 1, 0, 18446744073709551615, 0, false⟩,
    ⟨4, 2, 2, .u64, .rc, 1, 0, 18446744073709551615, 0, false⟩,
    ⟨6, 1, 1, .u64, .rc, 1, 0, 18446744073709551615, 0, false⟩,
    ⟨7, 1, 1, .u64, .rc, 1, 0, 18446744073709551615, 0, false⟩,
    ⟨8, 1, 1, .u64, .rc, 1, 0, 18446744073709551615, 0, false⟩,
    ⟨9, 1, 1, .u64, .rc, 1, 0, 18446744073709551615, 0, false⟩]⟩,
  ⟨0x5002, 0, 0, .plain, false, [
    ⟨0, 1, 1, .u8, .rw, 2, 0, 31, 2, false⟩,
    ⟨1, 1, 1, .u64, .cmd, 2, 0, 18446744073709551615, 0, false⟩,
    ⟨2, 1, 1, .u64, .ro, 0, 0, 18446744073709551615, 0, false⟩]⟩,
  ⟨0x5010, 0, 15, .plain, false, [
    ⟨0, 1, 1, .u8, .rw, 2, 0, 255, 0xFF, false⟩,
    ⟨1, 1, 1, .u16, .rw, 2, 0, 4094, 0, false⟩,
    ⟨2, 2, 2, .ipv6, .rw, 2, 0, 18446744073709551615, 0, false⟩,
    ⟨4, 1, 1, .u8, .rw, 2, 0, 128, 0, false⟩,
    ⟨5, 2, 2, .ipv6, .rw, 2, 0, 18446744073709551615, 0, false⟩,
    ⟨7, 1, 1, .u8, .rw, 2, 0, 32, 0, false⟩,
    ⟨8, 2, 2, .ipv6, .rw, 2, 0, 18446744073709551615, 0, false⟩]⟩,
  ⟨0x5020, 0, 255, .plain, false, [
    ⟨0, 2, 2, .ipv6, .rw, 1, 0, 18446744073709551615, 0, false⟩,
    ⟨2, 1, 1, .u8, .rw, 1, 0, 15, 0, false⟩,
    ⟨3, 1, 1, .u64, .rw, 1, 0, 18446744073709551615, 0, false⟩]⟩,
  ⟨0x5100, 0, 3, .plain, false, [
    ⟨0, 1, 1, .enum, .rw, 2, 0, 5, 0, false⟩,
    ⟨1, 1, 1, .enum, .rw, 2, 0, 2, 2, false⟩,
    ⟨2, 1, 1, .enum, .rw, 2, 0, 1, 0, false⟩,
    ⟨3, 1, 1, .bool, .rw, 2, 0, 1, 0, false⟩,
    ⟨4, 1, 1, .s32, .rw, 2, -7, 4, 0xFFFFFFFFFFFFFFFC, false⟩,
    ⟨5, 1, 1, .s32, .rw, 2, -7, 6, 0, false⟩,
    ⟨6, 1, 1, .s32, .rw, 2, -1000000, 1000000, 0, false⟩,
    ⟨7, 1, 1, .u8, .rw, 2, 0, 7, 3, false⟩,
    ⟨8, 1, 1, .u8, .rw, 2, 0, 15, 0, false⟩,
    ⟨9, 1, 1, .eui, .rw, 2, 0, 18446744073709551615, 0, false⟩,
    ⟨10, 1, 1, .u16, .rw, 2, 0, 65535, 0, false⟩,
    ⟨11, 1, 1, .s64, .ro, 0, -9223372036854775808, 9223372036854775807, 0, false⟩,
    ⟨12, 1, 1, .u64, .rc, 1, 0, 18446744073709551615, 0, false⟩,
    ⟨13, 1, 1, .u64, .rc, 1, 0, 18446744073709551615, 0, false⟩,
    ⟨14, 1, 1, .u64, .rc, 1, 0, 18446744073709551615, 0, false⟩]⟩,
  ⟨0x5101, 0, 0, .plain, false, [
    ⟨0, 1, 1, .u8, .rw, 2, 0, 255, 0, false⟩,
    ⟨1, 1, 1, .u16, .rw, 2, 0, 4095, 0, false⟩,
    ⟨2, 1, 1, .u8, .rw, 2, 0, 31, 3, false⟩]⟩,
  ⟨0x5200, 0, 0, .plain, false, [
    ⟨0, 2, 2, .time, .ro, 0, 0, 0, 0, false⟩,
    ⟨2, 1, 1, .s32, .rw, 2, -500000000, 500000000, 0, false⟩,
    ⟨3, 1, 1, .s64, .rw, 2, -9223372036854775808, 9223372036854775807, 0, false⟩,
    ⟨4, 2, 2, .time, .rw, 2, 0, 0, 0, false⟩,
    ⟨6, 1, 1, .u8, .cmd, 2, 0, 255, 0, false⟩,
    ⟨7, 1, 1, .u32, .ro, 0, 0, 4294967295, 0, false⟩]⟩]

/-- The families 0x5201, 0x5210, 0x5220 of 16_backhaul_time.md. -/
def dict16b : List Family := [
  ⟨0x5201, 0, 0, .plain, false, [
    ⟨0, 1, 1, .enum, .rw, 2, 0, 2, 0, false⟩,
    ⟨1, 1, 1, .u32, .rw, 2, 0, 4294967295, 0x1F40, false⟩,
    ⟨2, 1, 1, .u32, .rw, 2, 0, 4294967295, 0x320, false⟩,
    ⟨3, 1, 1, .u32, .rw, 2, 1, 500000000, 0xBEBC200, false⟩,
    ⟨4, 1, 1, .u64, .rw, 2, 0, 18446744073709551615, 0x186A0, false⟩,
    ⟨5, 1, 1, .u32, .rw, 2, 0, 4294967295, 0x64, false⟩,
    ⟨6, 1, 1, .u8, .rw, 2, 1, 255, 0x10, false⟩,
    ⟨7, 1, 1, .u32, .rw, 2, 10, 600000, 0xBB8, false⟩,
    ⟨8, 1, 1, .enum, .ro, 0, 0, 255, 0, false⟩,
    ⟨9, 1, 1, .s64, .ro, 0, -9223372036854775808, 9223372036854775807, 0, false⟩,
    ⟨10, 1, 1, .s32, .ro, 0, -2147483648, 2147483647, 0, false⟩,
    ⟨11, 1, 1, .u64, .ro, 0, 0, 18446744073709551615, 0, false⟩]⟩,
  ⟨0x5210, 0, 4, .plain, false, [
    ⟨0, 1, 1, .bits, .rc, 1, 0, 18446744073709551615, 0, false⟩,
    ⟨1, 2, 2, .time, .ro, 1, 0, 0, 0, false⟩,
    ⟨3, 1, 1, .u8, .ro, 0, 0, 255, 0, false⟩,
    ⟨4, 1, 1, .u64, .rc, 1, 0, 18446744073709551615, 0, false⟩]⟩,
  ⟨0x5220, 0, 0, .plain, false, [
    ⟨0, 1, 1, .bool, .rw, 2, 0, 1, 0, false⟩,
    ⟨1, 1, 1, .u32, .rw, 2, 1000, 900000000, 0x5F5E100, false⟩,
    ⟨2, 1, 1, .s32, .rw, 2, -500000000, 499999999, 0, false⟩,
    ⟨3, 1, 1, .bool, .rw, 2, 0, 1, 0, false⟩,
    ⟨4, 1, 1, .enum, .rw, 2, 0, 1, 0, false⟩,
    ⟨5, 1, 1, .s32, .rw, 2, -1000000, 1000000, 0, false⟩,
    ⟨6, 1, 1, .bool, .rw, 2, 0, 1, 0, false⟩,
    ⟨7, 1, 1, .enum, .rw, 2, 0, 1, 0, false⟩,
    ⟨8, 1, 1, .bool, .ro, 0, 0, 1, 0, false⟩]⟩]

/-- The families 0x5300, 0x5301, 0x5310 of 17_pair_redundancy.md. -/
def dict17a : List Family := [
  ⟨0x5300, 0, 0, .plain, false, [
    ⟨0, 1, 1, .u32, .rw, 2, 1, 3600, 0x1E, false⟩,
    ⟨1, 1, 1, .u32, .rw, 2, 2, 3600, 0x78, false⟩,
    ⟨2, 1, 1, .u32, .rw, 2, 1, 3600, 0x3C, false⟩,
    ⟨3, 1, 1, .u16, .rw, 2, 0, 65535, 0xFFFF, false⟩,
    ⟨4, 1, 1, .s32, .rw, 2, -10000, 10000, 0, false⟩,
    ⟨5, 1, 1, .u32, .rw, 2, 10, 60000, 0x3E8, false⟩,
    ⟨6, 1, 1, .u8, .ro, 0, 0, 255, 0xFF, false⟩,
    ⟨7, 1, 1, .enum, .ro, 0, 0, 255, 0, false⟩,
    ⟨8, 1, 1, .enum, .ro, 0, 0, 255, 0, false⟩,
    ⟨9, 1, 1, .u8, .cmd, 2, 0, 255, 0, false⟩,
    ⟨10, 1, 1, .u64, .ro, 0, 0, 18446744073709551615, 0, false⟩,
    ⟨11, 1, 1, .u64, .ro, 0, 0, 18446744073709551615, 0, false⟩,
    ⟨12, 1, 1, .u8, .ro, 0, 0, 255, 0, false⟩,
    ⟨13, 1, 1, .s64, .ro, 0, -9223372036854775808, 9223372036854775807, 0, false⟩,
    ⟨14, 1, 1, .u64, .ro, 0, 0, 18446744073709551615, 0, false⟩,
    ⟨15, 1, 1, .u32, .ro, 0, 0, 4294967295, 0, false⟩,
    ⟨16, 1, 1, .u32, .ro, 0, 0, 4294967295, 0, false⟩]⟩,
  ⟨0x5301, 0, 0, .plain, false, [
    ⟨0, 1, 1, .u64, .rc, 1, 0, 18446744073709551615, 0, false⟩,
    ⟨1, 1, 1, .u64, .rc, 1, 0, 18446744073709551615, 0, false⟩,
    ⟨2, 1, 1, .u64, .rc, 1, 0, 18446744073709551615, 0, false⟩,
    ⟨3, 1, 1, .u64, .rc, 1, 0, 18446744073709551615, 0, false⟩]⟩,
  ⟨0x5310, 0, 0, .plain, false, [
    ⟨0, 1, 1, .u32, .rw, 2, 5000, 1000000, 0x2710, false⟩,
    ⟨1, 1, 1, .u32, .rw, 2, 20, 10000, 0x32, false⟩,
    ⟨2, 1, 1, .u32, .rw, 2, 16, 1000, 0x18, false⟩,
    ⟨3, 1, 1, .u32, .rw, 2, 100, 60000, 0x7D0, false⟩,
    ⟨4, 1, 1, .bool, .rw, 2, 0, 1, 0, false⟩,
    ⟨5, 1, 1, .u8, .cmd, 2, 0, 255, 0, false⟩,
    ⟨6, 1, 1, .enum, .ro, 0, 0, 255, 0, false⟩,
    ⟨7, 1, 1, .bits, .ro, 0, 0, 18446744073709551615, 0, false⟩,
    ⟨8, 1, 1, .u64, .rc, 1, 0, 18446744073709551615, 0, false⟩]⟩]

/-- The families 0x5400, 0x5401, 0x5402, 0x5410 of 18_fabric.md. -/
def dict18a : List Family := [
  ⟨0x5400, 0, 5, .plain, false, [
    ⟨0, 1, 1, .bool, .rw, 2, 0, 1, 1, false⟩,
    ⟨1, 1, 1, .enum, .rw, 2, 0, 1, 0, false⟩,
    ⟨2, 1, 1, .enum, .ro, 0, 0, 255, 0, false⟩,
    ⟨3, 1, 1, .u8, .ro, 0, 0, 255, 0xFF, false⟩,
    ⟨4, 1, 1, .eui, .ro, 0, 0, 18446744073709551615, 0, false⟩,
    ⟨5, 1, 1, .u8, .ro, 0, 0, 255, 0, false⟩,
    ⟨6, 1, 1, .enum, .ro, 0, 0, 255, 0, false⟩,
    ⟨7, 1, 1, .bits, .rw, 2, 0, 65535, 0x40C0, false⟩]⟩,
  ⟨0x5401, 0, 5, .plain, false, [
    ⟨0, 1, 1, .u64, .rc, 1, 0, 18446744073709551615, 0, false⟩,
    ⟨1, 1, 1, .u64, .rc, 1, 0, 18446744073709551615, 0, false⟩,
    ⟨2, 1, 1, .u64, .rc, 1, 0, 18446744073709551615, 0, false⟩,
    ⟨3, 1, 1, .u64, .rc, 1, 0, 18446744073709551615, 0, false⟩,
    ⟨4, 1, 1, .u64, .rc, 1, 0, 18446744073709551615, 0, false⟩,
    ⟨5, 1, 1, .u64, .rc, 1, 0, 18446744073709551615, 0, false⟩,
    ⟨6, 1, 1, .u64, .rc, 1, 0, 18446744073709551615, 0, false⟩]⟩,
  ⟨0x5402, 0, 0, .plain, false, [
    ⟨0, 1, 1, .u8, .ro, 0, 0, 255, 0x10, false⟩,
    ⟨1, 1, 1, .u8, .ro, 0, 0, 255, 0, false⟩,
    ⟨2, 1, 1, .u16, .ro, 0, 0, 65535, 0x400, false⟩,
    ⟨3, 1, 1, .u64, .rc, 1, 0, 18446744073709551615, 0, false⟩,
    ⟨4, 1, 1, .u64, .rc, 1, 0, 18446744073709551615, 0, false⟩]⟩,
  ⟨0x5410, 0, 7, .plain, false, [
    ⟨0, 1, 1, .u8, .rw, 2, 0, 255, 0xFF, false⟩,
    ⟨1, 1, 1, .bits, .ro, 0, 0, 18446744073709551615, 0, false⟩]⟩]

/-- The families 0x0380, 0x0381, 0x0388, 0x0389, 0x0390, 0x0391, 0x0392, 0x0393 of 19_processors_memory.md. -/
def dict19a : List Family := [
  ⟨0x0380, 0, 0, .plain, false, [
    ⟨0, 1, 1, .u64, .ro, 0, 0, 18446744073709551615, 0, false⟩,
    ⟨1, 1, 1, .u16, .ro, 0, 0, 65535, 0, false⟩,
    ⟨2, 1, 1, .u8, .rw, 2, 1, 168, 0x18, false⟩,
    ⟨3, 1, 1, .u64, .rw, 2, 0, 18446744073709551615, 0, false⟩]⟩,
  ⟨0x0381, 0, 1, .plain, false, [
    ⟨0, 1, 1, .u64, .rc, 1, 0, 18446744073709551615, 0, false⟩,
    ⟨1, 1, 1, .u64, .rc, 1, 0, 18446744073709551615, 0, false⟩]⟩,
  ⟨0x0388, 0, 7, .plain, false, [
    ⟨0, 1, 1, .u8, .rw, 2, 2, 64, 0x10, false⟩,
    ⟨1, 1, 1, .u64, .rc, 1, 0, 18446744073709551615, 0, false⟩,
    ⟨2, 1, 1, .u64, .rc, 1, 0, 18446744073709551615, 0, false⟩]⟩,
  ⟨0x0389, 0, 15, .plain, false, [
    ⟨0, 1, 1, .u8, .rw, 2, 0, 255, 0, false⟩]⟩,
  ⟨0x0390, 0, 31, .plain, false, [
    ⟨0, 1, 1, .u64, .rc, 1, 0, 18446744073709551615, 0, false⟩,
    ⟨1, 1, 1, .u32, .ro, 0, 0, 4294967295, 0, false⟩]⟩,
  ⟨0x0391, 0, 31, .plain, false, [
    ⟨0, 1, 1, .u8, .cmd, 1, 0, 255, 0, false⟩,
    ⟨1, 1, 1, .u64, .wo, 1, 0, 18446744073709551615, 0, false⟩,
    ⟨2, 1, 1, .u64, .wo, 1, 0, 18446744073709551615, 0, false⟩,
    ⟨3, 1, 1, .u8, .cmd, 1, 0, 255, 0, false⟩]⟩,
  ⟨0x0392, 0, 63, .plain, false, [
    ⟨0, 1, 1, .enum, .rw, 2, 0, 2, 1, false⟩,
    ⟨1, 1, 1, .u8, .rw, 2, 0, 17, 0, false⟩,
    ⟨2, 1, 1, .u32, .rw, 2, 64, 65536, 0x1000, false⟩,
    ⟨3, 1, 1, .u16, .rw, 2, 1, 4096, 1, false⟩,
    ⟨4, 1, 1, .u32, .rw, 2, 0, 10000000, 0, false⟩,
    ⟨5, 1, 1, .u32, .ro, 0, 0, 4294967295, 0, false⟩,
    ⟨6, 1, 1, .u64, .rc, 1, 0, 18446744073709551615, 0, false⟩,
    ⟨7, 1, 1, .u64, .rc, 1, 0, 18446744073709551615, 0, false⟩,
    ⟨8, 1, 1, .u64, .rc, 1, 0, 18446744073709551615, 0, false⟩]⟩,
  ⟨0x0393, 0, 63, .plain, false, [
    ⟨0, 1, 1, .u64, .rw, 2, 0, 18446744073709551615, 0, false⟩,
    ⟨1, 1, 1, .u32, .rw, 2, 0, 4294967295, 0x1000, false⟩,
    ⟨2, 1, 1, .u64, .rw, 2, 0, 18446744073709551615, 0, false⟩,
    ⟨3, 1, 1, .u8, .rw, 2, 0, 63, 8, false⟩,
    ⟨4, 1, 1, .u32, .rw, 1, 0, 4294967295, 0, false⟩,
    ⟨5, 1, 1, .u32, .ro, 0, 0, 4294967295, 0, false⟩,
    ⟨6, 1, 1, .enum, .ro, 0, 0, 255, 0, false⟩,
    ⟨7, 1, 1, .u8, .cmd, 2, 0, 255, 0, false⟩]⟩]

/-- The families 0x0300, 0x0301, 0x0302, 0x0303, 0x0304, 0x0306, 0x0310, 0x0311 of 20_interrupts_timers.md. -/
def dict20a : List Family := [
  ⟨0x0300, 0, 0, .plain, false, [
    ⟨0, 1, 1, .enum, .rw, 2, 0, 1, 0, false⟩,
    ⟨1, 1, 1, .bits, .rw, 2, 0, 2097151, 0x1FFFFF, false⟩,
    ⟨2, 1, 1, .u16, .ro, 0, 0, 65535, 0, false⟩,
    ⟨3, 1, 1, .u64, .rc, 1, 0, 18446744073709551615, 0, false⟩]⟩,
  ⟨0x0301, 0, 0, .plain, false, [
    ⟨0, 32, 1, .bits, .rw, 1, 0, 18446744073709551615, 0, true⟩]⟩,
  ⟨0x0302, 0, 0, .plain, false, [
    ⟨0, 32, 1, .bits, .rw, 2, 0, 18446744073709551615, 0, true⟩]⟩,
  ⟨0x0303, 0, 0, .plain, false, [
    ⟨0, 32, 1, .bits, .ro, 0, 0, 18446744073709551615, 0, false⟩]⟩,
  ⟨0x0304, 0, 80, .plain, false, [
    ⟨0, 1, 1, .u8, .rw, 1, 0, 15, 0, false⟩,
    ⟨1, 1, 1, .u16, .rc, 1, 0, 65535, 0, false⟩,
    ⟨2, 1, 1, .u16, .wo, 1, 0, 65535, 0, false⟩,
    ⟨3, 1, 1, .bool, .ro, 0, 0, 1, 0, false⟩,
    ⟨4, 1, 1, .u64, .rc, 1, 0, 18446744073709551615, 0, false⟩,
    ⟨5, 1, 1, .u64, .rc, 1, 0, 18446744073709551615, 0, false⟩]⟩,
  ⟨0x0306, 0, 0, .plain, false, [
    ⟨0, 4, 1, .bits, .rc, 1, 0, 18446744073709551615, 0, false⟩]⟩,
  ⟨0x0310, 0, 255, .plain, false, [
    ⟨0, 1, 1, .bits, .rw, 2, 0, 12648207, 0, false⟩]⟩,
  ⟨0x0311, 0, 255, .plain, false, [
    ⟨0, 1, 1, .bits, .rw, 2, 0, 12648207, 0, false⟩]⟩]

/-- The families 0x0312, 0x0313, 0x0314, 0x0315, 0x0316, 0x0317, 0x0320, 0x0321 of 20_interrupts_timers.md. -/
def dict20b : List Family := [
  ⟨0x0312, 0, 255, .plain, false, [
    ⟨0, 1, 1, .bits, .rw, 2, 0, 12648207, 0, false⟩]⟩,
  ⟨0x0313, 0, 255, .plain, false, [
    ⟨0, 1, 1, .bits, .rw, 2, 0, 12648207, 0, false⟩]⟩,
  ⟨0x0314, 0, 255, .plain, false, [
    ⟨0, 1, 1, .bits, .rw, 2, 0, 12648207, 0, false⟩]⟩,
  ⟨0x0315, 0, 255, .plain, false, [
    ⟨0, 1, 1, .bits, .rw, 2, 0, 12648207, 0, false⟩]⟩,
  ⟨0x0316, 0, 255, .plain, false, [
    ⟨0, 1, 1, .bits, .rw, 2, 0, 12648207, 0, false⟩]⟩,
  ⟨0x0317, 0, 255, .plain, false, [
    ⟨0, 1, 1, .bits, .rw, 2, 0, 12648207, 0, false⟩]⟩,
  ⟨0x0320, 0, 63, .plain, false, [
    ⟨0, 1, 1, .bits, .rw, 1, 0, 65283, 0xF000, false⟩,
    ⟨1, 1, 1, .u32, .rw, 1, 1, 65536, 1, false⟩,
    ⟨2, 1, 1, .u64, .ro, 0, 0, 18446744073709551615, 0, false⟩,
    ⟨3, 1, 1, .u64, .rw, 1, 0, 18446744073709551615, 0, false⟩,
    ⟨4, 1, 1, .u64, .rw, 1, 0, 18446744073709551615, 0, false⟩,
    ⟨5, 1, 1, .u64, .ro, 0, 0, 18446744073709551615, 0, false⟩,
    ⟨6, 1, 1, .s64, .rw, 1, -9223372036854775808, 9223372036854775807, 0, false⟩,
    ⟨7, 1, 1, .u8, .cmd, 1, 0, 255, 0, false⟩]⟩,
  ⟨0x0321, 0, 63, .plain, false, [
    ⟨0, 1, 1, .bits, .rc, 1, 0, 18446744073709551615, 0, false⟩]⟩]

/-- The families 0x0200, 0x0201, 0x0202, 0x0203, 0x0210, 0x0211, 0x0220, 0x0230 of 21_reset_clocks_power.md. -/
def dict21a : List Family := [
  ⟨0x0200, 0, 0, .plain, false, [
    ⟨0, 1, 1, .bits, .ro, 0, 0, 18446744073709551615, 1, false⟩,
    ⟨1, 1, 1, .enum, .ro, 0, 0, 255, 4, false⟩,
    ⟨2, 1, 1, .bits, .rc, 1, 0, 18446744073709551615, 1, false⟩,
    ⟨3, 1, 1, .bits, .ro, 0, 0, 18446744073709551615, 0, false⟩,
    ⟨4, 1, 1, .bits, .ro, 0, 0, 18446744073709551615, 0, false⟩,
    ⟨5, 1, 1, .bits, .ro, 0, 0, 18446744073709551615, 0, false⟩,
    ⟨6, 1, 1, .u64, .ro, 0, 0, 18446744073709551615, 0, false⟩]⟩,
  ⟨0x0201, 0, 0, .plain, false, [
    ⟨0, 1, 1, .bits, .cmd, 2, 0, 73479, 0, false⟩,
    ⟨1, 1, 1, .bits, .cmd, 2, 0, 73479, 0, false⟩]⟩,
  ⟨0x0202, 0, 16, .plain, false, [
    ⟨0, 1, 1, .enum, .ro, 0, 0, 255, 0, false⟩,
    ⟨1, 1, 1, .u64, .rc, 1, 0, 18446744073709551615, 0, false⟩,
    ⟨2, 1, 1, .u64, .rc, 1, 0, 18446744073709551615, 0, false⟩]⟩,
  ⟨0x0203, 0, 7, .plain, false, [
    ⟨0, 1, 1, .u32, .rw, 2, 0, 60000, 0, false⟩,
    ⟨1, 1, 1, .enum, .rw, 2, 0, 1, 0, false⟩,
    ⟨2, 1, 1, .u8, .cmd, 1, 0, 255, 0, false⟩,
    ⟨3, 1, 1, .enum, .ro, 0, 0, 255, 3, false⟩]⟩,
  ⟨0x0210, 0, 13, .plain, false, [
    ⟨0, 1, 1, .u32, .ro, 0, 0, 4294967295, 0, false⟩,
    ⟨1, 1, 1, .bool, .ro, 0, 0, 1, 0, false⟩,
    ⟨2, 1, 1, .u64, .rc, 1, 0, 18446744073709551615, 0, false⟩]⟩,
  ⟨0x0211, 0, 0, .plain, false, [
    ⟨0, 1, 1, .enum, .rw, 2, 0, 1, 0, false⟩]⟩,
  ⟨0x0220, 0, 0, .plain, false, [
    ⟨0, 1, 1, .enum, .ro, 0, 0, 255, 0, false⟩,
    ⟨1, 1, 1, .bool, .rw, 2, 0, 1, 0, false⟩,
    ⟨2, 1, 1, .bool, .rw, 2, 0, 1, 0, false⟩,
    ⟨3, 1, 1, .u16, .rw, 2, 600, 1800, 0x4B0, false⟩,
    ⟨4, 1, 1, .u32, .rw, 2, 100, 60000, 0x7D0, false⟩,
    ⟨5, 1, 1, .u32, .rw, 2, 0, 604800, 0x15180, false⟩,
    ⟨6, 1, 1, .u8, .cmd, 2, 0, 255, 0, false⟩,
    ⟨7, 1, 1, .enum, .ro, 0, 0, 255, 0, false⟩,
    ⟨8, 1, 1, .u64, .ro, 0, 0, 18446744073709551615, 0, false⟩]⟩,
  ⟨0x0230, 0, 0, .plain, false, [
    ⟨0, 1, 1, .enum, .ro, 0, 0, 255, 0, false⟩,
    ⟨1, 1, 1, .u32, .rw, 2, 0, 4294967295, 0, false⟩,
    ⟨2, 32, 32, (.octets 256), .wo, 2, 0, 18446744073709551615, 0, false⟩,
    ⟨34, 1, 1, .u16, .cmd, 2, 0, 65535, 0, false⟩,
    ⟨35, 1, 1, .u32, .cmd, 2, 0, 4294967295, 0, false⟩]⟩]

/-- The families 0x0240, 0x0250, 0x02F0 of 21_reset_clocks_power.md. -/
def dict21b : List Family := [
  ⟨0x0240, 0, 0, .plain, false, [
    ⟨0, 16, 1, .u64, .rw, 2, 0, 18446744073709551615, 0, false⟩,
    ⟨16, 1, 1, .bits, .ro, 0, 0, 18446744073709551615, 0, false⟩,
    ⟨17, 1, 1, .bits, .rw, 2, 0, 259, 0, false⟩,
    ⟨18, 1, 1, .u8, .cmd, 2, 0, 255, 0, false⟩,
    ⟨19, 2, 2, .time, .ro, 0, 0, 0, 0, false⟩,
    ⟨21, 1, 1, .bool, .ro, 0, 0, 1, 0, false⟩,
    ⟨22, 1, 1, .bool, .rw, 2, 0, 1, 1, false⟩,
    ⟨23, 1, 1, .u8, .cmd, 2, 0, 255, 0, false⟩]⟩,
  ⟨0x0250, 0, 0, .plain, false, [
    ⟨0, 1, 1, .s32, .ro, 0, -2147483648, 2147483647, 0, false⟩,
    ⟨1, 1, 1, .s32, .rw, 2, 0, 480, 0x190, false⟩,
    ⟨2, 1, 1, .s32, .rw, 2, 400, 500, 0x1CC, false⟩,
    ⟨3, 1, 1, .bool, .rw, 2, 0, 1, 1, false⟩]⟩,
  ⟨0x02F0, 0, 0, .plain, false, [
    ⟨0, 1, 1, .u8, .cmd, 2, 0, 255, 0, false⟩,
    ⟨1, 1, 1, .bool, .rw, 2, 0, 1, 1, false⟩]⟩]

/-- The families 0x6000, 0x6001 of 22_device_update.md. -/
def dict22a : List Family := [
  ⟨0x6000, 0, 0, .plain, false, [
    ⟨0, 1, 1, .enum, .ro, 0, 0, 255, 0, false⟩,
    ⟨1, 1, 1, .u32, .rw, 2, 0, 4294967295, 0, false⟩,
    ⟨2, 32, 32, (.octets 256), .wo, 2, 0, 18446744073709551615, 0, false⟩,
    ⟨34, 1, 1, .u16, .cmd, 2, 0, 65535, 0, false⟩,
    ⟨35, 1, 1, .u32, .ro, 0, 0, 4294967295, 0, false⟩,
    ⟨36, 1, 1, .u8, .cmd, 2, 0, 255, 0, false⟩,
    ⟨37, 1, 1, .enum, .rw, 2, 0, 2, 0, false⟩,
    ⟨38, 1, 1, .u64, .rw, 2, 0, 18446744073709551615, 0, false⟩,
    ⟨39, 2, 2, .time, .rw, 2, 0, 0, 0, false⟩,
    ⟨41, 1, 1, .u32, .ro, 0, 0, 4294967295, 0, false⟩,
    ⟨42, 1, 1, .u32, .ro, 0, 0, 4294967295, 0, false⟩]⟩,
  ⟨0x6001, 0, 0, .plain, false, [
    ⟨0, 1, 1, .u32, .ro, 0, 0, 4294967295, 0, false⟩,
    ⟨1, 1, 1, .enum, .ro, 0, 0, 255, 0, false⟩,
    ⟨2, 1, 1, .u8, .ro, 0, 0, 255, 0, false⟩,
    ⟨3, 1, 1, .u8, .ro, 0, 0, 255, 0, false⟩,
    ⟨4, 1, 1, .u32, .ro, 0, 0, 4294967295, 0, false⟩,
    ⟨5, 1, 1, .u32, .ro, 0, 0, 4294967295, 0, false⟩,
    ⟨6, 1, 1, .u32, .ro, 0, 0, 4294967295, 0, false⟩,
    ⟨7, 1, 1, .u64, .rc, 1, 0, 18446744073709551615, 0, false⟩,
    ⟨8, 1, 1, .u64, .rc, 1, 0, 18446744073709551615, 0, false⟩,
    ⟨9, 1, 1, .u64, .rc, 1, 0, 18446744073709551615, 0, false⟩]⟩]

/-- The families 0x7000, 0x7001, 0x7010, 0x7011, 0x7020, 0x7021, 0x7030, 0x7040, 0x7F00 of 23_ledger_faults_debug.md. -/
def dict23a : List Family := [
  ⟨0x7000, 0, 799, .plain, false, [
    ⟨0, 1, 1, .u64, .ro, 0, 0, 18446744073709551615, 0, false⟩,
    ⟨1, 1, 1, .u64, .ro, 0, 0, 18446744073709551615, 0, false⟩,
    ⟨2, 1, 1, .u64, .ro, 0, 0, 18446744073709551615, 0, false⟩,
    ⟨3, 1, 1, .u64, .ro, 0, 0, 18446744073709551615, 0, false⟩,
    ⟨4, 1, 1, .enum, .ro, 0, 0, 255, 0, false⟩,
    ⟨5, 1, 1, .u64, .rc, 1, 0, 18446744073709551615, 0, false⟩]⟩,
  ⟨0x7001, 0, 0, .plain, false, [
    ⟨0, 1, 1, .bits, .ro, 0, 0, 18446744073709551615, 0, false⟩,
    ⟨1, 1, 1, .bool, .rw, 2, 0, 1, 0, false⟩,
    ⟨2, 1, 1, .u16, .ro, 0, 0, 65535, 0xFFFF, false⟩,
    ⟨3, 1, 1, .u64, .rc, 1, 0, 18446744073709551615, 0, false⟩,
    ⟨4, 1, 1, .u64, .rc, 1, 0, 18446744073709551615, 0, false⟩]⟩,
  ⟨0x7010, 0, 15, .plain, false, [
    ⟨0, 1, 1, .bits, .ro, 2, 0, 18446744073709551615, 0, false⟩,
    ⟨1, 1, 1, .u64, .ro, 2, 0, 18446744073709551615, 0, false⟩,
    ⟨2, 2, 2, .time, .ro, 2, 0, 0, 0, false⟩]⟩,
  ⟨0x7011, 0, 0, .plain, false, [
    ⟨0, 1, 1, .u8, .cmd, 2, 0, 255, 0, false⟩,
    ⟨1, 1, 1, .bits, .ro, 0, 0, 18446744073709551615, 0, false⟩,
    ⟨2, 1, 1, .u64, .rc, 1, 0, 18446744073709551615, 0, false⟩]⟩,
  ⟨0x7020, 0, 0, .plain, false, [
    ⟨0, 1, 1, .bool, .rw, 2, 0, 1, 1, false⟩,
    ⟨1, 1, 1, .u64, .cmd, 2, 0, 18446744073709551615, 0, false⟩,
    ⟨2, 1, 1, .u8, .rw, 1, 0, 255, 0, false⟩,
    ⟨3, 1, 1, .u32, .rw, 1, 0, 4294967295, 0, false⟩,
    ⟨4, 32, 32, (.octets 256), .ro, 1, 0, 18446744073709551615, 0, false⟩,
    ⟨36, 1, 1, .u8, .cmd, 2, 0, 255, 0, false⟩]⟩,
  ⟨0x7021, 0, 7, .plain, false, [
    ⟨0, 8, 1, .u64, .ro, 0, 0, 18446744073709551615, 0, false⟩]⟩,
  ⟨0x7030, 0, 15, .plain, false, [
    ⟨0, 1, 1, .bits, .rw, 2, 0, 18374686479671689215, 0, false⟩,
    ⟨1, 1, 1, .u32, .rw, 2, 0, 4294967295, 0, false⟩,
    ⟨2, 1, 1, .u16, .rw, 2, 1, 65535, 1, false⟩,
    ⟨3, 1, 1, .u32, .rw, 2, 0, 4294967295, 0, false⟩,
    ⟨4, 1, 1, .bool, .rw, 2, 0, 1, 0, false⟩,
    ⟨5, 1, 1, .u64, .rc, 1, 0, 18446744073709551615, 0, false⟩]⟩,
  ⟨0x7040, 0, 0, .plain, false, [
    ⟨0, 1, 1, .bool, .rw, 2, 0, 1, 0, false⟩]⟩,
  ⟨0x7F00, 0, 0, .plain, false, [
    ⟨0, 1, 1, .u8, .rw, 3, 0, 255, 0, false⟩,
    ⟨1, 1, 1, .u8, .rw, 3, 0, 255, 0, false⟩,
    ⟨2, 1, 1, .u8, .cmd, 3, 0, 255, 0, false⟩,
    ⟨3, 1, 1, .u64, .rw, 3, 0, 18446744073709551615, 0, false⟩,
    ⟨4, 1, 1, .u64, .rw, 3, 0, 18446744073709551615, 0, false⟩,
    ⟨5, 1, 1, .u8, .cmd, 3, 0, 255, 0, false⟩,
    ⟨6, 1, 1, .bool, .rw, 3, 0, 1, 0, false⟩]⟩]

/-- The families 0x7F01 of 23_ledger_faults_debug.md. -/
def dict23b : List Family := [
  ⟨0x7F01, 0, 255, .plain, false, [
    ⟨0, 1, 1, .u8, .ro, 0, 0, 255, 0, false⟩]⟩]

/-- The whole dictionary, less the node windows (0x3009), which are another name of node-table objects; DESCRIBE, 0x0060, has an
instance for every object index. DESIGN CHOICE: log 11, 12. -/
def dict : List Family :=
  [⟨0x0060, 0, 65535, .plain, false, [⟨0, 256, 1, .bits, .ro, 0, 0, 18446744073709551615, 0, false⟩]⟩] ++ dict03a ++ dict03b ++ dict04a ++ dict05a ++ dict05b ++ dict06a ++ dict07a ++ dict08a ++ dict08b ++ dict09a ++ dict10a ++ dict11a ++ dict11b ++ dict12a ++ dict12b ++ dict13a ++ dict14a ++ dict15a ++ dict16a ++ dict16b ++ dict17a ++ dict18a ++ dict19a ++ dict20a ++ dict20b ++ dict21a ++ dict21b ++ dict22a ++ dict23a ++ dict23b

end Sys2Proof.Machine
end

