-- ==== Sys2Proof/Machine/Store.lean ====
section
/-! DEFINITION. Sparse tables as plain data: lists of key and value pairs whose keys rise strictly.
The object store of the block and every sparse table of its engines are such lists. -/

namespace Sys2Proof.Machine

/-- The order of object addresses: index, then instance, then member (the order in which R99 takes locks). -/
def refLt (a b : Ref) : Bool :=
  decide (a.idx < b.idx) ||
    (a.idx == b.idx && (decide (a.inst < b.inst) || (a.inst == b.inst && decide (a.mem < b.mem))))

/-- The order of numbered entries. -/
def natLt (a b : Nat) : Bool := decide (a < b)

/-- The value listed under `k`. -/
def aget {κ α : Type} [DecidableEq κ] : List (κ × α) → κ → Option α
  | [], _ => none
  | (k', v) :: rest, k => if k' = k then some v else aget rest k

/-- List `v` under `k`, in place of an older value. -/
def aput {κ α : Type} [DecidableEq κ] (lt : κ → κ → Bool) : List (κ × α) → κ → α → List (κ × α)
  | [], k, v => [(k, v)]
  | (k', w) :: rest, k, v =>
    if k' = k then (k, v) :: rest
    else if lt k k' then (k, v) :: (k', w) :: rest
    else (k', w) :: aput lt rest k v

/-- List nothing under `k`. -/
def adel {κ α : Type} [DecidableEq κ] (l : List (κ × α)) (k : κ) : List (κ × α) :=
  l.filter fun e => decide (e.1 ≠ k)

/-- Strictly rising keys: the canonical form of a sparse table. -/
def ascending {κ α : Type} (lt : κ → κ → Bool) : List (κ × α) → Bool
  | [] => true
  | (k, _) :: rest => rest.all (fun e => lt k e.1) && ascending lt rest

/-- The object store: the words of the dictionary that differ from what an unlisted object reads as. -/
abbrev Store := List (Ref × Word)

/-- A sparse table of an engine, keyed by a number of the spec (a slot, a node index, a lane, ...). -/
abbrev Tbl (α : Type) := List (Nat × α)

/-- The entry of a sparse table, or the value an unlisted entry has. -/
def Tbl.at {α : Type} (t : Tbl α) (k : Nat) (d : α) : α := (aget t k).getD d

/-- Write an entry of a sparse table. -/
def Tbl.set {α : Type} (t : Tbl α) (k : Nat) (v : α) : Tbl α := aput natLt t k v

/-- Remove an entry of a sparse table. -/
def Tbl.clear {α : Type} (t : Tbl α) (k : Nat) : Tbl α := adel t k

end Sys2Proof.Machine
end

