-- ==== Sys2Proof/Machine/Types.lean ====
section
/-! DEFINITION. The plain data of the engines: what the spec gives the block beside the objects of its dictionary. -/

namespace Sys2Proof.Machine

/-- An event waiting in a queue (Table IRQ-5; R87): code, source instance, events lost before it, the device time of its
raising in units of 2^-64 ns, and the detail word. -/
structure EvEntry where
  code : Nat
  inst : Nat
  lost : Nat
  time : Nat
  detail : Nat
  deriving DecidableEq, Repr

/-- The interrupt controller (20_interrupts_timers.md) beside its objects. -/
structure IrqSt where
  /-- the context that claimed an ACTIVE source (R458) -/
  claimant : Tbl Nat
  /-- the contexts whose request signal has been asserted since their last claim (R458) -/
  asserted : List Nat
  /-- the levels of the critical sources 1 to 31 (R453) -/
  levels : Nat
  /-- the asynchronous latches: edges held while the controller does not run (R463) -/
  latched : List Nat
  /-- SCLK stopped, or the controller held in a Block reset (R463) -/
  stopped : Bool
  /-- the mask bits and PBA bits of the MSI-X table (R460) -/
  msixMask : Nat
  pba : Nat
  /-- the processor event queue, oldest first (R465) -/
  evq : List EvEntry
  /-- events lost since the last entry (R465) -/
  evLost : Nat
  /-- an overflow whose event 0x0301 is still to be raised (R465) -/
  evOverflow : Bool
  /-- the entry an EV_POP read latched -/
  evLatch : EvEntry
  deriving DecidableEq, Repr

/-- The unit of device time (16_backhaul_time.md R377): device time at one instant, and that instant. -/
structure TimeSt where
  /-- device time at `at0`, in units of 2^-64 ns since TAI second 0 -/
  base : Nat
  /-- the instant of `base`, in SCLK cycles -/
  at0 : Nat
  deriving DecidableEq, Repr

/-- A DDP session slot beside its objects (03_object_dictionary.md R86, R87, R84, R85). -/
structure Sess where
  /-- the SEQ of the next request (R86) -/
  nextSeq : Nat
  /-- accepted requests held ahead of a gap: SEQ and message -/
  held : List (Nat × DdpMsg)
  /-- the responses of the last requests: SEQ and words -/
  cache : List (Nat × List Word)
  /-- event filters: base and mask (R77) -/
  filters : List (Nat × Nat)
  /-- queued events, oldest first (R87) -/
  evq : List EvEntry
  /-- the SEQ of the last EVENT sent -/
  evSeq : Nat
  /-- events lost since the last EVENT -/
  evLost : Nat
  /-- the instant of the last message of the peer (R84) -/
  heard : Nat
  /-- the instant HELLO_ACK was sent -/
  offered : Nat
  /-- the words of HELLO and HELLO_ACK, over which the tags run (R82) -/
  hello : List Word
  helloAck : List Word
  /-- the session key (R82); empty without one -/
  key : List Nat
  /-- why the session closes (Table DICT-10), and the SEQ of the CLOSE to be answered -/
  cause : Nat
  closeSeq : Option Nat
  /-- requests whose items wait for a lock or whose commit waits for its instant: SEQ and handle -/
  waiting : List (Nat × Nat)
  deriving DecidableEq, Repr

/-- What a SCHEDULED lane is bound to: nothing, a receive cell (the number of its window in the TSCH engine, R152), or the
ACK wait of a transmit request (R212). -/
inductive LaneFor where
  | none
  | cell (win : Nat)
  | ack (req : Nat)
  deriving DecidableEq, Repr

/-- A frame in progress on a lane (R156, R162): device times in units of 2^-64 ns, `tSof` none before the SFD. -/
structure LaneFrame where
  tDet : Nat
  tSof : Option Nat
  rssi : Int
  cfo : Int
  mode : Nat
  len : Nat
  /-- the accepted header of a Deep Link copy (R173), and the sync word that was in force when its detection began (R170) -/
  hdr : Option Nat
  sync : Nat
  /-- the PHR names the CRC-32 (R159) -/
  fcs4 : Bool
  /-- the DCLK cycle in which its preamble was detected (R135) -/
  cycle : Nat
  deriving DecidableEq, Repr

/-- A lane beside its objects: what it is bound to, whether that binding has ended under a frame, and its frame. -/
structure LaneSt where
  bind : LaneFor
  ovr : Bool
  frame : Option LaneFrame
  deriving DecidableEq, Repr

/-- A receive record (Table CHAN-8), with the binding of the lane that made it. -/
structure RxRecord where
  status : Nat
  port : Nat
  lane : Nat
  channel : Nat
  len : Nat
  mode : Nat
  rssi : Int
  lqi : Nat
  cfo : Int
  tSof : Nat
  tDet : Nat
  bind : LaneFor
  psdu : List Nat
  /-- for a Deep Link record, the end of the copy whose addition led to success and the frame's TAG (R219) -/
  copy : Option (Nat × Nat)
  deriving DecidableEq, Repr

/-- A Deep Link copy handed to the combine store (R159, R182): its header and the LLRs of its payload bits by codeword,
dewhitened and deinterleaved; `ended` is the instant of its end in SCLK cycles. -/
structure DlCopy where
  hdr : Nat
  ended : Nat
  lane : Nat
  port : Nat
  channel : Nat
  rssi : Int
  lqi : Nat
  cfo : Int
  tSof : Nat
  tDet : Nat
  bind : LaneFor
  llrs : List (List Int)
  deriving DecidableEq, Repr

/-- A request to an energy detector (R163): the attempt it serves, the port and plan channel, the start and length of its
window in SCLK cycles, and the instant by which its result must be ready, if it serves a transmission. -/
structure EdReq where
  req : Nat
  port : Nat
  channel : Nat
  start : Nat
  len : Nat
  due : Nat
  deriving DecidableEq, Repr

/-- A frame that ended in the DCLK cycle `cycle`: its lane and port, and the causes that have ended it, the ruling one first (R160). -/
structure LaneEnd where
  lane : Nat
  cycle : Nat
  port : Nat
  causes : List Nat
  frame : LaneFrame
  /-- its record stands in the queue of its tile -/
  queued : Bool
  deriving DecidableEq, Repr

/-- The channelizer and the lane pool (06_channelizer_lanes.md). -/
structure LaneEng where
  /-- the lanes that hold a binding or a frame -/
  lanes : Tbl LaneSt
  /-- the lane output queue of each RF tile, oldest first (R161) -/
  queues : Tbl (List RxRecord)
  /-- the energy detectors that measure, and the requests that wait for one -/
  edBusy : List EdReq
  edWait : List EdReq
  /-- the copies on their way into the combine store -/
  copies : List DlCopy
  /-- the frames that ended in the present DCLK cycle (R160) -/
  ends : List LaneEnd
  /-- the device time at which the last frame of each lane ended (R236) -/
  heardTo : Tbl Nat
  deriving DecidableEq, Repr

/-- Who asked for a transmission. -/
inductive TxOwner where
  | tsch
  | ack
  | sleepy
  | campaign
  deriving DecidableEq, Repr

/-- The front end of a request as it was judged, in ns (R125, R102): ramp, the intervals of R125, the blanking group and the receivers
that it blanks, coexistence mode with CX_LEAD and CX_DEADLINE. -/
structure FrontEnd where
  ramp : Nat
  paLead : Nat
  paLag : Nat
  trswLead : Nat
  trswLag : Nat
  antLead : Nat
  antBack : Nat
  group : Option Nat
  blanks : List Nat
  coex : Bool
  cxLead : Nat
  cxDeadline : Nat
  /-- ANT_TX with ANT_POL, the port's bit of CX_PRI_PORTS, and the band -/
  ant : Nat
  antPol : Bool
  pri : Bool
  band : Nat
  deriving DecidableEq, Repr

/-- A transmit request at a port (R122, R125, R211): device times in units of 2^-64 ns; `limit` is the latest end of the
frame that its slot allows, `resv` the tally's admission, `ref` the owner's own number for it. -/
structure TxReq where
  id : Nat
  port : Nat
  owner : TxOwner
  ref : Nat
  t0 : Nat
  t1 : Nat
  limit : Nat
  freq : Nat
  mode : Nat
  resv : Option Nat
  /-- the device time at which a cut took the driver off at once, with no ramp down (R13, R14, R132) -/
  off : Option Nat := none
  /-- the front end it was judged with: an apply after its retune changes nothing for it (R102, R117) -/
  fe : Option FrontEnd := none
  deriving DecidableEq, Repr

/-- What a keyed frame completes under (R130, R102), taken at step 3 of Table PORT-7: the mask with its enable, whether a mask cut locks,
the FIR taps and the power; the device times of the samples that saturate the FIR and are still to come, and whether one has (R129);
the last of steps 4 and 11 that has come, and the receivers that the port blanks between them. -/
structure KeyedSt where
  mask : List (Nat × Int)
  maskOn : Bool
  maskLock : Bool
  taps : List Int
  power : Int
  sats : List Nat
  satSeen : Bool
  step : Nat
  blanks : List Nat
  deriving DecidableEq, Repr

/-- A port sequencer beside its objects (05_radio_ports.md). -/
structure PortSt where
  /-- the request in hand: pending in TUNING, ARMED or KEYED -/
  req : Option TxReq
  /-- timed retunes held until the port is IDLE, oldest first (R122) -/
  held : List TxReq
  /-- a start that waits for the transmitter (R117) -/
  startWait : Bool
  /-- device times at which the receiver last stopped, and started (R153) -/
  downFrom : Nat
  upFrom : Nat
  /-- the calibration in progress: frequency and start (R123); the end of the last successful one, in SCLK cycles -/
  calFreq : Nat
  calFrom : Nat
  lastCal : Option Nat
  /-- the causes that have cut the frame on air (R138) -/
  cuts : List Nat
  /-- the grant was present at its sampling instant (Table PORT-7 step 2) -/
  granted : Bool
  /-- device time from which the receiver is blanked -/
  blankFrom : Option Nat
  /-- what the frame being keyed completes under -/
  keyed : KeyedSt
  /-- the port has taken its front-end balls since the last reset of its tile (R121); the antenna switch at ANT_TX; bypass on by the
  AGC (R136) -/
  taken : Bool
  antTx : Bool
  agcByp : Bool
  deriving DecidableEq, Repr

/-- The RF tiles and their ports. -/
structure RadioEng where
  ports : Tbl PortSt
  /-- the tiles whose mute line is asserted (R14) -/
  mute : List Nat
  /-- why the mute line of all four tiles is asserted: 0 reset, 1 pair, 2 thermal, 3 fatal error, 4 activation, 5 outage, 6 role -/
  why : List Nat
  /-- the blanking groups and tiles whose TRSW and COEX lines are under configuration (R557) -/
  trsw : List Nat
  coex : List Nat
  /-- the number of the next request -/
  nextReq : Nat
  /-- the settings of the wake receiver latched at entry to Outage (R139): unit, group, group enable, tolerance -/
  wake : Option (Nat × Nat × Bool × Nat)
  deriving DecidableEq, Repr

/-- A codeword of a combine group (R182, R184): its context, its hard decision once converged, and its decode: `queued`
a request waits, `running` a decoder works on it, `again` a copy was added while it ran. -/
structure DlWord where
  ctx : List Int
  conv : Option (List Nat)
  queued : Bool
  running : Bool
  again : Bool
  deriving DecidableEq, Repr

/-- A combine group (R183 to R185): its number in the order of opening, header fields, the end of its first copy and the
span taken then (SCLK cycles), the copies held, its state (Table CODE-6: 1 OPEN, 2 DECODING, 3 DELIVERED) and the last
copy added. -/
structure DlGroup where
  serial : Nat
  port : Nat
  hdr : Nat
  first : Nat
  span : Nat
  copies : Nat
  state : Nat
  words : List DlWord
  last : DlCopy
  deriving DecidableEq, Repr

/-- A running decode (R184, R186): its port, group, codeword, the serial of the group, the last copy in the values it loaded, and those
values. -/
structure DlRun where
  port : Nat
  group : Nat
  word : Nat
  serial : Nat
  copy : DlCopy
  vals : List Int
  deriving DecidableEq, Repr

/-- The combine store and the decoder pool. -/
structure DlEng where
  groups : Tbl DlGroup
  opened : Nat
  /-- decode requests of each port in arrival order: group, codeword, instant of posting -/
  queues : Tbl (List (Nat × Nat × Nat))
  decoders : Tbl DlRun
  /-- surplus-copy reports on their way to the TSCH engine (R184, R219): the group and the copy -/
  surplus : List (Nat × DlCopy)
  deriving DecidableEq, Repr

/-- A lottery arbiter (R440): its LFSR and its grant count. -/
structure ArbSt where
  lfsr : Nat
  grants : Nat
  deriving DecidableEq, Repr

/-- A transmission as the tally judges it (R253, R256): its port, stream centre and passband in Hz, its duration T1 − T0 in
units of 2^-64 ns, and for a transmission in a cell the Cca of its template in µs. -/
structure TallyTx where
  port : Nat
  freq : Nat
  width : Nat
  dur : Nat
  cca : Option Nat
  deriving DecidableEq, Repr

/-- Airtime that the tally has admitted (R253, R254), in µs: `start` the device time at which its ramp up began, `fin`
what was emitted in all once it ended, `moved` what is already in bins. -/
structure TallyResv where
  id : Nat
  acct : Nat
  chan : Nat
  amount : Nat
  moved : Nat
  start : Option Nat
  fin : Option Nat
  deriving DecidableEq, Repr

/-- The closed bins of an account, newest first, at most 3,600; each of the older ones holds `fill` (R255). The dwell bins of
each dwell channel, newest first. -/
structure Bins where
  closed : List Nat
  fill : Nat
  dwell : Tbl (List Nat)
  deriving DecidableEq, Repr

/-- The tally (10_tally.md). -/
structure TallyEng where
  bins : Tbl Bins
  resv : List TallyResv
  nextResv : Nat
  /-- the second of device time whose bin is open -/
  openSec : Nat
  deriving DecidableEq, Repr

/-- A fabric packet (R416): its header fields, ARG and payload words. -/
structure FabPkt where
  type : Nat
  dst : Nat
  src : Nat
  transit : Bool
  tag : Nat
  arg : Nat
  payload : List Nat
  deriving DecidableEq, Repr

/-- A packet waiting for a link: when it was posted, and for a packet in transit the link, pool and blocks it still holds
(R422, R424). -/
structure FabItem where
  pkt : FabPkt
  posted : Nat
  held : Option (Nat × Nat × Nat)
  deriving DecidableEq, Repr

/-- A fabric link beside its objects (R414, R418, R419, R422). -/
structure FabLink where
  /-- when training or the refused state began, or the last HELLO was sent (SCLK cycles) -/
  since : Nat
  /-- the next LSEQ to send, and the packets sent and not acknowledged -/
  txSeq : Nat
  replay : List (Nat × FabPkt)
  /-- how often the oldest of them was replayed in a row -/
  replays : Nat
  /-- the LSEQ last received in order, and a NAK that waits for it to be made good -/
  rxSeq : Nat
  nak : Bool
  /-- the instant of the last valid packet -/
  heard : Nat
  /-- blocks sent into each pool of the peer, freed by the peer, and the pools' sizes; the order is that of STATUS -/
  sent : List Nat
  freed : List Nat
  pools : List Nat
  /-- blocks this end has freed, and holds, of its own pools -/
  given : List Nat
  holds : List Nat
  /-- the queues of the request and the response channel -/
  req : List FabItem
  rsp : List FabItem
  /-- the devices named by the peer's last TOPO, and the version and bridge major its HELLO offered -/
  topo : Nat
  offer : Nat × Nat
  /-- what the last STATUS reported, and when: the ACK and the blocks freed (R417) -/
  told : Nat × List Nat × Nat
  deriving DecidableEq, Repr

/-- An entry of the response table (R423): the TAG, the link and device asked, the request's type, and the asker's own
number for it. -/
structure FabWait where
  tag : Nat
  link : Nat
  dst : Nat
  type : Nat
  info : Nat
  deriving DecidableEq, Repr

/-- The fabric (18_fabric.md). -/
structure FabEng where
  links : Tbl FabLink
  waits : List FabWait
  nextTag : Nat
  /-- requests that wait for a free response entry: destination, type, ARG, payload, the asker's number -/
  hold : List (Nat × Nat × Nat × List Nat × Nat)
  /-- a link has changed since the last TOPO, and when that was sent (R425) -/
  topoDue : Bool
  topoAt : Option Nat
  deriving DecidableEq, Repr

/-- What a stored packet is: an IP packet, a complete Ethernet frame without FCS, a mesh frame, a join message, or a packet of
items for a host FIFO. -/
inductive Form where
  | ip
  | eth
  | mesh
  | join
  | host
  deriving DecidableEq, Repr

/-- A packet in the packet buffer or the pending store (12_queues_shaping_policing.md): its octets, the mesh frame it is sent
as, the node it goes to with the GEN it was queued for (R267), its node group, colour (0 green, 1 yellow, 2 red), what it is
charged to (R298), the port and channel a broadcast is restricted to (R208), the to-host descriptor fields (Table CPU-9), the
identifier of a wanted timestamp, its datagram (R292), its retransmissions, the frame counter with the protected frame
once assigned (R210), the campaign it belongs to, and the mode a join frame came in. -/
structure Pkt where
  form : Form
  octets : List Nat
  mac : Option MacFrame
  node : Nat
  gen : Nat
  group : Option Nat
  cells : Nat
  colour : Nat
  queue : Option Nat
  groups : List Nat
  charged : Bool
  released : Bool
  port : Nat
  chan : Option Nat
  source : Nat
  srcNode : Nat
  time : Nat
  tsId : Option Nat
  dgram : Nat
  tries : Nat
  /-- its failures in SHARED cells, and the SHARED cells to let pass (R208) -/
  shTries : Nat
  backoff : Nat
  sealed : Option (Nat × MacFrame)
  dlTag : Option Nat
  camp : Option Nat
  mode : Nat
  deriving DecidableEq, Repr

/-- A shaper (R302, R303): tokens in units of 2^-16 octet, and the settings in force: enable, rate, burst, overhead. -/
structure Shaper where
  tokens : Int
  en : Nat
  rate : Nat
  burst : Nat
  ovr : Int
  deriving DecidableEq, Repr

/-- A toll meter (R304): its buckets in units of 2^-16 octet, and the settings in force. -/
structure Meter where
  c : Nat
  x : Nat
  mode : Nat
  cir : Nat
  cbs : Nat
  xir : Nat
  xbs : Nat
  deriving DecidableEq, Repr

/-- The gate control of a port (R309): the governing bank, and a pending switch with its bank and instant. -/
structure GateSt where
  bank : Nat
  pending : Option (Nat × Nat)
  deriving DecidableEq, Repr

/-- The traffic manager. -/
structure QueueEng where
  pkts : Tbl Pkt
  nextPkt : Nat
  /-- the frames of each queue, oldest first -/
  queues : Tbl (List Nat)
  shapers : Tbl Shaper
  meters : Tbl Meter
  gates : Tbl GateSt
  /-- deficit round robin of each class of a port (8 × port + class): the queue at its turn, and the deficits -/
  drr : Tbl (Nat × Tbl Nat)
  /-- frames whose deferral has been counted (R308) -/
  deferred : List Nat
  /-- the 1,024-cycle edge of the last refill of the shapers and of the meters (R302, R304) -/
  shEdge : Nat
  mtEdge : Nat
  deriving DecidableEq, Repr

/-- A key slot beside its objects (13_keys_crypto.md R313, R325): the octets of the active value and of the staged one, the
attributes and uses the staged value came with, and the ASN at which its promotion became due (Table KEYS-4). -/
structure KeySlot where
  val : List Nat
  staged : List Nat
  attr : Nat
  uses : Nat
  promAsn : Nat
  deriving DecidableEq, Repr

/-- A key command as it was taken (R322, R325): 1 import, 2 generate, 3 derive; target, attributes, uses, source, KI_KCV and
the octets of the buffer in use. -/
structure KeyCmd where
  kind : Nat
  target : Nat
  attr : Nat
  uses : Nat
  source : Nat
  kcv : Nat
  data : List Nat
  deriving DecidableEq, Repr

/-- How a joiner is reached (R339): over a proxy, or directly on a port, plan channel and mode. -/
structure JoinPath where
  proxy : Option Nat
  port : Nat
  chan : Nat
  mode : Nat
  deriving DecidableEq, Repr

/-- What a crypto request is for (Table KEYS-7). -/
inductive Job where
  | key
  | join (sess : Nat)
  | attest
  | image (k : Nat)
  | update
  /-- a life-cycle request to a state -/
  | life (target : Nat)
  /-- a protected message of session slot `k` to verify, or one sealed that is to leave -/
  | ddpIn (k : Nat) (m : DdpMsg)
  | ddpOut (k : Nat) (ws : List Word)
  /-- the decapsulation and token of a session whose node has its entry -/
  | accept (sess n : Nat) (fresh : Bool)
  /-- a RESUME to judge, and the token of one whose node has its entry -/
  | resume (eui seg : Nat) (path : JoinPath) (body : List Nat)
  | resumed (eui seg : Nat) (body rs : List Nat) (path : JoinPath) (n : Nat)
  deriving DecidableEq, Repr

/-- The key store and the crypto queues: the requests that wait in queues 2 to 5, oldest first; the queue at its turn with the
requests it may still send (R335); the leap byte of each node (R334). -/
structure KeyEng where
  slots : Tbl KeySlot
  buffer : List Nat
  cmd : Option KeyCmd
  jobs : Tbl (List Job)
  turn : Nat × Nat
  leap : Tbl Nat
  /-- the root key in anti-fuse; none is burnt in Blank (R319) -/
  rootKey : List Nat
  deriving DecidableEq, Repr

/-- A receive window of a cell (R152, R202): the cell with its bank and slot, template, the instant at which it closes, and
whether it has a lane. -/
structure RxWin where
  id : Nat
  port : Nat
  cell : Nat
  bank : Nat
  asn : Nat
  tmpl : Nat
  fin : Nat
  served : Bool
  deriving DecidableEq, Repr

/-- A transmit attempt of the TSCH engine (Table TSCH-7; 1 SELECTED, 2 ARMING, 3 KEYED, 4 ACK_WAIT): its cell, bank and slot,
the end of the cell, channel, mode and template, the frame (`pkt` none for an EB), its duration, first symbol and retune
instant, the tally's admission, the radio's request, the end of the frame, the lane bound for the ACK, whether its SFD came in
time, and the timeout edge. -/
structure TxAtt where
  port : Nat
  cell : Nat
  bank : Nat
  asn : Nat
  fin : Nat
  chan : Nat
  mode : Nat
  tmpl : Nat
  shared : Bool
  pkt : Option Nat
  frame : MacFrame
  dur : Nat
  t0 : Nat
  ret : Nat
  resv : Nat
  state : Nat
  req : Nat
  t1 : Nat
  lane : Option Nat
  sof : Bool
  edge : Nat
  deriving DecidableEq, Repr

/-- An Enhanced ACK to be sent (R215): 0 wanted, 1 past its retune instant. `follow` says that it goes to a sleeping node with
frames pending (R227), `dl` is the TAG of the Deep Link frame that it answers (R219), and `fresh` says that this frame was delivered and
was no duplicate (R288). -/
structure AckReq where
  port : Nat
  lane : Nat
  chan : Nat
  mode : Nat
  node : Nat
  frame : MacFrame
  dur : Nat
  t0 : Nat
  resv : Nat
  state : Nat
  req : Nat
  follow : Bool
  dl : Option Nat
  fresh : Bool
  deriving DecidableEq, Repr

/-- A delivered Deep Link frame not yet acknowledged (R219), and the wait from a copy's end to its ACK. -/
structure DlAck where
  port : Nat
  tag : Nat
  ack : AckReq
  delay : Nat
  deriving DecidableEq, Repr

/-- A delivered frame on its way to a pipeline (R279, R288): source node and its GEN, decrypted payload, what the record said, and the
header IEs that the engine does not handle (R221). -/
structure MeshIn where
  node : Nat
  gen : Nat
  src : Nat
  payload : List Nat
  port : Nat
  chan : Nat
  rssi : Int
  lqi : Nat
  time : Nat
  ies : List (Nat × List Nat)
  /-- the interface identifiers of its link-layer source and destination -/
  srcIid : Nat
  dstIid : Nat
  /-- the octets of its PSDU, of all frames of a reassembled one (R304) -/
  len : Nat
  deriving DecidableEq, Repr

/-- A template field before a change (R198): cells whose first slot is `asn` or earlier still use `val`. -/
structure TplPast where
  tmpl : Nat
  mem : Nat
  asn : Nat
  val : Nat
  deriving DecidableEq, Repr

/-- The EB due on a port that has entered KEYED (R210, R220): its protected octets, when it is authenticated, and its TAG. -/
structure EbKept where
  frame : Option MacFrame
  tag : Option Nat
  deriving DecidableEq, Repr

/-- The TSCH engine (08_tsch_engine.md) beside its objects. -/
structure TschEng where
  /-- frames offered for each neighbour and broadcasts offered on each port, oldest first (R208) -/
  offered : Tbl (List Nat)
  bcast : Tbl (List Nat)
  /-- the attempts in hand, and the last slots decided on each port (R201) -/
  atts : List TxAtt
  decided : Tbl (List Nat)
  /-- ports with an EB due, twice where the period elapsed again while one was in hand, what is kept of one that was KEYED, and the instants at which the ports' periods began (R220) -/
  ebDue : List Nat
  ebKept : Tbl EbKept
  ebFrom : Tbl Nat
  acks : List AckReq
  dlAcks : List DlAck
  wins : List RxWin
  nextWin : Nat
  /-- the first slot served since TS_RUN became 1, and the device time before which nothing is served (R193, R194) -/
  runFrom : Nat
  idleUntil : Nat
  /-- the slots that forward steps passed over, first and last (R194); the slots served up to the last stop, first and last (R195) -/
  passed : List (Nat × Nat)
  tail : Option (Nat × Nat)
  /-- the slot of the last bank swap, and the bank before it (R205) -/
  swapAsn : Nat
  oldBank : Nat
  /-- template fields before their recent changes, oldest first (R198) -/
  tplPast : List TplPast
  /-- the frames withheld for want of a network key and counted: stored broadcasts (false), and the EBs of ports (true) (R331) -/
  withheld : List (Bool × Nat)
  deriving DecidableEq, Repr

/-- What the sleepy-node service plans for a node (R237, R246): the expected sample or request, the decision instant, and
whether it is a full-length attempt. -/
structure SnPlan where
  pred : Nat
  due : Nat
  full : Bool
  deriving DecidableEq, Repr

/-- An exchange with a sleeping node (R232 to R239), `answered` once its attempt is, or where it follows an uplink. Steps: 0 before its
retune instant, 1 wake-up sequence, 2 data frame or copy, 3 listening for the ACK, 4 waiting for a follow-on. -/
structure SnEx where
  node : Nat
  port : Nat
  chan : Nat
  mode : Nat
  full : Bool
  step : Nat
  pkt : Nat
  wakes : Nat
  space : Nat
  unit : Nat
  t0 : Nat
  ret : Nat
  dur : Nat
  ext : Nat
  copies : Nat
  sent : Nat
  frames : Nat
  resv : List Nat
  req : Nat
  t1 : Nat
  edge : Nat
  sof : Bool
  answered : Bool
  /-- the instant at which it was decided (R238) -/
  decided : Nat
  deriving DecidableEq, Repr

/-- The sleepy-node service (09_sleepy_nodes.md) beside its objects. -/
structure SnEng where
  /-- pending frames of each node, oldest first, and all of them by age with the instant of entry (R242, R245) -/
  lists : Tbl (List Nat)
  ages : List (Nat × Nat)
  /-- wheel entries in placement order: node and the millisecond of its bucket; plans; the overflow list (R246, R247) -/
  wheel : List (Nat × Nat)
  plans : Tbl SnPlan
  overflow : List Nat
  /-- nodes with RESET_PENDING -/
  resets : List Nat
  exs : List SnEx
  deriving DecidableEq, Repr

/-- A create in progress (R268, R271): the keys, index asked, devices whose answer is missing. -/
structure Create where
  eui : Nat
  iid : Nat
  index : Nat
  waiting : List Nat
  since : Nat
  deriving DecidableEq, Repr

/-- A line of a learned cache (R280). -/
structure CacheLine where
  table : Nat
  key : Nat
  node : Nat
  gen : Nat
  owner : Nat
  deriving DecidableEq, Repr

/-- A reassembly (R286): its pipeline, source, tag, size, start, the parts received and the packet that holds its cells. -/
structure Reasm where
  pipe : Nat
  src : Nat
  tag : Nat
  size : Nat
  since : Nat
  parts : List (Nat × List Nat)
  pkt : Nat
  first : MeshIn
  deriving DecidableEq, Repr

/-- A downlink packet that waits for the answers of peers (R284): its number, pipeline, key, packet and flow class; the devices
that have not answered. -/
structure Remote where
  id : Nat
  pipe : Nat
  key : Nat
  pkt : Nat
  fc : Nat
  waiting : List Nat
  since : Nat
  deriving DecidableEq, Repr

/-- A packet that waits for a pipeline (R279): from the backhaul with its port and flow class, or from a peer with the node
and GEN that the frame names (R284). -/
structure DownIn where
  pkt : Nat
  fc : Nat
  peer : Option (Nat × Nat)
  deriving DecidableEq, Repr

/-- The node table and the pipelines beside their objects (11_node_table_forwarding.md). -/
structure NodeEng where
  /-- WKEY of each node -/
  wkey : Tbl (List Nat)
  /-- buckets of the key tables, table 1 from 2^22: four ways of key and node (R272) -/
  buckets : Tbl (List (Option (Nat × Nat)))
  stash : Tbl (List (Nat × Nat))
  /-- the ferry register of each table: key and node of the move under way (R275) -/
  ferry : Tbl (Nat × Nat)
  lfsr : Tbl Nat
  creates : Tbl Create
  /-- the learned caches, set 8192 × pipeline + set, most recently used line first -/
  cache : Tbl (List CacheLine)
  reasms : List Reasm
  remotes : List Remote
  dgram : Nat
  /-- delivered mesh frames, and downlink packets, waiting for each pipeline -/
  input : Tbl (List MeshIn)
  down : Tbl (List DownIn)
  nextRemote : Nat
  deriving DecidableEq, Repr

/-- A to-host FIFO (R444): complete packets, items of the first already read, packets not yet noticed and the instant of the
first of them. -/
structure ToHost where
  pkts : List Nat
  pos : Nat
  fresh : Nat
  since : Nat
  deriving DecidableEq, Repr

/-- A write that holds its handshake (R446): who, member (0 HF_START, 1 HF_DATA), value, start. -/
structure HeldWrite where
  who : Who
  mem : Nat
  val : Nat
  since : Nat
  deriving DecidableEq, Repr

/-- A from-host FIFO (R445, R447): complete packets as their items after the length word, with OCTETS; the items of the open
packet; a held write; the words of the ring not yet read. -/
structure FromHost where
  pkts : List (Nat × List Nat)
  cur : Option (List Nat)
  held : Option HeldWrite
  ring : List Nat
  deriving DecidableEq, Repr

/-- The host FIFOs; the words of host memory that the device reads next, as the outside has placed them, and whether that
read ends with a bus error, or the write of the next mailbox response does. -/
structure HostEng where
  out : Tbl ToHost
  inp : Tbl FromHost
  bus : List Word
  busBad : Bool
  rspBad : Bool
  deriving DecidableEq, Repr

/-- Signals between the engines inside one command, acted on in order before the command ends. DESIGN CHOICE: log 14. -/
inductive Note where
  /-- a transmit request ended with a status of Table PORT-12 (16: LATE, R211) -/
  | txEnd (r : TxReq) (status : Nat)
  /-- a port entered KEYED with a request (R210) -/
  | keyed (r : TxReq)
  /-- a port's receiver started or stopped -/
  | portUp (p : Nat)
  | portDown (p : Nat)
  /-- a lane bound to an ACK wait found an SFD, with its T_SOF (R156, R212) -/
  | ackSof (req tSof : Nat)
  /-- a fabric packet for this device arrived, and the response to a request of ours, with the request's number -/
  | fabRx (link : Nat) (p : FabPkt)
  | fabRsp (p : FabPkt) (type info : Nat)
  /-- a request of ours ends unanswered (R421) -/
  | fabGone (type dst info : Nat)
  /-- a frame whose timestamp is wanted left on an Ethernet port, its last bit at instant `fin` (R386) -/
  | ethSent (e ts fin : Nat)
  /-- an unsecured frame with a join message was received, and its IPv6 packet (R339) -/
  | joinRx (r : RxRecord) (f : MacFrame) (o : List Nat)
  /-- a create of the join service ended with a result word (R268) -/
  | created (k result : Nat)
  /-- a frame with a wanted timestamp was keyed by a request at T0, or freed unkeyed (R386) -/
  | airKeyed (req ts u : Nat)
  | airLost (ts : Nat)
  /-- a fabric peer broke the protocol (R426) -/
  | breach (link : Nat) (p : FabPkt)
  /-- an entry of the node table was freed (R267, R270) -/
  | nodeGone (n : Nat)
  /-- a frame of a campaign left its queue (R367) -/
  | campLeft (i : Nat)
  /-- an exchange with a sleeping node has ended (R244) -/
  | snEnd
  /-- the value of a key slot was replaced or removed (R343) -/
  | keyChanged (k : Nat)
  /-- a mailbox doorbell was taken: its message is still to be read (R73) -/
  | mailbox (i : Nat)
  /-- an access of a released master that waited behind its violation goes on: whether it writes, the member, the operation of
  the alias (0 plain, 1 set, 2 clear) and the word (R525) -/
  | access (m : Nat) (write : Bool) (r : Ref) (op : Nat) (v : Word)
  deriving DecidableEq, Repr

end Sys2Proof.Machine
end

