-- ==== Sys2Proof/Machine/TypesB.lean ====
section
/-! DEFINITION. The plain data of the services and of the engines of chapters 14 to 23: what the spec gives them beside their
objects. -/

namespace Sys2Proof.Machine

/-! ## Join (14_join_attestation.md) -/

/-- An incomplete join message (R342): joiner, VERSION major, SESSION, TYPE, SEG_LAST, when it began, its segments and the length of the
first. -/
structure JoinAsm where
  eui : Nat
  major : Nat
  session : Nat
  type : Nat
  last : Nat
  since : Nat
  segs : List (Nat × List Nat)
  first : Nat
  deriving DecidableEq, Repr

/-- A join session (Table JOIN-6: 1 OFFERED, 2 VERIFYING, 3 ACCEPTED): the bodies of HELLO, OFFER, REQUEST and ACCEPT, the start
of its present wait, SEG, and the issuer with the credential's NOT_AFTER and GROUPS. -/
structure JoinSess where
  id : Nat
  eui : Nat
  state : Nat
  hello : List Nat
  offer : List Nat
  req : List Nat
  accept : List Nat
  since : Nat
  seg : Nat
  path : JoinPath
  deriving DecidableEq, Repr

/-- What a create of the join service is for (R348 step 6, R352 step 6). -/
inductive JoinWant where
  | full (sess : Nat)
  | resume (eui seg : Nat) (body rs : List Nat) (path : JoinPath)
  deriving DecidableEq, Repr

/-- The join service: its sessions, messages and replay cache (newest first, R353); the root statement; the public keys of the
issuers; creates in order, the first in progress; the NOT_AFTER of the credential each EUI-64 joined with (Table JOIN-8). -/
structure JoinEng where
  sessions : List JoinSess
  nextId : Nat
  asms : List JoinAsm
  replay : List (List Nat × Nat)
  statement : List Nat
  issuers : Tbl (List Nat)
  wants : List JoinWant
  limits : Tbl Nat
  /-- the measurement report (R356) -/
  report : List Nat
  deriving DecidableEq, Repr

/-! ## Campaigns (15_node_image_campaigns.md) -/

/-- A target of a campaign: its node state (Table IMAGE-5), unanswered requests, the request on its way with the instant at
which it left its queue, and a STATUS recorded in MULTICAST. -/
structure CampNode where
  state : Nat
  tries : Nat
  req : Option Nat
  left : Option Nat
  status : Option (List Nat)
  deriving DecidableEq, Repr

/-- A port of a campaign: the next block frame, blocks since the last ANNOUNCE, the start of the last block frame, and the block
frame on its way, with whether it has been on air. -/
structure CampPort where
  next : Nat
  since : Nat
  last : Option Nat
  frame : Option Nat
  aired : Bool
  deriving DecidableEq, Repr

/-- A campaign beside its objects: the phase PAUSED remembers, its targets and ports. -/
structure Camp where
  phase : Nat
  nodes : Tbl CampNode
  ports : Tbl CampPort
  deriving DecidableEq, Repr

/-- The library and the campaigns: the octets of each image, the public key each seal was asked with, the last CA_ID. -/
structure CampEng where
  images : Tbl (List Nat)
  sealKeys : Tbl (List Nat)
  camps : Tbl Camp
  lastId : Nat
  deriving DecidableEq, Repr

/-! ## Time (16_backhaul_time.md) -/

/-- A Sync or a request that waits for its other half (R383): its sequence number, sender, receipt or sending time in units of
device time, correction, and the TU_STEP_SEQ of that time. -/
structure PtpWait where
  seq : Nat
  id : Nat
  port : Nat
  time : Nat
  corr : Int
  step : Nat
  deriving DecidableEq, Repr

/-- A PTP port beside its objects (R382, R383): a two-step Sync without its Follow_Up, the last Sync with its origin time, a
Delay_Req and a Pdelay_Req on their way, the last values of d, sequence numbers, the last Sync sender, and when each timer sent. -/
structure PtpPort where
  open_ : Option PtpWait
  sync : Option (PtpWait × Int)
  dreq : Option PtpWait
  preq : Option PtpWait
  ds : List Int
  seqSync : Nat
  seqDelay : Nat
  seqPdelay : Nat
  source : Option (Nat × Nat)
  sent : Tbl Nat
  deriving DecidableEq, Repr

/-- An entry of a timestamp queue (Table TIME-9). -/
structure TqEntry where
  source : Nat
  status : Nat
  id : Nat
  time : Nat
  deriving DecidableEq, Repr

/-- The time unit, the PTP engine, the servo and the Ethernet ports beside their objects: the count toward SV_LOCK_COUNT, the
instants of the last measurement and of entry to HOLDOVER; the timestamp queues, frames on air and on the wire whose timestamp
is wanted; the end of a received PAUSE; the MDIO operation; the last PPS_IN edge; PPS_OUT: taken, its level, the device time from
which it runs, and until when a pulse that a step met stays high. -/
structure TimeEng where
  ptp : Tbl PtpPort
  count : Nat
  lastMeas : Nat
  holdFrom : Nat
  tq : Tbl (List TqEntry)
  stamps : Tbl (Nat × Nat)
  wire : Tbl (Nat × Nat)
  paused : Tbl Nat
  mdio : Option Nat
  ppsLast : Option Nat
  ppsTaken : Bool
  ppsOut : Bool
  ppsFrom : Option Nat
  ppsTail : Nat
  deriving DecidableEq, Repr

/-! ## Transactions (04_transactions_configurations.md) and the access paths -/

/-- A staged item: the member, 0 write, 1 set bits, 2 clear bits, and the word. -/
structure Staged where
  ref : Ref
  op : Nat
  val : Word
  deriving DecidableEq, Repr

/-- Whom the end of a transaction answers: nobody, a TXN_COMMIT or an ATOMIC message of a session (its SEQ; the ref words), an
aperture master's A_COMMIT, MODE_APPLY, or a PARTITION packet of a device that names the vacated one, if any (R430). -/
inductive TxnResp where
  | none
  | commit (slot seq : Nat)
  | atomic (slot seq : Nat) (refs : List Word)
  | ap (m : Nat)
  | mode
  | partition (dev : Nat) (gone : Option Nat)
  deriving DecidableEq, Repr

/-- A transaction beside its record (R92, R95, R99): its owner, `open_seq`, the staged items in order, the last staging, the locks
it holds, whom it answers, the overlay set of a mode change, the participants a coordinator has still to visit and has prepared,
and the device whose branch it is. -/
structure Txn where
  who : Who
  openSeq : Nat
  items : List Staged
  touched : Nat
  held : List (Nat × Nat)
  resp : TxnResp
  modes : Option Nat
  todo : List Nat
  prepared : List Nat
  asked : Option (Nat × FabPkt)
  due : Option Nat
  deriving DecidableEq, Repr

/-- One item of an access: first member, member count, operation and words. -/
structure Item where
  ref : Ref
  count : Nat
  op : Nat
  vals : List Word
  deriving DecidableEq, Repr

/-- A request of a session in execution (R79): slot, SEQ, type of the request, the items left, and the response payload so far. -/
structure DdpRun where
  slot : Nat
  seq : Nat
  type : Nat
  items : List (Word × Item)
  done : List Word
  deriving DecidableEq, Repr

/-- What waits for a lock (R97, R99): a direct write of one item, a session's request at its first item, or a commit. -/
inductive LockFor where
  | item (w : Who) (item : Item)
  | run (r : DdpRun)
  | commit (h : Nat)
  deriving DecidableEq, Repr

structure LockWait where
  since : Nat
  what : LockFor
  deriving DecidableEq, Repr

/-- An access of an aperture master that is held behind earlier ones of it: the master, whether it writes, the member, the alias, the
word, and since when (R64, R70). -/
structure HeldAccess where
  m : Nat
  write : Bool
  ref : Ref
  op : Nat
  val : Word
  since : Nat
  deriving DecidableEq, Repr

/-- The transaction unit and the access paths: transactions, finished handles (oldest first), `last_commit` of each object
instance, what waits for a lock, words of an aperture sequence not yet complete (R68), the snapshots of R379, the octets of
the configuration slots (R110), the session ID last assigned (R80), and the failed authentications of each manager key slot within
the last 60 s with the slots locked out and since when (R84); the accesses of aperture masters that are held behind earlier ones of
theirs, oldest first (R70). -/
structure TxnEng where
  txns : Tbl Txn
  finished : List Nat
  lastCommit : List ((Nat × Nat) × Nat)
  waits : List LockWait
  seqs : List ((Nat × Ref) × Word)
  snaps : List ((Who × Ref) × Word)
  slots : Tbl (List Nat)
  lastSid : Nat
  fails : Tbl (List Nat)
  shut : Tbl Nat
  behind : List HeldAccess
  deriving DecidableEq, Repr

/-! ## Timers (20_interrupts_timers.md) -/

/-- A general timer beside its objects (R466, R468): the instant of its next tick while it runs, and the time to its next tick
that a stopped or frozen timer holds (the prescaler phase), in SCLK cycles; the active interval. -/
structure TimerSt where
  due : Nat
  left : Option Nat
  interval : Int
  deriving DecidableEq, Repr

/-! ## Reset, clocks and power (21_reset_clocks_power.md) -/

/-- An asserted reset source (R477): its bit of the cause word, reach (0 Core, 1 Block, 2 System, 3 Chip, 4 Backup), target,
the end of a pulse, and whether it holds until RS_RELEASE. -/
structure RstSrc where
  cause : Nat
  reach : Nat
  target : Nat
  ends : Option Nat
  hold : Bool
  deriving DecidableEq, Repr

/-- Resets, clocks and power beside their objects: asserted sources; requests accepted and the instant of their assertion (R479);
the causes, widest reach, rails and clocks of the episode; its stage (0 released, 1 held, 2 boot flow, 3 halted); DRAM trained;
domains whose PLL is locked; consecutive failed windows of each domain (R492); blocks released whose wrapper is closed; strap
levels; a release after Outage or Hold; the host-loaded boot image; the power state (0 Run, 1 Outage, 2 Hold, 3 Off) and its
start; the last kick of each core's watchdog; latched PW_OUTAGE_EN, PW_HOLD_AFTER and CK_BCLK_SRC; RTC value and the instant it
was set at; whether TH_TEMP has warned; words of the retained SRAM, and of
the firmware and free regions of DRAM; VBAT tied (R52); SYS_FAULT_N asserted by a boot failure; the outage
record (R495): device time, RTC, FC_EPOCH, TS_ASN, ACTIVE_MODES, PR_STATE, K_FC of slots, and whether its digest matches; the fuse
map in force; RESET_N and PWR_EN_MAIN; the rails below threshold, those in their high class and those that have taken a class since the
last Chip reset (R537, R538; bits as in RC_RAILS); whether the fuse map is loaded (R39); MDC and MDIO taken (R38). -/
structure RstEng where
  srcs : List RstSrc
  due : List (Nat × RstSrc)
  causes : Nat
  reach : Nat
  rails : Nat
  clocks : Nat
  stage : Nat
  trained : Bool
  locked : Nat
  bad : Tbl Nat
  opening : List Nat
  pins : Nat
  wake : Bool
  image : List Nat
  power : Nat
  since : Nat
  kicks : Tbl Nat
  latched : List Nat
  rtc : Nat × Nat
  warned : Bool
  sram : Tbl Nat
  dram : Tbl Nat
  tied : Bool
  fault : Bool
  record : Option (List Nat × List (Nat × Nat) × Bool)
  fuses : Tbl Nat
  resetIn : Bool
  pwrEn : Bool
  low : Nat
  high : Nat
  classed : Nat
  mapped : Bool
  mdTaken : Bool
  deriving DecidableEq, Repr

/-! ## Device update (22_device_update.md) -/

/-- A boot record (R505). -/
structure BootRec where
  seq : Nat
  bank : Nat
  confirmed : Bool
  tries : Nat
  deriving DecidableEq, Repr

/-- The update service beside its objects: the staging area; the kind of instant an image is armed for, with its ASN or device time;
the flash banks and the two record copies; the image that runs. -/
structure UpEng where
  area : List Nat
  armed : Option (Nat × Nat)
  banks : Tbl (List Nat)
  records : Tbl BootRec
  run : List Nat
  deriving DecidableEq, Repr

/-! ## Ledger, faults and debug (23_ledger_faults_debug.md) -/

/-- A frozen master (R523): the packets of a fabric peer that wait, the violating one first, and its violation record, if one
was free. -/
structure Frozen where
  link : List FabPkt
  rec_ : Option Nat
  deriving DecidableEq, Repr

/-- A dump being written (R526 to R528): its slot, cause, DETAIL, further fatal errors and instant of the first. -/
structure Dump where
  slot : Nat
  cause : Nat
  detail : Nat
  follow : Nat
  time : Nat
  since : Nat
  deriving DecidableEq, Repr

/-- Ledger, faults and debug beside their objects: the counts TOTAL, FREE, HELD, INFLIGHT as the last audit sampled them; frozen
masters and later accesses of theirs that wait, each with whether it writes; a fatal error stands; the dump in progress, the last SEQ, the octets of each slot
below 64 MiB that are written; occurrences seen by each perturbation entry; halted harts; the TAP instruction and the boundary
cells; the closed fabric instances' counts; when the auditor last ran. -/
structure FltEng where
  audit : Tbl (Nat × Nat × Nat × Nat)
  frozen : Tbl Frozen
  waiting : List (Nat × Bool × Ref × Nat × Word)
  fatal : Bool
  dump : Option Dump
  seq : Nat
  slots : Tbl (List Nat)
  seen : Tbl Nat
  halted : List Nat
  tap : Nat
  cells : List Nat
  closed : Tbl (Nat × Nat × Nat × Nat)
  auditAt : Option Nat
  deriving DecidableEq, Repr

/-! ## Pairs (17_pair_redundancy.md) and the PCIe endpoint -/

/-- A mooring image as received or sent (R400): SEQ, T_FREEZE, the header words, and the words of its sections that are not zero,
by section and word offset. DESIGN CHOICE: log 94. -/
structure Moor where
  seq : Nat
  freeze : Nat
  hdr : List Nat
  words : List ((Nat × Nat) × Nat)
  deriving DecidableEq, Repr

/-- An image being built (R401): its SEQ, stream passes so far, whether a yield asked for it, and whether its dirty set lets the
freeze begin. -/
structure MoorRun where
  seq : Nat
  passes : Nat
  yield : Bool
  ready : Bool
  deriving DecidableEq, Repr

/-- A pair member beside its objects: PAIR_GRANT and PAIR_FENCE; the image in progress and the one sent and not acknowledged; the
last SEQ; when the last image started; K_FC of each slot in the last acknowledged image; on a Standby the
image being received with the instant of its last packet, the newest complete image and its area; the time loop: t1, t2 and t3 of
the open exchange, consecutive good offsets, locked, instant of the last exchange, since when it is unlocked, its frequency; the
start of YIELDING; when step 7 ran and announcements still to send; instant of the last PAIR_STATUS; the heartbeat: running, word
SEQ, bit, level and instant of the last period, of the last refresh; when PAIR_STATUS and TIME_SYNC were last sent. -/
structure PairEng where
  grant : Bool
  fence : Bool
  run : Option MoorRun
  sent : Option (Moor × Bool)
  lastSeq : Nat
  started : Nat
  acked : Tbl Nat
  rx : Option (Moor × Nat)
  newest : Option (Moor × Nat)
  t1 : Option (Nat × Nat × Nat)
  good : Nat
  locked : Bool
  lastExch : Nat
  unlocked : Nat
  freq : Int
  yieldAt : Nat
  step7 : Option (Nat × Nat)
  heard : Nat
  hbOn : Bool
  hbSeq : Nat
  hbBit : Nat
  hbLast : Nat
  refreshed : Nat
  statusAt : Option Nat
  syncAt : Option Nat
  deriving DecidableEq, Repr

/-- The witness (R398, R399): of each unit (0 A, 1 B) alive, code and since when it is held; since when the state holds; the unit
that grant moves to; the granted unit's grant instant, whether it has shown 0b10 or 0b11, counts as failed for
another reason than its heartbeat, and was reported; the levels of WIT_GRANT and WIT_FENCE; when the last
valid heartbeat word of each unit was seen. -/
structure WitEng where
  alive : List Nat
  codes : Tbl Nat
  held : Tbl Nat
  since : Nat
  target : Nat
  grantAt : Nat
  shown : Bool
  failed : Bool
  reported : Bool
  grants : List Nat
  fences : List Nat
  words : Tbl Nat
  deriving DecidableEq, Repr

/-- The PCIe endpoint (R449, R450): link up with width and rate, and PERST_N low. -/
structure PcieEng where
  up : Bool
  width : Nat
  rate : Nat
  perst : Bool
  deriving DecidableEq, Repr

end Sys2Proof.Machine
end

