-- ==== Sys2Proof/Machine/State.lean ====
section
/-! DEFINITION. The state of the block, and the reasons a step can stop. -/

namespace Sys2Proof.Machine

/-- What the block sends outward during one command. -/
inductive Out where
  /-- an access completes: who made it, the status of Table DICT-6 (0: OK; in the aperture every other status is an
  error response, R555), and the words read -/
  | acc (w : Who) (status : Nat) (vals : List Word)
  /-- a DDP message leaves on a session slot, or as an answer without a session (slot 64) -/
  | ddp (slot : Nat) (words : List Word)
  /-- a frame goes on air: port, channel centre in Hz, mode, first symbol at the antenna plane and at the RFTX ball in units of device time
  (R119), driver power in quarter dBm, the frame as protected, for a Deep Link copy its header and preamble extension, and the bits that
  the modulator is given: of a Deep Link copy all of Table CODE-2, of another frame those of its PSDU behind the code of R166 -/
  | air (port freq mode t0 ball : Nat) (power : Int) (f : MacFrame) (copy : Option (Nat × Nat)) (bits : List Nat)
  /-- an MSI-X message of a vector (R460) -/
  | msix (v : Nat)
  /-- an Ethernet frame without FCS on a port (4 MGMT) -/
  | eth (port : Nat) (frame : List Nat)
  /-- items written to the ring of a FIFO in host memory, each with its bus address, in the order written; and an index written to
  HR_IDX_ADDR (R447) -/
  | ring (i : Nat) (items : List (Nat × Nat))
  | ringIdx (i addr idx : Nat)
  /-- the bus addresses that a from-host ring reads -/
  | ringRead (i : Nat) (addrs : List Nat)
  /-- a PTP message on a port (R382): its transport, PP_TRANSPORT, and the address of PP_IF that a UDP transport sends from -/
  | ptp (port via addr : Nat) (m : PtpMsg)
  /-- a word written to, or read from, host memory through the outbound window (R435) -/
  | bus (addr : Nat) (data : Option Nat)
  /-- the data register that a TAP instruction selects: IDCODE, the boundary cells, DTMCS, DMI or BYPASS (R533) -/
  | tap (code : Nat) (cells : List Nat)
  /-- a heartbeat period with its bit begins on PAIR_HB, or PAIR_HB is driven at 0 (none); the units at which WIT_GRANT and
  WIT_FENCE are high (R394, R398) -/
  | hb (bit : Option Bool)
  | wit (grants fences : List Nat)
  /-- the words of a packet on a fabric link (R416) -/
  | fab (link : Nat) (words : List Nat)
  deriving DecidableEq, Repr

/-- The engines of the block. -/
structure Engines where
  irq : IrqSt
  tu : TimeSt
  /-- the last raising of each event code and scope instance under a hold-off (R553) -/
  holdoff : Tbl Nat
  /-- the DDP sessions that are not FREE -/
  sess : Tbl Sess
  lane : LaneEng
  radio : RadioEng
  dl : DlEng
  fab : FabEng
  q : QueueEng
  tally : TallyEng
  keys : KeyEng
  nodes : NodeEng
  sn : SnEng
  tsch : TschEng
  host : HostEng
  join : JoinEng
  camp : CampEng
  time : TimeEng
  txn : TxnEng
  timers : Tbl TimerSt
  rst : RstEng
  up : UpEng
  flt : FltEng
  pair : PairEng
  wit : WitEng
  pcie : PcieEng
  /-- the arbiters that have decided since the last System reset (R440) -/
  arb : Tbl ArbSt
  /-- signals between the engines that are still to be acted on -/
  notes : List Note
  /-- how many open values have been taken (the model's own counter) -/
  free : Nat
  deriving DecidableEq, Repr

/-- The whole state. -/
structure State where
  /-- commands that are waiting, first in, first out -/
  pending : List Instr
  /-- true time, in SCLK cycles of 1 ns -/
  now : Nat
  /-- what the last command sent outward -/
  out : List Out
  /-- the dictionary's registers -/
  objs : Store
  /-- the engines beside the dictionary -/
  eng : Engines
  deriving DecidableEq, Repr

/-- The machine right after a reset of Backup reach: every object at its default, every engine empty.
DESIGN CHOICE: log 10. PRESUMED: log 152. -/
def State.reset : State where
  pending := []
  now := 0
  out := []
  objs := []
  eng := {
    irq := ⟨[], [], 0, [], false, 2 ^ 64 - 1, 0, [], 0, false, ⟨0, 0, 0, 0, 0⟩⟩
    tu := ⟨0, 0⟩
    holdoff := []
    sess := []
    lane := ⟨[], [], [], [], [], [], []⟩
    radio := ⟨[], [], [], [], [], 0, none⟩
    dl := ⟨[], 0, [], [], []⟩
    tally := ⟨[], [], 0, 0⟩
    fab := ⟨[], [], 1, [], false, none⟩
    q := ⟨[], 0, [], [], [], [], [], [], 0, 0⟩
    keys := ⟨[], [], none, [], (2, 0), [], []⟩
    nodes := ⟨[], [], [], [], [], [], [], [], [], 0, [], [], 0⟩
    host := ⟨[], [], [], false, false⟩
    join := ⟨[], 1, [], [], [], [], [], [], []⟩
    camp := ⟨[], [], [], 0⟩
    time := ⟨[], 0, 0, 0, [], [], [], [], none, none, false, false, none, 0⟩
    txn := ⟨[], [], [], [], [], [], [], 0, [], [], []⟩
    sn := ⟨[], [], [], [], [], [], []⟩
    tsch := ⟨[], [], [], [], [], [], [], [], [], [], 0, 0, 0, [], none, 0, 0, [], []⟩
    timers := []
    rst := ⟨[], [], 0, 0, 0, 0, 0, true, 0, [], [], 0, false, [], 0, 0, [], [0, 86400, 0], (0, 0), false, [], [], false, false, none,
      (List.range 24).map fun p => (4 * p, 0xB6), true, true, 0, 0, 0, true, false⟩
    up := ⟨[], none, [], [], []⟩
    flt := ⟨[], [], [], false, none, 0, [], [], [], 1, [], [], none⟩
    pair := ⟨false, false, none, none, 0, 0, [], none, none, none, 0, false, 0, 0, 0, 0, none, 0, false, 0, 0, 0, 0, none, none⟩
    wit := ⟨[], [], [], 0, 0, 0, false, false, false, [], [], []⟩
    pcie := ⟨false, 0, 0, false⟩
    arb := []
    notes := []
    free := 0 }

/-- Why a command stops with a fault. -/
inductive Fault where
  /-- raised by every command whose operand names a port, lane, slot, node or other instance that the device does not
  have. Safe: no such command can be sent. -/
  | noSuchInstance
  deriving DecidableEq, Repr

/-- Why a command is refused. -/
inductive Refusal where
  /-- raised by the arm of a command that has no meaning yet. Safe. -/
  | notModelled (mnemonic : String)
  deriving DecidableEq, Repr

end Sys2Proof.Machine
end

