-- ==== Sys2Proof/Machine/Ops.lean ====
section
/-! DEFINITION. The named operations over the state: reading and writing objects, the primitive effects a command can
have, time, interrupt requests and events. Every meaning is an `Act`, and an `Act` changes the state through the
primitive effects `Eff` alone. -/

namespace Sys2Proof.Machine

open Sys2Proof

/-! ## Objects -/

/-- The family of an index (R54). -/
def family? (idx : Nat) : Option Family := dict.find? fun f => f.idx == idx

/-- The row of a family that holds a member. -/
def rowOf? (f : Family) (mem : Nat) : Option Row :=
  f.rows.find? fun r => decide (r.m0 ≤ mem) && decide (mem < r.m0 + r.cnt)

/-- The row of an object. -/
def row? (r : Ref) : Option Row := (family? r.idx).bind fun f => rowOf? f r.mem

/-- Defaults that the object tables give by a formula over the instance or the member. -/
def dfltBy (r : Ref) : Option Nat :=
  match r.idx with
  | 0x0000 => if r.mem = 3 then some Config.uid.toNat else if r.mem = 8 then some Config.schema.toNat else none
  | 0x0030 => if r.mem = 6 then some r.inst else none
  | 0x0380 =>
    if r.mem = 0 then some Config.dramCapacity.toNat else if r.mem = 1 then some Config.dramSpeed.toNat else none
  | 0x0389 => some ([32, 32, 32, 32, 48, 24, 8, 4, 32, 8, 16, 24, 8, 8, 1, 1].getD r.inst 0)
  | 0x0393 => if r.mem = 3 then some (8 + r.inst % 56) else none
  | 0x0110 => if 4 ≤ r.mem then some ((octetsToWords (Config.shake256 [])).getD (r.mem - 4) 0).toNat else none
  | 0x6001 => if r.mem = 0 then some Config.bundle.toNat else none
  | 0x7F01 => some (if r.inst < 96 ∧ r.inst % 4 = 0 then 0xB6 else 0)
  | 0x0302 => some (if r.mem = 0 then 0x1FE else 0)
  | 0x0310 =>
    some (16 * 256 + (if 1 ≤ r.inst ∧ r.inst ≤ 31 then 15 else if 192 ≤ r.inst ∧ r.inst ≤ 195 then 1 else 0))
  | 0x0311 | 0x0312 | 0x0313 | 0x0314 | 0x0315 | 0x0316 | 0x0317 => some (16 * 256)
  | 0x1010 => some (if r.mem = 31 then 131071 else 0)
  | 0x1020 => some (if r.mem = 0 then 0x800007D00000FF88 else if r.mem = 1 then 0x800013880000FF4C else 0)
  | 0x1410 => if r.mem = 0 then some (if r.inst < 1536 then r.inst / 64 else 255) else none
  | 0x1411 =>
    if r.mem = 0 then some (if r.inst < 1536 then 1 else 0)
    else if r.mem = 1 then some (if r.inst < 1536 then r.inst / 64 else 255) else none
  | 0x2401 => if r.mem = 0 then some r.inst else none
  | 0x3002 =>
    if r.mem = 0 then some (if r.inst = 0 then 0x6C3B91E40D72A5F8 else 0xA4D207F93B6EC158)
    else if r.mem = 1 then some (if r.inst = 0 then 0x1F805AC7E23694BD else 0x57E1C08A9D43F26B) else none
  | 0x3003 => some (if r.inst = 0 then (if r.mem = 0 then 1 else 8388607) else 0)
  | 0x3401 => some (r.mem / 8)
  | 0x3410 => if r.mem = 1 then some r.inst else none
  | 0x3420 =>
    if r.mem = 0 then
      some (if r.inst < 64 then 0x2000000000000000
        else if r.inst < 72 then 0x1000000000000000 + (r.inst - 64) * 0x100
        else if 4056 ≤ r.inst ∧ r.inst ≤ 4061 then 0x4000000000000000 + (r.inst - 4056)
        else if 4064 ≤ r.inst then 0x3000000000000000 + (r.inst - 4064) else 0)
    else none
  | 0x4020 => if r.mem = 3 then some 64 else none
  | 0x4410 => if r.mem = 5 then some (60 + r.inst) else none
  | 0x5000 =>
    if r.mem = 0 then some (if r.inst = 4 then 4 else 0)
    else if r.mem = 4 then
      some (let u := beOctets 8 Config.uid.toNat
        be (u.take 3 ++ (u.drop 5).take 2 ++ [(u.getD 7 0 + r.inst) % 256]))
    else none
  | _ => none

/-- What an object reads as while nothing has written it: the Default column of its row. DESIGN CHOICE: log 11. -/
def dflt (r : Ref) : Nat :=
  match dfltBy r with
  | some v => v
  | none => match row? r with
    | some row => row.dflt
    | none => 0

/-- The word an object holds. -/
def State.word (s : State) (r : Ref) : Word := (aget s.objs r).getD (BitVec.ofNat 64 (dflt r))

/-- The number an object holds. -/
def State.rd (s : State) (r : Ref) : Nat := (s.word r).toNat

/-- The signed number an object holds (S32, S64: Table DICT-1). -/
def State.rdi (s : State) (r : Ref) : Int := sgn 64 (s.rd r)

/-- The store with a word written: a word equal to the default is not listed. DESIGN CHOICE: log 13. -/
def Store.write (o : Store) (r : Ref) (v : Word) : Store :=
  if v = BitVec.ofNat 64 (dflt r) then adel o r else aput refLt o r v

/-! ## Primitive effects and actions -/

/-- The primitive effects: all that a command can do to the state. -/
inductive Eff where
  /-- write one member -/
  | wr (r : Ref) (v : Word)
  /-- return every object that `keep` does not name to its default -/
  | reset (keep : Ref → Bool)
  /-- send something outward -/
  | emit (o : Out)
  /-- change what the engines hold -/
  | eng (f : Engines → Engines)
  /-- true time goes on while the command works -/
  | pass (n : Nat)

/-- One primitive effect on the state. -/
def Eff.apply : Eff → State → State
  | .wr r v, s => { s with objs := Store.write s.objs r v }
  | .reset keep, s => { s with objs := s.objs.filter fun e => keep e.1 }
  | .emit o, s => { s with out := s.out ++ [o] }
  | .eng f, s => { s with eng := f s.eng }
  | .pass n, s => { s with now := s.now + n }

/-- What a command does: nothing, a primitive effect, one action and then another, or an action that depends on the
state it finds. -/
inductive Act where
  | skip
  | eff (e : Eff)
  | seq (a b : Act)
  | read (f : State → Act)

/-- The state an action leaves. -/
def Act.run : Act → State → State
  | .skip, s => s
  | .eff e, s => e.apply s
  | .seq a b, s => b.run (a.run s)
  | .read f, s => (f s).run s

/-- The actions of a list, one after the other. -/
def acts : List Act → Act
  | [] => .skip
  | a :: rest => .seq a (acts rest)

/-- An action for each element of a list, in order. -/
def forAll {α : Type} (l : List α) (f : α → Act) : Act :=
  match l with
  | [] => .skip
  | x :: rest => .seq (f x) (forAll rest f)

/-- An action under a condition. -/
def onlyIf (c : Bool) (a : Act) : Act := if c then a else .skip

/-- Write a number to an object. -/
def wr (r : Ref) (v : Nat) : Act := .eff (.wr r (BitVec.ofNat 64 v))

/-- Write a signed number to an object. -/
def wri (r : Ref) (v : Int) : Act := wr r (unsgn 64 v)

/-- Write a list of numbers to consecutive members. -/
def wrs (r : Ref) : List Nat → Act
  | [] => .skip
  | v :: vs => .seq (wr r v) (wrs ⟨r.idx, r.inst, r.mem + 1⟩ vs)

/-- Send something outward. -/
def emit (o : Out) : Act := .eff (.emit o)

/-- Change what the engines hold. -/
def eng (f : Engines → Engines) : Act := .eff (.eng f)

/-- Add to a counter. -/
def addTo (r : Ref) (n : Nat) : Act := .read fun s => wr r (s.rd r + n)

/-- Increment a counter. -/
def inc (r : Ref) : Act := addTo r 1

/-- Replace bits `[hi:lo]` of an object. -/
def wrFld (r : Ref) (hi lo v : Nat) : Act := .read fun s => wr r (setFld (s.rd r) hi lo v)

/-- Take the next open value of the spec. DESIGN CHOICE: log 6. -/
def takeFree (k : Nat → Act) : Act := .read fun s =>
  .seq (eng fun e => { e with free := e.free + 1 }) (k (Config.freeValue s.eng.free).toNat)

/-- Take the next octet string of the random source. -/
def takeRandom (k : List Nat → Act) : Act := .read fun s =>
  .seq (eng fun e => { e with free := e.free + 1 }) (k (Config.random s.eng.free))

/-- A new LC_NONCE: a free value other than the one before (R328). DEDUCED: log 211. -/
def newNonce : Act := takeFree fun v => .read fun s => wr R.LC_NONCE (if v = s.rd R.LC_NONCE then (v + 1) % 2 ^ 64 else v)

/-! ## Commands -/

/-- The state in which a command of instant `t` acts: true time has come to `t` (it never goes back), and nothing has
been sent yet. DESIGN CHOICE: log 1. -/
def State.tick (s : State) (t : Nat) : State := { s with now := max s.now t, out := [] }

/-- A command of instant `t` that does `a`. -/
def done (t : Nat) (a : Act) (s : State) : Host.Outcome State Fault Refusal := .next (a.run (s.tick t))

/-- A command of instant `t` that does `a` when its operands name instances the device has. DESIGN CHOICE: log 4. -/
def doneIf (ok : Bool) (t : Nat) (a : Act) (s : State) : Host.Outcome State Fault Refusal :=
  if ok then .next (a.run (s.tick t)) else .fault .noSuchInstance

/-! ## Device time (16_backhaul_time.md R377, R379; 00_scope.md, Time values) -/

/-- Units of device time in the last fraction bit of a TIME112: 48 hidden bits (R377). -/
def uFrac : Nat := 281474976710656

/-- Units of device time in one nanosecond. -/
def uNs : Nat := 65536 * uFrac

/-- Units of device time in one second. -/
def uSec : Nat := 1000000000 * uNs

/-- What one TCLK cycle adds: 2 ns × (1 + `rate` × 10^−12), to the last hidden bit (R377). DESIGN CHOICE: log 89. -/
def tclkStep (rate : Int) : Nat := (2 * (1000000000000 + rate) * (uNs : Int) / 1000000000000).toNat

/-- Device time now: TCLK cycles of 2 ns at TU_RATE (R377). -/
def State.devTime (s : State) : Nat := s.eng.tu.base + (s.now / 2 - s.eng.tu.at0 / 2) * tclkStep (s.rdi R.TU_RATE)

/-- The two words of a TIME112 value. -/
def t112 (u : Nat) : List Nat := [u / uSec, (u % uSec / uNs) * 65536 + u % uNs / uFrac]

/-- The device time a TIME112 value names. -/
def ofT112 (sec nsf : Nat) : Nat := sec * uSec + fld nsf 47 16 * uNs + fld nsf 15 0 * uFrac

/-- Read a TIME112 object. -/
def State.rdTime (s : State) (r : Ref) : Nat := ofT112 (s.rd r) (s.rd ⟨r.idx, r.inst, r.mem + 1⟩)

/-- Write a TIME112 object. -/
def wrTime (r : Ref) (u : Nat) : Act := wrs r (t112 u)

/-! ## Interrupt requests (20_interrupts_timers.md R452 to R464) -/

/-- The target of the source is set by its mailbox or its ring (R454). -/
def State.srcFixed (s : State) (src : Nat) : Bool :=
  decide (192 ≤ src ∧ src ≤ 195) || (decide (128 ≤ src ∧ src ≤ 191) && s.rd (R.HF_MODE (src - 128)) == 2)

/-- The context a source is routed to (R454). -/
def State.srcCtx (s : State) (src : Nat) : Nat :=
  if 192 ≤ src ∧ src ≤ 195 then 17 + s.rd (R.MBX_VECTOR (src - 192))
  else if 128 ≤ src ∧ src ≤ 191 ∧ s.rd (R.HF_MODE (src - 128)) = 2 then 17 + s.rd (R.HR_VECTOR (src - 128))
  else fld (s.rd (R.IRQ_SRC src)) 14 8

/-- The priority of a source (Table IRQ-2). -/
def State.srcPrio (s : State) (src : Nat) : Nat := fld (s.rd (R.IRQ_SRC src)) 3 0

def State.srcPending (s : State) (src : Nat) : Bool := bit? (s.rd (R.IRQ_PENDING (src / 64))) (src % 64)
def State.srcActive (s : State) (src : Nat) : Bool := bit? (s.rd (R.IRQ_ACTIVE (src / 64))) (src % 64)
def State.srcEnabled (s : State) (src : Nat) : Bool := bit? (s.rd (R.IRQ_ENABLE (src / 64))) (src % 64)

/-- R456: the source is PENDING, enabled, and its priority exceeds the threshold of its context. -/
def State.eligible (s : State) (src : Nat) : Bool :=
  s.srcPending src && !s.srcActive src && s.srcEnabled src &&
    decide (s.rd (R.CX_THRESHOLD (s.srcCtx src)) < s.srcPrio src)

/-- The pending sources, lowest first. -/
def State.pendingSources (s : State) : List Nat :=
  (List.range 32).flatMap fun m =>
    let w := s.rd (R.IRQ_PENDING m)
    if w = 0 then [] else (onesOf 64 w).map fun b => 64 * m + b

/-- The sources eligible for a context. -/
def State.eligibleFor (s : State) (x : Nat) : List Nat :=
  s.pendingSources.filter fun src => s.eligible src && s.srcCtx src == x

/-- One MSI-X message of vector `v`, or its PBA bit while the vector is masked (R460). -/
def sendMsix (v : Nat) : Act := .read fun s =>
  if bit? s.eng.irq.msixMask v then eng fun e => { e with irq := { e.irq with pba := setBit e.irq.pba v } }
  else emit (.msix v)

/-- The request signal of a context rises (R456, R460). -/
def requestRises (x : Nat) : Act := .read fun s =>
  if s.rd (R.CX_REQUEST x) = 1 then .skip
  else acts [wr (R.CX_REQUEST x) 1,
    eng fun e => { e with irq := { e.irq with asserted := x :: e.irq.asserted.filter (· ≠ x) } },
    onlyIf (decide (17 ≤ x)) (sendMsix (x - 17))]

/-- The request signal of a context follows the sources eligible for it (R456). -/
def followRequest (x : Nat) : Act := .read fun s =>
  if (s.eligibleFor x).isEmpty then wr (R.CX_REQUEST x) 0 else requestRises x

/-- All request signals follow a change that bears on several contexts. -/
def followAll : Act := .read fun s =>
  forAll ((List.range 81).filter fun x => s.rd (R.CX_REQUEST x) == 1 || !(s.eligibleFor x).isEmpty) followRequest

/-- The source becomes pending (Table IRQ-4); sources 0 and 2,047 never do (R452). -/
def setPending (src : Nat) : Act := .read fun s =>
  if src = 0 ∨ 2047 ≤ src then .skip
  else if s.srcActive src ∧ src ≤ 31 then .skip
  else acts [wr (R.IRQ_PENDING (src / 64)) (setBit (s.rd (R.IRQ_PENDING (src / 64))) (src % 64)),
    .read fun s => onlyIf (s.eligible src) (requestRises (s.srcCtx src))]

/-- The source's pending bit falls. -/
def clearPending (src : Nat) : Act := .read fun s =>
  acts [wr (R.IRQ_PENDING (src / 64)) (clrBit (s.rd (R.IRQ_PENDING (src / 64))) (src % 64)),
    followRequest (s.srcCtx src)]

/-- An edge of a source, or its latch while the controller does not run (R453, R463). -/
def edge (src : Nat) : Act := .read fun s =>
  if s.eng.irq.stopped then
    eng fun e => { e with irq := { e.irq with latched := src :: e.irq.latched.filter (· ≠ src) } }
  else setPending src

/-- A critical source's level rises or falls (R453, R457, Table IRQ-4). -/
def setLevel (src : Nat) (high : Bool) : Act := .read fun s =>
  if bit? s.eng.irq.levels src = high then .skip
  else acts [
    eng fun e => { e with irq := { e.irq with levels := if high then setBit e.irq.levels src else clrBit e.irq.levels src } },
    if s.eng.irq.stopped ∨ s.srcActive src then .skip
    else if high then setPending src else clearPending src]

/-! ## Events (R10, R553, R465, R87) -/

/-- The processors' event queue takes an event, or loses it when it is full (R465). -/
def queueEvent (code inst detail : Nat) : Act := .read fun s =>
  if bit? (s.rd R.EV_MASK) (code / 256) then
    if s.eng.irq.evq.length < 1024 then
      acts [eng fun e => { e with irq := { e.irq with
          evq := e.irq.evq ++ [⟨code, inst, min e.irq.evLost 0xFFFF, s.devTime, detail⟩], evLost := 0 } },
        wr R.EV_DEPTH (s.eng.irq.evq.length + 1), edge (32 + code / 256)]
    else acts [inc R.EV_LOST,
      eng fun e => { e with irq := { e.irq with evLost := e.irq.evLost + 1, evOverflow := true } }]
  else .skip

/-- R77: an event code matches a filter. -/
def filterMatches (code : Nat) (f : Nat × Nat) : Bool := band code f.2 == band f.1 f.2

/-- The sessions whose filters an event matches (R87). -/
def State.listeners (s : State) (code : Nat) : List Nat :=
  (s.eng.sess.filter fun e => s.rd (R.S_STATE e.1) == 2 && e.2.filters.any (filterMatches code)).map (·.1)

/-- Replace what a session slot holds. -/
def setSess (slot : Nat) (q : Sess) : Act := eng fun e => { e with sess := e.sess.set slot q }

/-- Change the interrupt controller. -/
def setIrq (f : IrqSt → IrqSt) : Act := eng fun e => { e with irq := f e.irq }

/-- One session's queue takes an event, or loses it when it holds 256 (R87). -/
def sessionEvent (slot code inst detail : Nat) : Act := .read fun s =>
  match aget s.eng.sess slot with
  | none => .skip
  | some q =>
    if q.evq.length < 256 then
      setSess slot { q with evq := q.evq ++ [⟨code, inst, 0, s.devTime, detail⟩] }
    else acts [inc R.EVENT_LOST, setSess slot { q with evLost := q.evLost + 1 }]

/-- The sessions that lose an event because their queue is full. -/
def State.losers (s : State) (code : Nat) : List Nat :=
  (s.listeners code).filter fun k => match aget s.eng.sess k with
    | some q => decide (256 ≤ q.evq.length)
    | none => false

/-- An event is raised: the processors' queue and the sessions' queues take it; a full session queue raises event 0x0007,
which raises no further one. DEDUCED: log 121. -/
def raise (code inst detail : Nat) : Act := .read fun s =>
  acts [queueEvent code inst detail,
    forAll (s.listeners code) fun k => sessionEvent k code inst detail,
    forAll (s.losers code) fun k => acts [queueEvent 0x0007 k k,
      .read fun s' => forAll (s'.listeners 0x0007) fun j => sessionEvent j 0x0007 k k]]

/-- An event raised at most once per `gap` SCLK cycles for its code and scope instance (R553). -/
def raiseMax (gap scope code inst detail : Nat) : Act := .read fun s =>
  let key := code * 16777216 + scope
  match aget s.eng.holdoff key with
  | some last =>
    if s.now < last + gap then .skip
    else acts [eng fun e => { e with holdoff := e.holdoff.set key s.now }, raise code inst detail]
  | none => acts [eng fun e => { e with holdoff := e.holdoff.set key s.now }, raise code inst detail]

/-- At most once per millisecond (R553). -/
def raiseMs (scope code inst detail : Nat) : Act := raiseMax 1000000 scope code inst detail

end Sys2Proof.Machine
end

