-- ==== Sys2Proof/Machine/Codes.lean ====
section
/-! DEFINITION. The codes that the spec defines at the bit level: the Deep Link header and payload
(07_coding_deep_link.md R168 to R179), the 32-bit FCS, and the draw of the lottery arbiter (19_processors_memory.md
R440). -/

namespace Sys2Proof.Machine

/-! ## CRC-32 (the 32-bit FCS of IEEE 802.15.4-2020 and IEEE 802.3) -/

/-- One octet into a reflected CRC-32 register. -/
def crc32Octet (c b : Nat) : Nat :=
  (List.range 8).foldl (fun r _ => if r % 2 = 1 then bxor (r / 2) 0xEDB88320 else r / 2) (bxor c b)

/-- CRC-32 of octets. -/
def crc32 (l : List Nat) : Nat := bxor (l.foldl crc32Octet 0xFFFFFFFF) 0xFFFFFFFF

/-- The FCS of a frame body; a body shorter than 4 octets is extended with zero octets (PRESUMED, IEEE 802.15.4-2020).
PRESUMED: log 57. -/
def fcs32 (l : List Nat) : Nat := crc32 (l ++ List.replicate (4 - l.length) 0)

/-- A PSDU ends in its 32-bit FCS, low octet first. -/
def fcsPasses (psdu : List Nat) : Bool :=
  decide (4 ≤ psdu.length) &&
    fcs32 (psdu.take (psdu.length - 4)) == le (psdu.drop (psdu.length - 4))

/-- One octet into the reflected register of the 16-bit FCS. -/
def crc16Octet (c b : Nat) : Nat :=
  (List.range 8).foldl (fun r _ => if r % 2 = 1 then bxor (r / 2) 0x8408 else r / 2) (bxor c b)

/-- The 16-bit FCS of IEEE 802.15.4-2020. PRESUMED: log 57. -/
def fcs16 (l : List Nat) : Nat := l.foldl crc16Octet 0

/-- The FCS octets behind a frame body: CRC-32 or CRC-16. -/
def fcsOctets (four : Bool) (l : List Nat) : List Nat := if four then leOctets 4 (fcs32 l) else leOctets 2 (fcs16 l)

/-- A PSDU ends in the FCS that its PHR names (R159). -/
def fcsGood (four : Bool) (psdu : List Nat) : Bool :=
  if four then fcsPasses psdu
  else decide (2 ≤ psdu.length) && fcs16 (psdu.take (psdu.length - 2)) == le (psdu.drop (psdu.length - 2))

/-! ## The Deep Link header (R171 to R173) -/

def dlRate (h : Nat) : Nat := fld h 15 15
def dlWords (h : Nat) : Nat := fld h 14 13 + 1
def dlTotal (h : Nat) : Nat := fld h 12 10
def dlIndex (h : Nat) : Nat := fld h 9 7
def dlTag (h : Nat) : Nat := fld h 6 0

/-- The header bits of a copy (Table CODE-3). -/
def dlHeader (rate words total index tag : Nat) : Nat :=
  rate * 2 ^ 15 + (words - 1) * 2 ^ 13 + total * 2 ^ 10 + index * 2 ^ 7 + tag

/-- The remainder of a 31-bit polynomial modulo g(x) = 0x8FAF. -/
def bchRem (c : Nat) : Nat :=
  (List.range 16).foldl (fun r k => if bit? r (30 - k) then bxor r (0x8FAF * 2 ^ (15 - k)) else r) c

/-- R172: the 32 bits of a header, bit 31 first on air. -/
def dlEncodeHeader (h : Nat) : Nat :=
  let c := h * 2 ^ 15 + bchRem (h * 2 ^ 15)
  2 * c + popcount c % 2

/-- The 8 chips of a header bit (R172). -/
def dlChips (b : Nat) : List Nat := if b = 0 then [0, 1, 0, 0, 1, 0, 1, 1] else [1, 0, 1, 1, 0, 1, 0, 0]

/-- The bits of a number, bit `n` − 1 first. -/
def msbBits (n x : Nat) : List Nat := (List.range n).map fun i => x / 2 ^ (n - 1 - i) % 2

/-- The correlation of 8 received soft chips, positive for 0, with the chips of a 0 bit (R173). -/
def chipSum (l : List Int) : Int :=
  ((l.zip (dlChips 0)).map fun x => if x.2 = 0 then x.1 else -x.1).foldl (· + ·) 0

/-- The correlations of the 32 header bits, bit 31 first. -/
def headerSums (chips : List Int) : List Int := (List.range 32).map fun k => chipSum ((chips.drop (8 * k)).take 8)

/-- The header bits by the signs of their correlations; a sum of 0 has none and takes the bit of `free` in its place.
DESIGN CHOICE: log 175. -/
def headerBits (free : Nat) (sums : List Int) : Nat :=
  (sums.zipIdx.map fun x => if x.1 < 0 ∨ (x.1 = 0 ∧ bit? free (31 - x.2)) then 2 ^ (31 - x.2) else 0).foldl (· + ·) 0

/-- The positions of at most three errors that explain a syndrome of the 31-bit word. -/
def bchErrors (syn : Nat) : Option (List Nat) :=
  let x (i : Nat) : Nat := bchRem (2 ^ i)
  let pos := List.range 31
  if syn = 0 then some []
  else match pos.find? fun i => x i == syn with
    | some i => some [i]
    | none =>
      let pairs := pos.flatMap fun i => (List.range i).map fun j => (i, j)
      match pairs.find? fun p => bxor (x p.1) (x p.2) == syn with
      | some p => some [p.1, p.2]
      | none => pairs.findSome? fun p =>
        ((List.range p.2).find? fun k => bxor (bxor (x p.1) (x p.2)) (x k) == syn).map fun k => [p.1, p.2, k]

/-- R173: the header of 32 received bits, when it is accepted. -/
def dlDecodeHeader (w : Nat) : Option Nat :=
  let c := w / 2 % 2 ^ 31
  match bchErrors (bchRem c) with
  | none => none
  | some es =>
    let c' := es.foldl (fun a i => bxor a (2 ^ i)) c
    let h := c' / 2 ^ 15
    if (popcount c' + w % 2) % 2 = 0 ∧ dlIndex h ≤ dlTotal h then some h else none

/-! ## The LDPC codes (R176, R177) -/

/-- The base graph of rate 1/2: for each row the block columns with an entry, and the entry (Table CODE-4). -/
def base12 : List (List (Nat × Nat)) := [
  [(0, 17), (1, 3), (3, 40), (6, 22), (9, 9), (11, 31), (12, 1), (13, 0)],
  [(1, 28), (2, 11), (4, 45), (7, 6), (10, 37), (13, 0), (14, 0)],
  [(0, 5), (3, 19), (5, 33), (8, 14), (11, 26), (14, 0), (15, 0)],
  [(0, 41), (1, 12), (4, 8), (6, 30), (9, 47), (15, 0), (16, 0)],
  [(1, 36), (2, 25), (7, 43), (8, 2), (10, 18), (16, 0), (17, 0)],
  [(0, 29), (3, 7), (5, 39), (9, 21), (11, 13), (12, 0), (17, 0), (18, 0)],
  [(0, 10), (1, 44), (4, 34), (6, 15), (11, 4), (18, 0), (19, 0)],
  [(1, 20), (2, 38), (7, 27), (8, 46), (10, 1), (19, 0), (20, 0)],
  [(0, 35), (3, 24), (5, 16), (9, 32), (11, 42), (20, 0), (21, 0)],
  [(0, 23), (1, 0), (4, 11), (8, 39), (10, 26), (21, 0), (22, 0)],
  [(1, 31), (2, 8), (6, 45), (7, 12), (11, 19), (22, 0), (23, 0)],
  [(0, 2), (3, 33), (5, 28), (9, 14), (12, 1), (23, 0)]]

/-- The base graph of rate 2/3 (Table CODE-5). -/
def base23 : List (List (Nat × Nat)) := [
  [(0, 7), (1, 31), (2, 18), (4, 44), (5, 3), (6, 26), (7, 12), (9, 39), (10, 21), (11, 9), (12, 1), (13, 0)],
  [(0, 40), (1, 15), (3, 28), (4, 6), (5, 33), (7, 47), (8, 19), (9, 2), (10, 35), (13, 0), (14, 0)],
  [(0, 22), (2, 37), (3, 11), (4, 29), (6, 41), (7, 5), (8, 30), (10, 16), (11, 45), (14, 0), (15, 0)],
  [(0, 13), (1, 46), (2, 4), (3, 36), (5, 20), (6, 8), (8, 42), (9, 27), (11, 24), (12, 0), (15, 0), (16, 0)],
  [(1, 25), (2, 43), (3, 17), (4, 38), (5, 10), (6, 32), (7, 23), (9, 14), (10, 1), (11, 34), (16, 0), (17, 0)],
  [(0, 0), (1, 19), (3, 30), (4, 12), (5, 44), (7, 36), (8, 7), (9, 41), (10, 28), (12, 1), (17, 0)]]

def baseOf (rate : Nat) : List (List (Nat × Nat)) := if rate = 0 then base12 else base23

/-- The number of block columns, and of coded bits, of a rate. -/
def dlCols (rate : Nat) : Nat := if rate = 0 then 24 else 18
def dlBits (rate : Nat) : Nat := 48 * dlCols rate

/-- A block of 48 bits as a list; rot(v, s)[i] = v[(i + s) mod 48]. -/
def rot (v : List Nat) (k : Nat) : List Nat := v.drop k ++ v.take k

def xorBits (a b : List Nat) : List Nat := List.zipWith bxor a b

def zeros48 : List Nat := List.replicate 48 0

/-- The blocks of 48 bits of a codeword. -/
def blocks (l : List Nat) : Nat → List (List Nat)
  | 0 => []
  | n + 1 => l.take 48 :: blocks (l.drop 48) n

/-- The sum of a row of H over the block columns below `lim`. -/
def rowSum (bs : List (List Nat)) (lim : Nat) (row : List (Nat × Nat)) : List Nat :=
  row.foldl (fun acc e => if e.1 < lim then xorBits acc (rot (bs.getD e.1 zeros48) e.2) else acc) zeros48

/-- H · c = 0: the syndrome of the coded bits is zero (R176). -/
def syndromeZero (rate : Nat) (c : List Nat) : Bool :=
  let bs := blocks c (dlCols rate)
  (baseOf rate).all fun row => (rowSum bs 24 row).all (· == 0)

/-- The parity blocks p[2] and on, from λ[1] on (R177): `p0` the first block, `prev` the one before, `j` its row. -/
def parityRest (mid : Nat) (p0 : List Nat) : Nat → List Nat → List (List Nat) → List (List Nat)
  | _, _, [] => []
  | _, _, [_] => []
  | j, prev, lam :: rest =>
    let next := xorBits (xorBits lam prev) (if j = mid then p0 else zeros48)
    next :: parityRest mid p0 (j + 1) next rest

/-- R177: the codeword of 576 information bits. -/
def ldpcEncode (rate : Nat) (u : List Nat) : List Nat :=
  let bs := blocks u 12
  let lam := (baseOf rate).map (rowSum bs 12)
  let p0 := lam.foldl xorBits zeros48
  let p1 := xorBits (lam.getD 0 zeros48) (rot p0 1)
  u ++ p0 ++ p1 ++ (parityRest (if rate = 0 then 5 else 3) p0 1 p1 (lam.drop 1)).flatten

/-! ## Interleaving and whitening (R178, R179) -/

/-- R178: the on-air position of coded bit `k` within its codeword. -/
def dlPos (rate k : Nat) : Nat := dlCols rate * (7 * (k % 48) % 48) + k / 48

/-- R179: the first `n` bits of the PN9 sequence from a register. -/
def pn9 : Nat → Nat → List Nat
  | 0, _ => []
  | n + 1, reg => reg % 2 :: pn9 n (reg / 2 + (reg % 2 + reg / 32 % 2) % 2 * 256)

/-- An LLR of 6 bits (R182). -/
def sat31 (x : Int) : Int := min 31 (max (-31) x)

/-- The LLRs of a copy by codeword: whitening removed, coded bit `k` taken from position π(k). -/
def dlReceive (rate words : Nat) (llrs : List Int) : List (List Int) :=
  let n := dlBits rate
  let plain := (List.zipWith (fun (x : Int) (b : Nat) => if b = 1 then -sat31 x else sat31 x) llrs
    (pn9 (words * n) 0x1FF)).toArray
  (List.range words).map fun i => (List.range n).map fun k => plain.getD (n * i + dlPos rate k) 0

/-! ## The payload (R174, R175) -/

/-- Octets as bits, least significant first. -/
def octetBits (l : List Nat) : List Nat := l.flatMap fun b => (List.range 8).map fun i => b / 2 ^ i % 2

/-- Bits as octets, least significant first. -/
def bitOctets : List Nat → List Nat
  | b0 :: b1 :: b2 :: b3 :: b4 :: b5 :: b6 :: b7 :: rest =>
    (b0 + 2 * b1 + 4 * b2 + 8 * b3 + 16 * b4 + 32 * b5 + 64 * b6 + 128 * b7) :: bitOctets rest
  | _ => []

/-- NCW for a PSDU of `len` octets (R174). -/
def dlWordsFor (len : Nat) : Nat := cdiv (2 + len) 72

/-- R175: the PSDU of the information octets of all codewords, when the frame check passes. -/
def dlFrameCheck (words : Nat) (info : List Nat) : Option (List Nat) :=
  let pl := info.getD 0 0 + 256 * info.getD 1 0
  let len := pl % 512
  let psdu := (info.drop 2).take len
  if 6 ≤ len ∧ len ≤ 286 ∧ pl / 512 = 0 ∧ words = dlWordsFor len ∧ ((info.drop (2 + len)).all (· == 0)) ∧
      fcsPasses psdu then some psdu
  else none

/-- The payload bits of a copy of a PSDU as sent on air (R174, R177 to R179). -/
def dlPayload (rate : Nat) (psdu : List Nat) : List Nat :=
  let words := dlWordsFor psdu.length
  let info := leOctets 2 psdu.length ++ psdu
  let bits := octetBits (info ++ List.replicate (72 * words - info.length) 0)
  let n := dlBits rate
  let coded := (List.range words).map fun i => (ldpcEncode rate ((bits.drop (576 * i)).take 576)).toArray
  -- the position p of a codeword carries the coded bit k with π(k) = p: row p / nb, block column p mod nb
  let sent := coded.flatMap fun c => (List.range n).map fun pos =>
    c.getD (48 * (pos % dlCols rate) + 7 * (pos / dlCols rate) % 48) 0
  xorBits sent (pn9 (words * n) 0x1FF)

/-- A whole copy on air (Table CODE-2): preamble with its extension of `ext` bits, sync word, spread header, payload. -/
def dlCopyBits (sync h ext : Nat) (psdu : List Nat) : List Nat :=
  octetBits (List.replicate ((64 + ext) / 8) 0x55) ++ msbBits 32 sync ++ (msbBits 32 (dlEncodeHeader h)).flatMap dlChips ++
    dlPayload (dlRate h) psdu

/-! ## The decoder (R186): layered offset min-sum. DESIGN CHOICE: log 60. -/

/-- A message of 8 bits. DESIGN CHOICE: log 60. -/
def sat127 (x : Int) : Int := min 127 (max (-127) x)

/-- The messages that a check sends back: the smallest magnitude of the others less the offset, with the product of their signs.
DESIGN CHOICE: log 60. -/
def checkOut (offset : Nat) (qs : List Int) : List Int := (List.range qs.length).map fun e =>
  let others := qs.eraseIdx e
  let m : Int := ((others.foldl (fun a q => min a q.natAbs) 127 - offset : Nat) : Int)
  if (others.filter fun q => decide (q < 0)).length % 2 = 1 then -m else m

/-- Row `z` of layer `i`: the values of its bits and its stored messages take their new values. DESIGN CHOICE: log 60. -/
def checkRow (offset : Nat) (row : List (Nat × Nat)) (i z : Nat) (x : Array Int × Array (List Int)) : Array Int × Array (List Int) :=
  let at_ := row.map fun e => 48 * e.1 + (z + e.2) % 48
  let old := x.2.getD (48 * i + z) []
  let qs := at_.zipIdx.map fun v => sat127 (x.1.getD v.1 0 - old.getD v.2 0)
  let new := checkOut offset qs
  (((at_.zip (List.zipWith (· + ·) qs new)).foldl (fun l v => l.setIfInBounds v.1 v.2) x.1), x.2.setIfInBounds (48 * i + z) new)

/-- One iteration: the base rows in order as layers. -/
def minSumPass (rate offset : Nat) (x : Array Int × Array (List Int)) : Array Int × Array (List Int) :=
  (baseOf rate).zipIdx.foldl (fun y r => (List.range 48).foldl (fun w z => checkRow offset r.1 r.2 z w) y) x

/-- Iterations until the syndrome is zero, at most so many: whether it is, how many ran, and the hard decisions. -/
def minSumRun (rate offset : Nat) : Nat → Nat → Array Int × Array (List Int) → Bool × Nat × List Nat
  | 0, k, x => (false, k, x.1.toList.map fun v => if v < 0 then 1 else 0)
  | n + 1, k, x =>
    let y := minSumPass rate offset x
    let hard := y.1.toList.map fun v => if v < 0 then 1 else 0
    if syndromeZero rate hard then (true, k + 1, hard) else minSumRun rate offset n (k + 1) y

/-- A decode of loaded values. DESIGN CHOICE: log 60. -/
def minSum (rate offset limit : Nat) (vals : List Int) : Bool × Nat × List Nat :=
  minSumRun rate offset limit 0 (vals.toArray, (List.replicate (48 * (baseOf rate).length) []).toArray)

/-! ## The lottery arbiter (R440) -/

/-- The next value of the arbiter's LFSR. -/
def lfsr32 (x : Nat) : Nat :=
  (2 * x + (x / 2 ^ 31 + x / 2 ^ 21 + x / 2 + x) % 2) % 2 ^ 32

/-- The waiting requester whose head request was posted first; the lower number on a tie. Requesters are given as number,
posting instant and tickets, in ascending number. -/
def longestWaiting : List (Nat × Nat × Nat) → Option Nat
  | [] => none
  | x :: rest => some (rest.foldl (fun (b : Nat × Nat × Nat) y => if y.2.1 < b.2.1 then y else b) x).1

/-- The first requester whose running ticket sum exceeds `r`. -/
def drawn (r : Nat) : Nat → List (Nat × Nat × Nat) → Option Nat
  | _, [] => none
  | sum, x :: rest => if r < sum + x.2.2 then some x.1 else drawn r (sum + x.2.2) rest

/-- One decision: the requester granted, whether it was a longest-waiter turn, and the arbiter after it. -/
def arbDecide (arbN : Nat) (a : ArbSt) (waiting : List (Nat × Nat × Nat)) : Option Nat × Bool × ArbSt :=
  let x := lfsr32 a.lfsr
  let total := (waiting.map fun w => w.2.2).foldl (· + ·) 0
  let oldest := total == 0 || (a.grants + 1) % arbN == 0
  (if oldest then longestWaiting waiting else drawn (x % total) 0 waiting, oldest, ⟨x, a.grants + 1⟩)

/-- The seed of arbiter instance `k`. -/
def arbSeed (k : Nat) : Nat :=
  let u := Config.uid.toNat
  let x := bxor (bxor (u % 2 ^ 32) (u / 2 ^ 32)) k
  if x = 0 then 1 else x

/-- Instance `k` decides among the waiting requesters and grants one. -/
def arbGrant (k : Nat) (waiting : List (Nat × Nat × Nat)) (grant : Nat → Act) : Act := .read fun s =>
  let d := arbDecide (s.rd (R.ARB_N k)) (s.eng.arb.at k ⟨arbSeed k, 0⟩) waiting
  match d.1 with
  | none => .skip
  | some w => acts [eng fun e => { e with arb := e.arb.set k d.2.2 }, inc (R.ARB_GRANTS k),
      onlyIf d.2.1 (inc (R.ARB_OLDEST k)), grant w]

end Sys2Proof.Machine
end

