-- ==== Sys2Proof/Machine/Lanes.lean ====
section
/-! DEFINITION. The channelizer and the lane pool (06_channelizer_lanes.md R142 to R165): mode descriptors, bindings,
frames in progress, their ends and their records. -/

namespace Sys2Proof.Machine

/-- Leave a signal for another engine. -/
def note (n : Note) : Act := eng fun e => { e with notes := e.notes ++ [n] }

/-! ## Mode descriptors (Tables CHAN-2 and CHAN-3, R146) -/

def modeFamily (d : Nat) : Nat := fld d 63 60

/-- The MCS that the standard allows for a SUN OFDM option (Table CHAN-2). -/
def mcsAllowed (option : Nat) : Nat :=
  if option = 1 then 0x0F else if option = 2 then 0x3F else if option = 3 then 0x7E else if option = 4 then 0x7C else 0

/-- R146: the descriptor is valid. -/
def modeValid (d : Nat) : Bool :=
  fld d 43 0 == 0 && match modeFamily d with
  | 1 =>
    let order := fld d 59 59
    let rate := fld d 58 56
    let index := fld d 55 48
    decide (rate ≤ 3) &&
      ((order == 0 && (index == 32 || index == 64)) || (order == 1 && decide (1 ≤ rate) && index == 21))
  | 2 =>
    let mask := fld d 54 48
    fld d 55 55 == 0 && fld d 46 44 == 0 && mask != 0 && decide (1 ≤ fld d 59 56) && decide (fld d 59 56 ≤ 4) &&
      bclr mask (mcsAllowed (fld d 59 56)) == 0
  | 3 => decide (fld d 59 58 ≤ 2) && fld d 56 56 == 0 && fld d 55 52 == 0 && fld d 51 48 != 0 && fld d 47 44 == 0
  | 4 => fld d 59 44 == 0
  | 5 => fld d 59 44 == 0
  | _ => false

/-- A mode names one rate mode or MCS. -/
def oneRate (mode : Nat) : Bool :=
  match modeFamily mode with
  | 2 => popcount (fld mode 54 48) == 1
  | 3 => popcount (fld mode 51 48) == 1
  | _ => true

/-- R145: the family is accepted in the band. -/
def modeInBand (band d : Nat) : Bool :=
  match modeFamily d with
  | 1 | 2 | 3 => true
  | 4 => band == 1
  | 5 => band == 0
  | _ => false

/-- The passband limit of a family in Hz (Table CHAN-2). -/
def familyPassband (d : Nat) : Nat :=
  match modeFamily d with
  | 1 => 800000
  | 2 => 1200000
  | 3 | 4 => 2400000
  | _ => 25000

/-- R558, R174: the largest PSDU of a family. -/
def familyMaximum (d : Nat) : Nat := if modeFamily d = 4 then 127 else if modeFamily d = 5 then 286 else 2047

/-- R560: the descriptor a transmission uses: without FEC, scheme and interleaving are ignored. -/
def modeOnAir (d : Nat) : Nat := if modeFamily d = 1 ∧ ¬ bit? d 47 then setFld d 46 45 0 else d

/-- The mode's frames pass a code of Table CODE-1: SUN FSK with an SFD that marks FEC, SUN OFDM, SUN O-QPSK (R166). -/
def modeCoded (d : Nat) : Bool := (modeFamily d == 1 && bit? d 47) || modeFamily d == 2 || modeFamily d == 3

/-! ## Channel plans (R142) -/

/-- The centre of plan channel `n` of port `p` in Hz. -/
def State.planFreq (s : State) (p n : Nat) : Nat := s.rd (R.CP_CH0 p) + n * s.rd (R.CP_SPACING p)

/-- The receive centre of a port (Table PORT-1). -/
def State.rxCentre (s : State) (p : Nat) : Nat :=
  if s.rd (R.P_BAND p) = 1 then 2441750000 else s.rd (R.P_RX_CENTRE p)

/-- R142: the passband of a stream; without a mode no family limits it. DESIGN CHOICE: log 193. -/
def State.streamWidth (s : State) (p d : Nat) : Nat :=
  if d = 0 then s.rd (R.CP_SPACING p) else min (s.rd (R.CP_SPACING p)) (familyPassband d)

/-- R142: a stream of the port on plan channel `n`, moved by `off` Hz, is receivable in mode `d`. -/
def State.receivable (s : State) (p n : Nat) (off : Int) (d : Nat) : Bool :=
  let f : Int := (s.planFreq p n : Int) + off
  let dist := (f - (s.rxCentre p : Int)).natAbs
  decide (n < s.rd (R.CP_COUNT p)) &&
    decide (2 * dist + s.streamWidth p d ≤
      (if s.rd (R.P_BAND p) = 1 then 84000000 else 30000000))

/-- A lane can serve plan channel `n` in mode `d` at port `p`. -/
def State.servable (s : State) (p n : Nat) (off : Int) (d : Nat) : Bool :=
  modeValid d && modeInBand (s.rd (R.P_BAND p)) d && s.receivable p n off d

/-- R149: the FIXED lanes of port `p`, lowest first. FIXED is not the default of LM_BIND, so each is listed. -/
def State.fixedLanes (s : State) (p : Nat) : List Nat :=
  ((s.objs.filter fun e => e.1.idx == 0x1410 && e.1.mem == 1).map fun e => e.1.inst).filter fun l =>
    s.rd (R.LM_BIND l) == 0 && s.rd (R.LM_PORT l) == p

/-- The lanes with LM_PORT `p` (R148), lowest first. -/
def State.portLanes (s : State) (p : Nat) : List Nat :=
  let own := (List.range 64).map fun k => 64 * p + k
  let moved := (s.objs.filter fun e => e.1.idx == 0x1410 && e.1.mem == 0 && e.1.inst / 64 != p).map fun e => e.1.inst
  ((moved.filter fun l => decide (l < 64 * p)) ++ own ++ moved.filter fun l => decide (64 * p ≤ l)).filter fun l => s.rd (R.LM_PORT l) == p

/-- R149: the first lane for which the lane map of port `p` cannot be served: the lowest FIXED lane that fails, then the 129th lane.
DESIGN CHOICE: log 194. -/
def State.laneMapFault (s : State) (p : Nat) : Option Nat :=
  let fixed := s.fixedLanes p
  let same (a b : Nat) : Bool := s.rd (R.LM_CHANNEL a) == s.rd (R.LM_CHANNEL b) &&
    s.rd (R.LM_OFFSET a) == s.rd (R.LM_OFFSET b) && s.rd (R.LM_MODE a) == s.rd (R.LM_MODE b)
  let bad (l : Nat) : Bool :=
    let off := s.rdi (R.LM_OFFSET l)
    let mode := s.rd (R.LM_MODE l)
    decide (s.rd (R.CP_SPACING p) < 2 * off.natAbs) ||
      (mode != 0 && !(modeInBand (s.rd (R.P_BAND p)) mode)) || !(s.receivable p (s.rd (R.LM_CHANNEL l)) off mode) ||
      fixed.any fun k => decide (k < l) && same k l
  match fixed.find? bad with
  | some l => some l
  | none => ((s.portLanes p).drop 128).head?

/-- The ports a write to a lane-map or plan object, which are TXN, bears on (R144, R149). -/
def State.lanePorts (s : State) (r : Ref) : List Nat :=
  if r.idx = 0x1410 then [s.rd (R.LM_PORT r.inst)] else if r.idx = 0x1400 ∧ r.mem ≤ 2 then [r.inst] else []

/-- R149, R100: the object that fails the commit whose outcome would be `s`, the ports judged in the order in which the written objects name
them. DESIGN CHOICE: log 194. -/
def State.laneCommitFault (s : State) (refs : List Ref) : Option Ref :=
  let ports := ((refs.flatMap s.lanePorts).eraseDups).filter (· < 24)
  (ports.findSome? s.laneMapFault).map fun l => R.LM_PORT l

/-! ## Lane states (Table CHAN-6) -/

/-- A lane that holds nothing. -/
def laneIdle : LaneSt := ⟨.none, false, none⟩

def State.lane (s : State) (l : Nat) : LaneSt := s.eng.lane.lanes.at l laneIdle

/-- Change the lane engine. -/
def setLaneEng (f : LaneEng → LaneEng) : Act := eng fun e => { e with lane := f e.lane }

def setLane (l : Nat) (x : LaneSt) : Act := setLaneEng fun g =>
  { g with lanes := if x = laneIdle then g.lanes.clear l else g.lanes.set l x }

/-- The lanes of port `p` with a frame in progress, lowest first. -/
def State.busyLanes (s : State) (p : Nat) : List Nat :=
  (s.eng.lane.lanes.filter fun e => e.2.frame.isSome && s.rd (R.L_PORT e.1) == p).map (·.1)

/-- The lanes of port `p` in SYNC or RX, not those in DRAIN (Table CHAN-6). -/
def State.rxLanes (s : State) (p : Nat) : List Nat := (s.busyLanes p).filter fun l => s.rd (R.L_STATE l) != 5

/-- L_STATE takes a value, and the counts of busy, floating and draining lanes follow. -/
def setLaneState (l v : Nat) : Act := .read fun s =>
  let old := s.rd (R.L_STATE l)
  acts [wr (R.L_STATE l) v,
    onlyIf (old == 0 && v != 0) (.read fun s => wr R.POOL_FLOATING (s.rd R.POOL_FLOATING - 1)),
    onlyIf (old != 0 && v == 0) (inc R.POOL_FLOATING),
    onlyIf (old == 5 && v != 5) (.read fun s => wr R.POOL_DRAINING (s.rd R.POOL_DRAINING - 1)),
    onlyIf (old != 5 && v == 5) (inc R.POOL_DRAINING)]

/-- CZ_BUSY shows the lanes of the port in SYNC, RX or DRAIN. -/
def countBusy (p : Nat) : Act := .read fun s => onlyIf (decide (p < 24)) (wr (R.CZ_BUSY p) (s.busyLanes p).length)

/-- The port receives: its receiver has started and is not stopped. -/
def State.receiving (s : State) (p : Nat) : Bool := decide (2 ≤ s.rd (R.P_STATE p))

/-- A lane without a frame takes the state its map and bindings give it (R148 to R152, R149 for a stream that is not
receivable). DEDUCED: log 58. -/
def settleLane (l : Nat) : Act := .read fun s =>
  let p := s.rd (R.LM_PORT l)
  let x := s.lane l
  if 24 ≤ p then acts [wr (R.L_PORT l) 255, setLane l laneIdle, setLaneState l 0]
  else if s.rd (R.LM_BIND l) = 0 then
    let mode := s.rd (R.LM_MODE l)
    acts [wr (R.L_PORT l) p, setLane l laneIdle,
      if s.receiving p && mode != 0 && s.servable p (s.rd (R.LM_CHANNEL l)) (s.rdi (R.LM_OFFSET l)) mode then
        acts [wr (R.L_CHANNEL l) (s.rd (R.LM_CHANNEL l)), wr (R.L_MODE l) mode, setLaneState l 2]
      else setLaneState l 1]
  else if x.bind ≠ .none ∧ ¬ x.ovr ∧ s.rd (R.L_PORT l) = p then setLaneState l 2
  else acts [wr (R.L_PORT l) p, setLane l laneIdle, setLaneState l 1]

/-- The AGC leaves FROZEN when no lane of the port has a frame in progress (R133). -/
def thawAgc (p : Nat) : Act := .read fun s =>
  onlyIf (s.rd (R.AGC_STATE p) == 2 && (s.busyLanes p).isEmpty) (wr (R.AGC_STATE p) 1)

/-- R162: LQI := min(255, max(0, round(8 × (snr + 4)))), the SNR being `RSSI − L_NOISE` quarters of a dB. -/
def lqiOf (rssi noise : Int) : Nat := (min 255 (max 0 (2 * (rssi - noise) + 32))).toNat

/-- R162: a level at the antenna plane saturates at −696 and 40. -/
def satLevel (x : Int) : Int := min 40 (max (-696) x)

/-- R162, R559: the level at the antenna plane of a stream of port `p` whose level ahead of the digital gain is `lvl` quarter dB from full
scale. -/
def State.planeLevel (s : State) (p : Nat) (lvl : Int) : Int :=
  satLevel (lvl - 4 * (s.rd (R.AGC_GAIN p) : Int) - 40 - s.rdi (R.CP_FE_GAIN p))

/-- R162, R559: RSSI of a stream whose level is `lvl` quarter dB from full scale. -/
def State.rssiOf (s : State) (l : Nat) (lvl : Int) : Int := s.planeLevel (s.rd (R.L_PORT l)) (lvl - s.rdi (R.L_DGAIN l))

/-- The words of a receive record (Table CHAN-8). -/
def recordWords (r : RxRecord) : List Nat :=
  [r.status * 2 ^ 56 + r.port * 2 ^ 51 + r.lane * 2 ^ 40 + r.channel * 2 ^ 30 + r.len % 2048 * 2 ^ 19,
    r.mode,
    unsgn 16 r.rssi * 2 ^ 48 + r.lqi * 2 ^ 40 + unsgn 32 r.cfo] ++ t112 r.tSof ++ t112 r.tDet ++
    (octetsToWords r.psdu).map BitVec.toNat

/-- The counter of a receive status (Table CHAN-10). -/
def statusCounter (l status : Nat) : Ref :=
  match status with
  | 0 => R.FRAMES_OK l
  | 1 => R.FCS_FAIL l
  | 2 => R.HDR_FAIL l
  | 3 => R.UNSUPPORTED l
  | 4 => R.ENDED_BREAK l
  | 5 => R.ENDED_BLANK l
  | _ => R.ENDED_LOST l

/-- A record joins the lane output queue of its tile, or is lost (R160, R161). -/
def pushRecord (r : RxRecord) : Act := .read fun s =>
  let tile := r.port / 6
  let q := s.eng.lane.queues.at tile []
  if q.length < 256 then
    acts [wr (R.L_LAST r.lane) r.status, setLaneEng fun g => { g with queues := g.queues.set tile (q ++ [r]) }]
  else acts [inc (R.OVERRUN r.lane),
    wr (R.L_LAST r.lane) (if 4 ≤ r.status then r.status else 7),
    raiseMs tile 0x0502 tile (tile + r.lane * 65536)]

/-- After a frame the lane goes on: back to its stream, or to the owner its map gives it (R150, R152). -/
def afterFrame (l p : Nat) : Act := .read fun s =>
  let x := s.lane l
  acts [setLane l { x with frame := none }, setLaneEng fun g => { g with heardTo := g.heardTo.set l s.devTime },
    settleLane l, countBusy p, thawAgc p]

/-- The DCLK cycle of the present instant: 800 MHz (R187). DEDUCED: log 173. -/
def State.dclk (s : State) : Nat := s.now * 4 / 5

/-- The frame of a lane that ended in the present DCLK cycle. -/
def State.endedNow (s : State) (l : Nat) : Option LaneEnd :=
  s.eng.lane.ends.find? fun e => e.lane == l && e.cycle == s.dclk && (s.lane l).frame.isNone

/-- The rank of a cause (R160). -/
def causeRank (status : Nat) : Nat := if status = 6 then 0 else if status = 5 then 1 else if status = 4 then 2 else if status = 7 then 3 else 4

/-- The last record of a lane in a queue takes another status, and loses its octets. -/
def restate (l status : Nat) (q : List RxRecord) : List RxRecord :=
  match (q.zipIdx.filter fun x => x.1.lane == l).getLast? with
  | some x => q.set x.2 { x.1 with status := status, psdu := [] }
  | none => q

/-- A Deep Link copy of a lane that ended in the present DCLK cycle. -/
def State.copyNow (s : State) (l : Nat) (c : DlCopy) : Bool := c.lane == l && c.ended * 4 / 5 == s.dclk

/-- A further cause in the DCLK cycle in which a frame ended: it counts, and the frame takes the cause that ranks first (R160).
DEDUCED: log 173. -/
def alsoEnds (l status : Nat) : Act := .read fun s =>
  match s.endedNow l with
  | none => .skip
  | some e => onlyIf (!(e.causes.contains status)) (acts [inc (statusCounter l status),
      setLaneEng fun g => { g with ends := g.ends.map fun x => if x.lane = l then { x with causes := x.causes ++ [status] } else x },
      onlyIf (e.causes.all fun c => decide (causeRank status < causeRank c)) (acts [wr (R.L_LAST l) status,
        onlyIf (s.eng.lane.copies.any (s.copyNow l)) (.read fun s => wr (R.LLR_COPIES l) (s.rd (R.LLR_COPIES l) - 1)),
        onlyIf e.queued (setLaneEng fun g => { g with queues := g.queues.set (e.port / 6) (restate l status (g.queues.at (e.port / 6) [])) }),
        setLaneEng fun g => { g with copies := g.copies.filter fun c => !(s.copyNow l c) }])])

/-- A frame in progress ends with a status of Table CHAN-7 and, where it ended well, its octets; where it has ended in this very DCLK cycle,
the cause still counts. -/
def endFrame (l status : Nat) (psdu : List Nat) : Act := .read fun s =>
  match (s.lane l).frame with
  | none => alsoEnds l status
  | some f =>
    let p := s.rd (R.L_PORT l)
    let deep := modeFamily f.mode == 5
    acts [inc (statusCounter l status),
      if deep then wr (R.L_LAST l) status
      else pushRecord ⟨status, p, l, s.rd (R.L_CHANNEL l), if f.tSof.isSome then f.len else 0, f.mode, f.rssi,
        lqiOf f.rssi (s.rdi (R.L_NOISE l)), f.cfo, f.tSof.getD 0, f.tDet, (s.lane l).bind, psdu, none⟩,
      setLaneEng fun g => { g with ends := (g.ends.filter fun e => e.cycle == s.dclk && e.lane != l) ++ [⟨l, s.dclk, p, [status], f,
        !deep && decide ((s.eng.lane.queues.at (p / 6) []).length < 256)⟩] },
      afterFrame l p]

/-- The frames that ended on the port in this DCLK cycle: a further cause meets them too. -/
def alsoEndsPort (p status : Nat) : Act := .read fun s =>
  forAll ((s.eng.lane.ends.filter fun e => e.port == p && e.cycle == s.dclk).map (·.lane)) fun l => alsoEnds l status

/-- Every frame in progress on the port ends with a status. -/
def endPortFrames (p status : Nat) : Act := acts [alsoEndsPort p status, .read fun s => forAll (s.busyLanes p) fun l => endFrame l status []]

/-- The lanes of a port that stops receiving: frames in progress end LOST_SAMPLES, and every lane becomes UNBOUND. -/
def stopLanes (p : Nat) : Act := acts [endPortFrames p 6, .read fun s =>
  forAll ((s.objs.filter fun e => e.1.idx == 0x1411 && e.1.mem == 0).map fun e => e.1.inst) fun l => .read fun s =>
    onlyIf (s.rd (R.L_PORT l) == p && s.rd (R.L_STATE l) == 2) (acts [setLane l laneIdle, setLaneState l 1])]

/-- The FIXED lanes of a port that starts listen (R151, R149). -/
def startLanes (p : Nat) : Act := .read fun s => forAll (s.fixedLanes p) settleLane

/-- R152, R212: bind the lowest free SCHEDULED lane of a port. -/
def State.freeLane (s : State) (p : Nat) : Option Nat :=
  (s.portLanes p).find? fun l => s.rd (R.LM_BIND l) == 1 && s.rd (R.L_STATE l) == 1 && s.rd (R.L_PORT l) == p

/-- A SCHEDULED lane takes a binding and listens. -/
def bindLane (l : Nat) (b : LaneFor) (channel mode : Nat) : Act := acts [setLane l ⟨b, false, none⟩,
  wr (R.L_CHANNEL l) channel, wr (R.L_MODE l) mode, setLaneState l 2]

/-- A binding ends: the lane becomes UNBOUND, or its binding ends with its frame (R152). -/
def unbindLane (l : Nat) : Act := .read fun s =>
  let x := s.lane l
  if x.frame.isSome then setLane l { x with ovr := true }
  else acts [setLane l laneIdle, settleLane l]

/-- The lanes bound to `b`. -/
def State.boundLanes (s : State) (b : LaneFor) : List Nat :=
  (s.eng.lane.lanes.filter fun e => e.2.bind == b).map (·.1)

/-! ## The lane map applies (R150, R144) -/

/-- One lane whose LM_PORT, LM_BIND, LM_CHANNEL, LM_MODE or LM_OFFSET was applied. -/
def laneApplied (s0 : State) (l : Nat) : Act := .read fun s =>
  let p0 := s0.rd (R.LM_PORT l)
  let p1 := s.rd (R.LM_PORT l)
  let drop (c : Ref) : Act := .read fun s => wr c (s.rd c - 1)
  acts [
    onlyIf (p0 != p1 && decide (p0 < 24)) (drop (R.CZ_LANES p0)),
    onlyIf (p0 != p1 && decide (p1 < 24)) (inc (R.CZ_LANES p1)),
    onlyIf (decide (p0 < 24) && s0.rd (R.LM_BIND l) == 1) (drop (R.CZ_SCHED p0)),
    onlyIf (decide (p1 < 24) && s.rd (R.LM_BIND l) == 1) (inc (R.CZ_SCHED p1)),
    if (s.lane l).frame.isSome then onlyIf (p0 != p1 && s.rd (R.L_STATE l) != 5) (setLaneState l 5)
    else settleLane l]

/-- A lane map applies: its lanes move, and event 0x0501 counts those that changed owner. -/
def laneMapApplied (s0 : State) (refs : List Ref) : Act := .read fun s =>
  let lanes := ((refs.filter fun r => r.idx == 0x1410).map fun r => r.inst).eraseDups
  if lanes.isEmpty then .skip
  else acts [forAll lanes (laneApplied s0),
    raise 0x0501 0 (lanes.filter fun l => s0.rd (R.LM_PORT l) != s.rd (R.LM_PORT l)).length]

/-- A plan applies: the lanes of the port without a frame take it (R144). -/
def planApplied (p : Nat) : Act := .read fun s =>
  forAll ((s.fixedLanes p).filter fun l => (s.lane l).frame.isNone) settleLane

/-! ## Detection and reception -/

/-- The digital gain at which the loop of a port's lane stands for a stream level `lvl`: it brings the stream to CP_DG_TARGET, within 0 to
48 dB (R154). -/
def State.dgainFor (s : State) (p : Nat) (lvl : Int) : Int := min 192 (max 0 (s.rdi (R.CP_DG_TARGET p) - lvl))

/-- L_DGAIN: the loop follows the input while the lane is in LISTEN, and else stands where the detection froze it (R154).
DESIGN CHOICE: log 196. -/
def State.dgain (s : State) (l : Nat) : Nat :=
  if s.rd (R.L_STATE l) = 2 then unsgn 64 (s.dgainFor (s.rd (R.L_PORT l)) (Config.streamLevel l s.now)) else s.rd (R.L_DGAIN l)

/-- L_NOISE: the average over the stream while the lane is in LISTEN, and else what the detection held (R162).
DESIGN CHOICE: log 196. -/
def State.noiseFloor (s : State) (l : Nat) : Nat :=
  if s.rd (R.L_STATE l) = 2 then unsgn 64 (s.planeLevel (s.rd (R.L_PORT l)) (Config.noiseLevel l s.now)) else s.rd (R.L_NOISE l)

/-- PREAMBLE_DETECT (R155, R154, R162, R133): so many symbols of the family have arrived (bits for DEEP_LINK, R169; SUN_OFDM does not count
them); the loop follows a stream level `lvl`, and LISTEN measured a level `noise`, both ahead of the digital gain. Until its SFD
comes the frame has the least RSSI and a CFO of 0. DEDUCED: log 59. DESIGN CHOICE: log 195. -/
def preambleDetect (l symbols : Nat) (lvl noise : Int) : Act := .read fun s =>
  let p := s.rd (R.L_PORT l)
  let mode := s.rd (R.L_MODE l)
  if s.rd (R.L_STATE l) ≠ 2 ∨ s.rd (R.AGC_STATE p) = 4 ∨ (modeFamily mode ≠ 2 ∧ symbols < s.rd (R.CP_DET_SYMBOLS p)) then .skip
  else acts [inc (R.DETECTS l),
    wri (R.L_DGAIN l) (s.dgainFor p lvl), wri (R.L_NOISE l) (s.planeLevel p noise),
    setLane l { (s.lane l) with
      frame := some ⟨s.devTime - s.rd (R.P_FE_DELAY_RX p) * uNs, none, -696, 0, mode, 0, none, s.rd R.DL_SYNC, true, s.dclk⟩ },
    setLaneState l 3, countBusy p,
    onlyIf (s.rd (R.AGC_STATE p) == 1) (wr (R.AGC_STATE p) 2)]

/-- The lane is in SYNC: a frame whose SFD has not come. -/
def State.inSync (s : State) (l : Nat) : Bool :=
  match (s.lane l).frame with
  | some f => f.tSof.isNone
  | none => false

/-- The lane is in RX: a frame whose SFD has come. -/
def State.inRx (s : State) (l : Nat) : Bool :=
  match (s.lane l).frame with
  | some f => f.tSof.isSome
  | none => false

/-- PREAMBLE_CAPTURE (R157): a second preamble `margin` quarter dB stronger. -/
def preambleCapture (l : Nat) (margin : Int) : Act := .read fun s =>
  let p := s.rd (R.L_PORT l)
  match (s.lane l).frame with
  | none => .skip
  | some f =>
    if s.inSync l && s.rd (R.CP_CAPTURE p) != 0 && decide (4 * (s.rd (R.CP_CAPTURE p) : Int) ≤ margin) then
      acts [setLane l { (s.lane l) with frame := some { f with tDet := s.devTime - s.rd (R.P_FE_DELAY_RX p) * uNs } },
        inc (R.CAPTURES l)]
    else .skip

/-- SYNC_MISS (R158). -/
def syncMiss (l : Nat) : Act := .read fun s =>
  onlyIf (s.inSync l) (acts [inc (R.SYNC_MISSES l), afterFrame l (s.rd (R.L_PORT l))])

/-- SFD_DETECT (R156, R162): the SFD marks FEC or not, or is the Deep Link sync word `sync` (R169); the 8 symbols before the RMARKER had
the level `lvl` and the offset `cfo`. A SUN FSK lane with FEC_ACCEPT 0 does not find an SFD that marks FEC (R146), nor a Deep Link lane a
sync word other than DL_SYNC (R170). DEDUCED: log 59, 139. -/
def sfdDetect (l : Nat) (fec : Bool) (sync : Nat) (lvl cfo : Int) : Act := .read fun s =>
  let p := s.rd (R.L_PORT l)
  match (s.lane l).frame with
  | none => .skip
  | some f =>
    let fsk := modeFamily f.mode == 1
    if !(s.inSync l) || (fsk && fec && !(bit? f.mode 47)) || (modeFamily f.mode == 5 && sync != f.sync) then .skip
    else acts [
      setLane l { (s.lane l) with frame := some { f with
        tSof := some (s.devTime - s.rd (R.P_FE_DELAY_RX p) * uNs), rssi := s.rssiOf l lvl, cfo := sgn 32 (unsgn 32 cfo),
        mode := if fsk then setFld f.mode 47 47 (b2n fec) else f.mode } },
      onlyIf (s.rd (R.L_STATE l) == 3) (setLaneState l 4),
      match (s.lane l).bind with
      | .ack req => note (.ackSof req (s.devTime - s.rd (R.P_FE_DELAY_RX p) * uNs))
      | _ => .skip]

/-- The descriptor as received: the mask holds the one MCS or rate mode received (Table CHAN-8). DEDUCED: log 174. -/
def modeReceived (d sel : Nat) : Nat :=
  match modeFamily d with
  | 2 => setFld d 54 48 (2 ^ sel)
  | 3 => setFld d 51 48 (2 ^ sel)
  | _ => d

/-- A descriptor accepts the MCS or rate mode that a PHR names (R147). -/
def modeAccepts (d sel : Nat) : Bool :=
  match modeFamily d with
  | 2 => decide (sel < 7) && bit? (fld d 54 48) sel
  | 3 => decide (sel < 4) && bit? (fld d 51 48) sel
  | _ => true

/-- The frame whose end a command brings: the one in progress, or one that another cause ended in this DCLK cycle (R160). -/
def State.frameNow (s : State) (l : Nat) : Option LaneFrame :=
  match (s.lane l).frame with
  | some f => some f
  | none => (s.endedNow l).map (·.frame)

/-- The frame in progress on a lane changes. -/
def setFrame (l : Nat) (f : LaneFrame) : Act := .read fun s =>
  onlyIf (s.lane l).frame.isSome (setLane l { (s.lane l) with frame := some f })

/-- PHR_RECEIVED (R147, R159, Table CHAN-6): the outcome of the PHR check, the length, the mode-switch bit, the MCS or rate mode and the FCS
that it names. A Deep Link copy has no PHR. DEDUCED: log 174. -/
def phrReceived (l : Nat) (good : Bool) (len : Nat) (modeSwitch : Bool) (sel : Nat) (fcs4 : Bool) : Act := .read fun s =>
  match s.frameNow l with
  | none => .skip
  | some f =>
    if f.tSof.isNone || modeFamily f.mode == 5 then .skip
    else acts [
      setFrame l { f with len := len % 2048, mode := modeReceived f.mode sel, fcs4 := fcs4 },
      if !good || decide (familyMaximum f.mode < len) then endFrame l 2 []
      else onlyIf (modeSwitch || !(modeAccepts f.mode sel)) (endFrame l 3 [])]

/-- The octets of a PSDU as the lane reads them: `psdu` where the mode has no code, else what the decoder reads from the soft values.
PRESUMED: log 172. -/
def psduRead (f : LaneFrame) (psdu : List Nat) (soft : List Int) : List Nat :=
  (if modeCoded f.mode then Config.fecDecode f.mode soft else psdu).take f.len

/-- RX_FRAME_END (R159, R166): the last PSDU octet is received; `psdu` holds the octets of a frame without code, `soft` the soft values of a
coded frame or of a Deep Link copy's payload. -/
def rxFrameEnd (l : Nat) (psdu : List Nat) (soft : List Int) : Act := .read fun s =>
  match s.frameNow l with
  | none => .skip
  | some f =>
    let p := s.rd (R.L_PORT l)
    if f.tSof.isNone then .skip
    else if modeFamily f.mode == 5 then
      match f.hdr with
      | none => .skip
      | some h => onlyIf (s.lane l).frame.isSome (acts [inc (R.LLR_COPIES l),
          setLaneEng fun g => { g with
            copies := g.copies ++ [⟨h, s.now, l, p, s.rd (R.L_CHANNEL l), f.rssi,
              lqiOf f.rssi (s.rdi (R.L_NOISE l)), f.cfo, f.tSof.getD 0, f.tDet, (s.lane l).bind,
              dlReceive (dlRate h) (dlWords h) soft⟩]
            ends := (g.ends.filter fun e => e.cycle == s.dclk && e.lane != l) ++ [⟨l, s.dclk, p, [0], f, false⟩] },
          afterFrame l p])
    else
      let octs := psduRead f psdu soft
      if octs.length = f.len ∧ fcsGood f.fcs4 octs then endFrame l 0 octs else endFrame l 1 []

/-! ## Energy detectors (R163) -/

/-- A request asks for a detector of its port, or waits in arrival order. -/
def edAsk (e : EdReq) : Act := .read fun s =>
  if ((s.eng.lane.edBusy ++ s.eng.lane.edWait).filter fun b => b.port == e.port).length < 16 then
    setLaneEng fun g => { g with edBusy := g.edBusy ++ [e] }
  else acts [inc (R.ED_WAITS e.port), setLaneEng fun g => { g with edWait := g.edWait ++ [e] }]

end Sys2Proof.Machine
end

