-- ==== Sys2Proof/Machine/Radio.lean ====
section
/-! DEFINITION. Radio ports and front-end control (05_radio_ports.md R116 to R141, 01_architecture.md R12 to R14):
port starts, the transmitter of Table PORT-5, keying, blanking, the AGC, coexistence and the wake receiver. -/

namespace Sys2Proof.Machine

/-! ## What a port holds -/

def keyedRest : KeyedSt := ⟨[], false, false, [], 0, [], false, 0, []⟩

def portRest : PortSt := ⟨none, [], false, 0, 0, 0, 0, none, [], false, none, keyedRest, false, false, false⟩

def State.port (s : State) (p : Nat) : PortSt := s.eng.radio.ports.at p portRest

def setRadio (f : RadioEng → RadioEng) : Act := eng fun e => { e with radio := f e.radio }

/-- Change what a port holds. -/
def setPort (p : Nat) (f : PortSt → PortSt) : Act := setRadio fun g =>
  { g with ports := g.ports.set p (f (g.ports.at p portRest)) }

/-- The mute line of the port's tile is asserted (R14), or the tile is held in reset (R474). -/
def State.muted (s : State) (p : Nat) : Bool := s.eng.radio.mute.contains (p / 6) || s.rd (R.BL_STATE (1 + p / 6)) != 0

/-- The blanking group of a port (Table PORT-3). -/
def State.blankGroup (s : State) (p : Nat) : Option Nat :=
  let c := s.rd (R.P_FE_CTRL p)
  if bit? c 15 then some (2 * (p / 6) + fld c 14 14) else none

/-- The ports of a blanking group: what BG_MEMBERS shows (Table PORT-6). -/
def State.groupPorts (s : State) (g : Nat) : List Nat :=
  ((List.range 6).map fun k => 6 * (g / 2) + k).filter fun p => s.blankGroup p == some g

/-- The receivers a keyed port blanks: its group's and its own (Table PORT-7 step 4). -/
def State.blankedBy (s : State) (p : Nat) : List Nat :=
  match s.blankGroup p with
  | some g => s.groupPorts g
  | none => [p]

/-! ## The intervals of R125, in ns -/

def State.paLead (s : State) (p : Nat) : Nat := max (s.rd (R.P_PA_LEAD p)) (s.rd (R.P_RAMP p))
def State.paLag (s : State) (p : Nat) : Nat := max (s.rd (R.P_PA_LAG p)) (s.rd (R.P_RAMP p))
def State.trswLead (s : State) (p : Nat) : Nat :=
  max (match s.blankGroup p with | some g => s.rd (R.BG_TRSW_LEAD g) | none => 0) (s.paLead p + 1000)
def State.trswLag (s : State) (p : Nat) : Nat :=
  max (match s.blankGroup p with | some g => s.rd (R.BG_TRSW_LAG g) | none => 0) (s.paLag p + 1000)
def State.antLead (s : State) (p : Nat) : Nat := max (s.rd (R.P_ANT_LEAD p)) (s.trswLead p + 1000)
def State.antBack (s : State) (p : Nat) : Nat := s.trswLag p + 1000

/-- The tile of the port is in coexistence mode (R137). -/
def State.coexOn (s : State) (p : Nat) : Bool := s.rd (R.CX_MODE (p / 6)) == 1

/-- The lead of R211. -/
def State.keyLead (s : State) (p : Nat) : Nat :=
  max (s.antLead p) (if s.coexOn p then s.rd (R.CX_LEAD (p / 6)) else 0)

/-- The front end of a port as its objects stand. -/
def State.frontEnd (s : State) (p : Nat) : FrontEnd := {
  ramp := s.rd (R.P_RAMP p)
  paLead := s.paLead p
  paLag := s.paLag p
  trswLead := s.trswLead p
  trswLag := s.trswLag p
  antLead := s.antLead p
  antBack := s.antBack p
  group := s.blankGroup p
  blanks := s.blankedBy p
  coex := s.coexOn p
  cxLead := s.rd (R.CX_LEAD (p / 6))
  cxDeadline := s.rd (R.CX_DEADLINE (p / 6))
  ant := fld (s.rd (R.P_FE_CTRL p)) 7 6
  antPol := bit? (s.rd (R.P_FE_CTRL p)) 10
  pri := bit? (s.rd (R.CX_PRI_PORTS (p / 6))) (p % 6)
  band := s.rd (R.P_BAND p) }

/-- The front end of a request: as it was judged, or as the objects stand (R102). -/
def State.feOf (s : State) (r : TxReq) : FrontEnd := r.fe.getD (s.frontEnd r.port)

/-- The lead of R211 for a request. -/
def FrontEnd.lead (f : FrontEnd) : Nat := max f.antLead (if f.coex then f.cxLead else 0)

/-- The port is keyed with a request for which a test holds. -/
def State.keyedWith (s : State) (p : Nat) (test : TxReq → FrontEnd → Bool) : Bool :=
  s.rd (R.P_STATE p) == 5 && match (s.port p).req with
  | some r => test r (s.feOf r)
  | none => false

/-! ## The front-end lines (R121, R557, R126, R127, R137) -/

/-- PA_EN is high: from step 5, if no cut came before it, to step 10, or to the cut that took the driver off (Table PORT-7, R132). -/
def State.paEn (s : State) (p : Nat) : Bool := s.keyedWith p fun r f =>
  decide (r.t0 ≤ r.t1 + f.paLead * uNs) && decide (r.t0 ≤ s.devTime + f.paLead * uNs) &&
    decide (s.devTime < r.t1 + f.paLag * uNs) && (match r.off with
      | some u => decide (s.devTime < u)
      | none => true)

/-- TRSWg is at its TX level: a port of the group is between its steps 4 and 11 (R127). -/
def State.trswTx (s : State) (g : Nat) : Bool := (List.range 6).any fun k =>
  (s.port (6 * (g / 2) + k)).keyed.step == 4 && s.keyedWith (6 * (g / 2) + k) fun _ f => f.group == some g

/-- The receiver of the port is blanked. -/
def State.blanked (s : State) (p : Nat) : Bool := (s.port p).blankFrom.isSome

/-- LNA_BYP bypasses (Table PORT-3, R121, R136). -/
def State.lnaBypass (s : State) (p : Nat) : Bool :=
  s.rd (R.P_STATE p) == 0 ||
    match fld (s.rd (R.P_FE_CTRL p)) 13 12 with
    | 0 => false
    | 1 => true
    | 2 => s.blanked p
    | _ => s.blanked p || (s.port p).agcByp

/-- The front end that the port's antenna switch follows: that of the keyed request, else the objects (R102). -/
def State.antFe (s : State) (p : Nat) : FrontEnd :=
  match (s.port p).req with
  | some r => if s.rd (R.P_STATE p) = 5 then s.feOf r else s.frontEnd p
  | none => s.frontEnd p

/-- The value ANT_SEL carries, before ANT_POL. -/
def State.antSel (s : State) (p : Nat) : Nat := if (s.port p).antTx then (s.antFe p).ant else fld (s.rd (R.P_FE_CTRL p)) 9 8

/-- A port of tile `t` has a request for which a test holds. -/
def State.tileReq (s : State) (t : Nat) (test : Nat → TxReq → FrontEnd → Bool) : Bool := (List.range 6).any fun k =>
  decide (4 ≤ s.rd (R.P_STATE (6 * t + k))) && match (s.port (6 * t + k)).req with
  | some r => let f := s.feOf r
    f.coex && decide (s.devTime < r.t1 + f.ramp * uNs) && test k r f
  | none => false

/-- A port of the tile is between steps 1 and 9 of Table PORT-7: COEXt_REQ is asserted (R137). -/
def State.coexReq (s : State) (t : Nat) : Bool := s.tileReq t fun _ r f => decide (r.t0 ≤ s.devTime + f.cxLead * uNs)

/-- COEXt_PRI: a requesting port carries an Enhanced ACK or its bit in CX_PRI_PORTS is set (R137). -/
def State.coexPri (s : State) (t : Nat) : Bool := s.tileReq t fun _ r f =>
  decide (r.t0 ≤ s.devTime + f.cxLead * uNs) && (r.owner == .ack || f.pri)

/-- COEXt_ACT: a port is between steps 6 and 9 (R137). -/
def State.coexAct (s : State) (t : Nat) : Bool := s.tileReq t fun k r f =>
  s.rd (R.P_STATE (6 * t + k)) == 5 && decide (r.t0 ≤ r.t1 + f.ramp * uNs) && decide (r.t0 ≤ s.devTime + f.ramp * uNs)

/-! ## Blanking (R127, R128) -/

/-- The receiver of port `q` blanks at device time `from_`, whether or not its port runs. DESIGN CHOICE: log 197. -/
def blankPort (from_ q : Nat) : Act := .read fun s =>
  if s.blanked q then .skip
  else acts [setPort q fun x => { x with blankFrom := some from_ },
    onlyIf (s.receiving q) (acts [wr (R.AGC_STATE q) 4, endPortFrames q 5])]

/-- The receiver of port `q` unblanks at device time `until_`, unless a keyed port still blanks it. -/
def unblankPort (until_ q : Nat) : Act := .read fun s =>
  let still := s.eng.radio.ports.any fun e => e.2.keyed.blanks.contains q
  match (s.port q).blankFrom with
  | some from_ =>
    if still then .skip
    else acts [setPort q fun x => { x with blankFrom := none },
      addTo (R.BLANK_TIME q) ((until_ - from_) / uNs),
      onlyIf (s.receiving q) (wr (R.AGC_STATE q) 3)]
  | none => .skip

/-- The end of what a keyed transmission emits: P_RAMP after its last symbol, or the cut that took the driver off at once (R253,
R132). -/
def State.rampEnd (s : State) (r : TxReq) : Nat :=
  let e := r.t1 + (s.feOf r).ramp * uNs
  min (r.off.getD e) e

/-- Step 11 of Table PORT-7 at device time `u`: the TRSW line of the port's group returns and the receivers that the port blanked
unblank, unless another port still blanks them (R127, R128). -/
def endBlanking (p u : Nat) : Act := .read fun s => acts [
  setPort p fun x => { x with keyed := { x.keyed with step := 11, blanks := [] } },
  forAll (s.port p).keyed.blanks (unblankPort u)]

/-! ## Steps of Table PORT-7 that come with time

No command stands for steps 4 and 11 and for a saturated sample: they happen at their instants, before the first command at or after
them acts (DESIGN CHOICE: log 163). -/

/-- A step that a keyed port has still to take, with its device time: 4 blanking begins, 11 it ends, 0 a sample saturates.
DESIGN CHOICE: log 163. -/
def State.portSteps (s : State) (p : Nat) : List (Nat × Nat × Nat) :=
  if s.rd (R.P_STATE p) ≠ 5 then [] else match (s.port p).req with
  | none => []
  | some r =>
    let f := s.feOf r
    let k := (s.port p).keyed
    let u4 := r.t0 - f.trswLead * uNs
    let u11 := r.t1 + f.trswLag * uNs
    (if k.step = 0 ∧ u4 ≤ r.t1 then [(u4, 4, p)] else []) ++
      (if k.step = 11 ∨ (k.step = 0 ∧ r.t1 < u4) then [] else [(u11, 11, p)]) ++
      ((k.sats.filter fun u => decide (u ≤ s.rampEnd r)).take 1).map fun u => (u, 0, p)

/-- The first of the steps that are due: the earliest, blanking before its end. -/
def State.nextStep (s : State) : Option (Nat × Nat × Nat) :=
  let due := (s.eng.radio.ports.flatMap fun e => s.portSteps e.1).filter fun x => decide (x.1 ≤ s.devTime)
  (sortBy (fun a b => decide (a.1 < b.1) || (a.1 == b.1 && decide (a.2.1 ≤ b.2.1))) due).head?

/-- A step of Table PORT-7, or a saturated sample (R127 to R129). -/
def keyStep (x : Nat × Nat × Nat) : Act := .read fun s =>
  let p := x.2.2
  if x.2.1 = 4 then match (s.port p).req with
    | none => .skip
    | some r =>
      let qs := (s.feOf r).blanks
      acts [setPort p fun y => { y with keyed := { y.keyed with step := 4, blanks := qs } }, forAll qs (blankPort x.1)]
  else if x.2.1 = 11 then endBlanking p x.1
  else acts [inc (R.FIR_SAT p), onlyIf (!(s.port p).keyed.satSeen) (raise 0x0409 p p),
    setPort p fun y => { y with keyed := { y.keyed with sats := y.keyed.sats.drop 1, satSeen := true } }]

/-- A number that the steps of all ports do not exceed. -/
def State.stepCount (s : State) : Nat := (s.eng.radio.ports.map fun e => e.2.keyed.sats.length + 2).foldl (· + ·) 0

/-- The first so many steps that are due, in the order of their instants. DESIGN CHOICE: log 163. -/
def keySteps : Nat → Act
  | 0 => .skip
  | n + 1 => .read fun s => match s.nextStep with
    | none => .skip
    | some x => .seq (keyStep x) (keySteps n)

/-- All steps that are due. -/
def keyStepsDue : Act := .read fun s => keySteps s.stepCount

/-! ## Requests end (R138, Table PORT-12) -/

/-- The status code by which the TSCH engine's LATE of R211 is handed up. -/
def stLate : Nat := 16

/-- A request ends with a status; frames sent and aborted are counted (Table PORT-14). -/
def endReq (r : TxReq) (st : Nat) : Act := acts [
  onlyIf (st == 0) (inc (R.TX_FRAMES r.port)),
  onlyIf (decide (1 ≤ st) && decide (st ≤ 4)) (inc (R.TX_ABORTS r.port)),
  note (.txEnd r st)]

/-- The request in hand ends with a status. -/
def endPending (p st : Nat) : Act := .read fun s =>
  match (s.port p).req with
  | some r => acts [setPort p fun x => { x with req := none, granted := false }, endReq r st]
  | none => .skip

/-! ## Starts (R117, R121, R557) -/

/-- The receiver of the port stops, if it has not. -/
def receiverStops (p : Nat) : Act := .read fun s => onlyIf (s.receiving p) (setPort p fun x => { x with downFrom := s.devTime })

/-- The lines that a port shares come under configuration when it first leaves DISABLED after a reset of its tile (R557). -/
def takeLines (p : Nat) : Act := .read fun s => onlyIf (!(s.port p).taken) (setRadio fun g => { g with
  trsw := match s.blankGroup p with
    | some b => b :: g.trsw.filter (· ≠ b)
    | none => g.trsw,
  coex := p / 6 :: g.coex.filter (· ≠ p / 6) })

/-- The port enters STARTING: its frames end, its lanes become UNBOUND. DESIGN CHOICE: log 159. -/
def startPort (p : Nat) : Act := acts [
  receiverStops p, wr (R.P_STATE p) 1, wr (R.AGC_STATE p) 0, takeLines p,
  setPort p fun x => { x with startWait := false, taken := true },
  stopLanes p, note (.portDown p)]

/-- The port leaves for DISABLED (Table PORT-5): a calibration is broken off, and TS_FREQ and its age keep those of the last that ended.
DESIGN CHOICE: log 198. -/
def disablePort (p : Nat) : Act := .read fun s => acts [
  receiverStops p, wr (R.P_STATE p) 0, wr (R.AGC_STATE p) 0, wr (R.P_LOCK_CAUSE p) 0,
  onlyIf (s.rd (R.TS_STATE p) == 1 || s.rd (R.TS_STATE p) == 2) (wr (R.TS_STATE p) 0),
  endPending p 9,
  forAll (s.port p).held fun r => endReq r 9,
  setPort p fun x => { x with held := [], startWait := false, antTx := false },
  stopLanes p, note (.portDown p)]

/-- A cause of R117 starts an enabled port, or waits until its transmitter is IDLE. DEDUCED: log 158. -/
def wantStart (p : Nat) : Act := .read fun s =>
  let st := s.rd (R.P_STATE p)
  if s.rd (R.P_ENABLE p) = 0 then .skip
  else if st = 3 ∨ st = 4 ∨ st = 5 then setPort p fun x => { x with startWait := true }
  else startPort p

/-! ## Retunes (R122, R123, R211) -/

/-- R123: a retune to `f` calibrates. -/
def State.needsCal (s : State) (p f : Nat) : Bool :=
  f != s.rd (R.TS_FREQ p) ||
    match (s.port p).lastCal with
    | some u => decide (s.rd (R.TS_RECAL_AGE p) * 1000000 < s.now - u)
    | none => true

/-- The synthesiser begins to calibrate. -/
def beginCal (p f : Nat) : Act := .read fun s => acts [
  wr (R.P_STATE p) 3, wr (R.TS_STATE p) 1, inc (R.CAL_COUNT p),
  setPort p fun x => { x with calFreq := f, calFrom := s.now }]

/-- R211: a request at a port that reaches ARMED now is sent at T0' or ends LATE. -/
def armReq (p : Nat) (r : TxReq) : Act := .read fun s =>
  let d := max r.t0 (s.devTime + (s.feOf r).lead * uNs) - r.t0
  if d ≤ 50000 * uNs ∧ r.t1 + d ≤ r.limit then
    acts [wr (R.P_STATE p) 4,
      setPort p fun x => { x with req := some { r with t0 := r.t0 + d, t1 := r.t1 + d }, granted := false, cuts := [] }]
  else acts [wr (R.P_STATE p) 2, setPort p fun x => { x with req := none }, endReq r stLate]

/-- An IDLE port takes a request: it calibrates, or arms at once (Table PORT-5). -/
def judge (p : Nat) (r0 : TxReq) : Act := .read fun s =>
  let r := { r0 with fe := some (s.frontEnd p) }
  if s.muted p then endReq r 7
  else if s.needsCal p r.freq then acts [setPort p fun x => { x with req := some r }, beginCal p r.freq]
  else armReq p r

/-- Held requests are judged in order while the port is IDLE. -/
def judgeHeld (p : Nat) : List TxReq → Act
  | [] => .skip
  | r :: rest => .seq
    (.read fun s => if s.rd (R.P_STATE p) = 2 then
      acts [setPort p fun x => { x with held := x.held.drop 1 }, judge p r] else .skip)
    (judgeHeld p rest)

/-- The transmitter has become IDLE: a waiting start begins, else held retunes are judged. -/
def idleNow (p : Nat) : Act := .read fun s =>
  if (s.port p).startWait then startPort p else judgeHeld p (s.port p).held

/-- A timed retune with its request reaches the port (Table PORT-5). -/
def retune (r : TxReq) : Act := .read fun s =>
  let p := r.port
  let st := s.rd (R.P_STATE p)
  if s.rd (R.BL_STATE (1 + p / 6)) ≠ 0 then endReq r 7
  else if st = 6 then endReq r 8
  else if st = 0 then endReq r 9
  else if s.muted p ∧ (st = 2 ∨ st = 3) then endReq r 7
  else if st = 2 ∧ ¬ (s.port p).startWait then judge p r
  else setPort p fun x => { x with held := x.held ++ [r] }

/-- A number for a new request. -/
def takeReq (k : Nat → Act) : Act := .read fun s =>
  .seq (setRadio fun g => { g with nextReq := g.nextReq + 1 }) (k s.eng.radio.nextReq)

/-- The request `id` of port `p` is withdrawn with a not-keyed status before the port is KEYED. -/
def cancelReq (p id st : Nat) : Act := .read fun s =>
  let x := s.port p
  match x.req with
  | some r =>
    if r.id = id then
      if s.rd (R.P_STATE p) = 4 then acts [wr (R.P_STATE p) 2, endPending p st, idleNow p]
      else if s.rd (R.P_STATE p) = 3 then endPending p st else .skip
    else acts [forAll (x.held.filter fun h => h.id == id) fun h => endReq h st,
      setPort p fun y => { y with held := y.held.filter fun h => h.id != id }]
  | none => acts [forAll (x.held.filter fun h => h.id == id) fun h => endReq h st,
      setPort p fun y => { y with held := y.held.filter fun h => h.id != id }]

/-! ## Commands of the port -/

/-- P_ENABLE (R117, Table PORT-5); the object already holds the new value, which `moved` says it took just now. A port that is still
KEYED when P_ENABLE becomes 1 again starts once its transmitter is IDLE. -/
def portEnable (p : Nat) (moved : Bool) : Act := .read fun s =>
  let st := s.rd (R.P_STATE p)
  if s.rd (R.P_ENABLE p) = 1 then acts [onlyIf (st == 0) (startPort p),
    onlyIf (moved && st == 5) (setPort p fun x => { x with startWait := true })]
  else onlyIf (st != 0 && st != 5) (disablePort p)

/-- RX_SYNTH_UNLOCK (R118). -/
def rxUnlock (p : Nat) : Act := .read fun s =>
  if s.rd (R.P_STATE p) = 0 then .skip
  else acts [inc (R.RX_UNLOCK p), raise 0x040B p p, wantStart p]

/-- The gain at which the AGC settles for an input of `pow` quarter dBm at the RFRX ball: the step of 1 dB that brings the RMS level
nearest to AGC_TARGET, the level being the input plus g + 10 (R133, R559). -/
def State.agcGain (s : State) (p : Nat) (pow : Int) : Nat :=
  if s.rd (R.AGC_MODE p) = 1 then s.rd (R.AGC_FIXED p)
  else (min 72 (max 0 ((s.rdi (R.AGC_TARGET p) - pow - 40 + 2) / 4))).toNat

/-- The AGC follows the input (R133). -/
def agcTracks (p : Nat) (pow : Int) : Act := .read fun s =>
  onlyIf (s.rd (R.AGC_STATE p) == 1) (wr (R.AGC_GAIN p) (s.agcGain p pow))

/-- AGC_MODE or AGC_FIXED has been written: in FIXED the gain is AGC_FIXED at once (R133), while BLANKED after it (R128).
DESIGN CHOICE: log 199. -/
def agcApplied (p : Nat) : Act := .read fun s =>
  onlyIf (s.receiving p && s.rd (R.AGC_STATE p) != 4 && s.rd (R.AGC_MODE p) == 1) (wr (R.AGC_GAIN p) (s.rd (R.AGC_FIXED p)))

/-- PORT_STARTED (R117): the AGC has settled for an input of `pow` quarter dBm. A transmitter that was LOCKED stays so (R122). -/
def portStarted (p : Nat) (pow : Int) : Act := .read fun s =>
  if s.rd (R.P_STATE p) ≠ 1 then .skip
  else acts [
    wr (R.P_STATE p) (if s.rd (R.P_LOCK_CAUSE p) = 0 then 2 else 6),
    wr (R.AGC_STATE p) (if s.blanked p then 4 else 1),
    wr (R.AGC_GAIN p) (s.agcGain p pow),
    setPort p fun x => { x with upFrom := s.devTime },
    startLanes p, note (.portUp p),
    if s.rd (R.P_LOCK_CAUSE p) = 0 then idleNow p
    else acts [forAll (s.port p).held fun r => endReq r 8, setPort p fun x => { x with held := [] }]]

/-- TS_CALIBRATION_DONE (R123, R124): the synthesiser has locked and settles, or has settled and is READY. -/
def calDone (p : Nat) (settled : Bool) : Act := .read fun s =>
  if s.rd (R.P_STATE p) ≠ 3 then .skip
  else if ¬ settled then onlyIf (s.rd (R.TS_STATE p) == 1) (wr (R.TS_STATE p) 2)
  else if s.rd (R.TS_STATE p) ≠ 2 then .skip
  else acts [
    wr (R.TS_STATE p) 3, wr (R.TS_FREQ p) (s.port p).calFreq, wr (R.TS_LAST_CAL p) (s.now - (s.port p).calFrom),
    wr (R.TS_FAIL_RUN p) 0, setPort p fun x => { x with lastCal := some s.now },
    match (s.port p).req with
    | some r => armReq p r
    | none => wr (R.P_STATE p) 2,
    .read fun s => onlyIf (s.rd (R.P_STATE p) == 2) (idleNow p)]

/-- TS_CALIBRATION_FAIL (R124): no lock at 40 µs; three failures in a row lock the transmitter. -/
def calFail (p : Nat) : Act := .read fun s =>
  if s.rd (R.P_STATE p) ≠ 3 ∨ s.rd (R.TS_STATE p) ≠ 1 ∨ s.now < (s.port p).calFrom + 40000 then .skip
  else acts [
    inc (R.CAL_FAIL p), wr (R.TS_FAIL_RUN p) (min 3 (s.rd (R.TS_FAIL_RUN p) + 1)),
    raise 0x0406 p (p + (s.port p).calFreq / 1000 * 2 ^ 32),
    wr (R.TS_STATE p) 0, wr (R.P_STATE p) 2, setPort p fun x => { x with lastCal := none },
    endPending p 6,
    .read fun s => if 3 ≤ s.rd (R.TS_FAIL_RUN p) then
        acts [wr (R.P_STATE p) 6, wr (R.P_LOCK_CAUSE p) 2, wr (R.TS_STATE p) 4, raise 0x0407 p p,
          forAll (s.port p).held fun r => endReq r 8, setPort p fun x => { x with held := [] },
          onlyIf (s.port p).startWait (startPort p)]
      else idleNow p]

/-- A request ends without a grant before its first symbol (R137). -/
def deny (p : Nat) : Act := acts [inc (R.CX_DENIED (p / 6)), raise 0x0405 p (p + p / 6 * 256)]

/-- The level of the grant as the tile sees it: the ball's level after polarity once it has held for 100 ns, the one seen before until
then (R137). -/
def State.grantSeen (s : State) (tile : Nat) (ball : Bool) (heldNs : Nat) : Bool :=
  if heldNs < 100 then s.rd (R.CX_GNT tile) == 1 else ball != bit? (s.rd (R.CX_POL tile)) 3

/-- COEX_GRANT_SAMPLE (Table PORT-7 step 2): at the sampling instant of the port, COEX_GNT has held its level for `heldNs` ns. -/
def grantSample (p : Nat) (ball : Bool) (heldNs : Nat) : Act := .read fun s =>
  let level := s.grantSeen (p / 6) ball heldNs
  acts [wr (R.CX_GNT (p / 6)) (b2n level),
    match (s.port p).req with
    | none => .skip
    | some r =>
      let f := s.feOf r
      if s.rd (R.P_STATE p) = 4 ∧ f.coex ∧ r.t0 ≤ s.devTime + max f.cxDeadline f.antLead * uNs then
        if level then setPort p fun x => { x with granted := true }
        else acts [wr (R.P_STATE p) 2, deny p, endPending p 5, idleNow p]
      else .skip]

/-! ## The transmit FIR (R129) -/

/-- The sum of the taps over the samples, the newest of which meets tap 0. -/
def firSum (taps newest : List Int) : Int := (taps.zipWith (· * ·) newest).foldl (· + ·) 0

/-- The numbers of the I and Q samples whose sums exceed the DAC range, which is the same on either side of 0; `seen` holds the samples
before, newest first. DESIGN CHOICE: log 200. -/
def firSaturates (taps : List Int) (k : Nat) (seenI seenQ : List Int) : List (Int × Int) → List Nat
  | [] => []
  | x :: rest =>
    let i := (x.1 :: seenI).take 64
    let q := (x.2 :: seenQ).take 64
    let ovr (l : List Int) : Bool := decide (131072 * Config.dacRange < (firSum taps l).natAbs)
    (if ovr i || ovr q then [k] else []) ++ firSaturates taps (k + 1) i q rest

/-- The period of a transmit sample in ns (Table PORT-1). -/
def FrontEnd.txSampleNs (f : FrontEnd) : Nat := if f.band = 1 then 40 else 100

/-- The mask of a port as its breakpoints in use: offset in kHz and limit in quarter dB (R132). -/
def State.maskPoints (s : State) (p : Nat) : List (Nat × Int) :=
  let pts := (List.range 32).map fun b => s.rd (R.MK_POINT p b)
  let rec rising (prev : Nat) : List Nat → List (Nat × Int)
    | [] => []
    | w :: rest =>
      if bit? w 63 ∧ prev < fld w 55 32 then (fld w 55 32, sgn 16 (fld w 15 0)) :: rising (fld w 55 32) rest else []
  rising 0 pts

/-- What a frame keyed now completes under (R130, R102). -/
def State.keyedNow (s : State) (p : Nat) (r : TxReq) (samples : List (Int × Int)) : KeyedSt :=
  let taps := (List.range 64).map fun k => s.rdi (R.FIR_TAP p k)
  let from_ := r.t0 - (s.feOf r).ramp * uNs
  { mask := s.maskPoints p
    maskOn := s.rd (R.MK_EN p) == 1
    maskLock := s.rd (R.MK_ACTION p) == 1
    taps := taps
    power := s.rdi (R.P_TX_POWER p)
    sats := (firSaturates taps 0 [] [] samples).map fun k => from_ + k * (s.feOf r).txSampleNs * uNs
    satSeen := false
    step := 0
    blanks := [] }

/-- The clear-channel assessment of a request waits for a detector or still measures (R163). -/
def State.assessing (s : State) (id : Nat) : Bool := (s.eng.lane.edWait ++ s.eng.lane.edBusy).any fun e => e.req == id

/-- A detector measures for the request no more. -/
def dropAssessment (id : Nat) : Act := setLaneEng fun g => { g with
  edWait := g.edWait.filter fun e => e.req != id
  edBusy := g.edBusy.filter fun e => e.req != id }

/-- A command of a tile comes within one period of QCLK, 5 ns, of the device time it carries (R12). DEDUCED: log 53. -/
def State.onTime (s : State) (u : Nat) : Bool := decide (u ≤ s.devTime + 5 * uNs) && decide (s.devTime ≤ u + 5 * uNs)

/-- KEYING_START (Table PORT-7 step 3, R12, R129, R130): from ARMED alone, at T0 − ant_lead; `samples` are the samples of the modulated
frame from the start of its ramp up. A request whose assessment is not ready finds its channel busy (R163, R259).
DEDUCED: log 53. -/
def keyingStart (p : Nat) (samples : List (Int × Int)) : Act := .read fun s =>
  match (s.port p).req with
  | none => .skip
  | some r =>
    let f := s.feOf r
    if s.rd (R.P_STATE p) = 4 ∧ s.onTime (r.t0 - f.antLead * uNs) ∧ (¬ f.coex ∨ (s.port p).granted) then
      if s.assessing r.id then acts [dropAssessment r.id, wr (R.P_STATE p) 2, endPending p 10, idleNow p]
      else acts [wr (R.P_STATE p) 5,
        setPort p fun x => { x with cuts := [], antTx := true, keyed := s.keyedNow p r samples },
        note (.keyed r)]
    else .skip

/-- The frame of a port that has just entered KEYED is freed at the assignment of its counter (R210, R267, R333): it is not
sent, so the port leaves KEYED with its lines restored, and no request is left to complete. DEDUCED: log 136. -/
def unkey (p : Nat) : Act := .read fun s => acts [
  setPort p fun x => { x with
    req := none
    granted := false
    antTx := false },
  wr (R.P_STATE p) 2, endBlanking p s.devTime,
  if s.rd (R.P_ENABLE p) = 0 then disablePort p else idleNow p]

/-- A frame on air is cut at `u` for a cause of Table PORT-12; the last symbol then ends there (R132). -/
def cutAt (p st u : Nat) : Act := setPort p fun x =>
  { x with cuts := st :: x.cuts, req := x.req.map fun r => { r with t1 := min r.t1 u } }

/-- A hard cut: the driver is off and PA_EN low at once, so the ramp down that would follow is not emitted (R13, R14, R132). -/
def driverOff (p : Nat) : Act := .read fun s => setPort p fun x =>
  { x with req := x.req.map fun r => { r with off := some (min (r.off.getD s.devTime) s.devTime) } }

/-- The status a frame ends with: the first cause of its cut in the order of R138, or DONE. -/
def cutStatus : List Nat → Nat
  | [] => 0
  | c :: rest => rest.foldl min c

/-- TX_FRAME_END (Table PORT-7 step 12, R12, R126): the port is IDLE and its frame ends, at T1 + ant_back.
DEDUCED: log 53. DESIGN CHOICE: log 161. -/
def txFrameEnd (p : Nat) : Act := .read fun s =>
  match (s.port p).req with
  | none => .skip
  | some r =>
    if s.rd (R.P_STATE p) = 5 ∧ s.onTime (r.t1 + (s.feOf r).antBack * uNs) then
      let st := cutStatus (s.port p).cuts
      let lock := (s.port p).cuts.contains 2 && (s.port p).keyed.maskLock
      acts [endBlanking p (r.t1 + (s.feOf r).trswLag * uNs),
        setPort p fun x => { x with req := none, cuts := [], granted := false, antTx := false, keyed := keyedRest },
        wr (R.P_STATE p) 2,
        endReq r st,
        if s.rd (R.P_ENABLE p) = 0 then disablePort p
        else if lock then
          acts [wr (R.P_STATE p) 6, wr (R.P_LOCK_CAUSE p) 1, raise 0x0403 p p,
            forAll (s.port p).held fun h => endReq h 8, setPort p fun x => { x with held := [] },
            onlyIf (s.port p).startWait (startPort p)]
        else idleNow p]
    else .skip

/-- The port is keyed and its last symbol has not ended. -/
def State.onAir (s : State) (p : Nat) : Bool :=
  s.rd (R.P_STATE p) == 5 && match (s.port p).req with
  | some r => decide (s.devTime ≤ r.t1)
  | none => false

/-- One port of the tile meets the withdrawal of the grant (R137); its next symbol boundary is `gap` ns away.
DEDUCED: log 144. -/
def withdraw (p gap : Nat) : Act := .read fun s =>
  match (s.port p).req with
  | none => .skip
  | some r =>
    if ¬ (s.feOf r).coex then .skip
    else if s.rd (R.P_STATE p) = 4 ∧ (s.port p).granted then
      acts [wr (R.P_STATE p) 2, deny p, endPending p 5, idleNow p]
    else if s.rd (R.P_STATE p) = 5 ∧ s.devTime < r.t0 ∧ ¬ (s.port p).cuts.contains 5 then
      acts [cutAt p 5 s.devTime, deny p]
    else if s.onAir p ∧ r.t0 ≤ s.devTime ∧ s.devTime + gap * uNs < r.t1 ∧ ¬ (s.port p).cuts.contains 4 then
      acts [cutAt p 4 (s.devTime + gap * uNs), inc (R.CX_ABORTS (p / 6)), raise 0x0404 p (p + p / 6 * 256)]
    else .skip

/-- COEX_GRANT_WITHDRAWN (R137): COEX_GNT has been absent for `heldNs` ns; for each port of the tile, the ns to its next symbol
boundary. -/
def grantWithdrawn (tile heldNs : Nat) (gaps : List Nat) : Act := onlyIf (decide (100 ≤ heldNs)) (acts [
  wr (R.CX_GNT tile) 0, forAll (List.range 6) fun k => withdraw (6 * tile + k) (gaps.getD k 0)])

/-- RX_BLOCK_CRC_FAIL (R13). -/
def rxCrcFail (p : Nat) : Act := acts [inc (R.LINK_ERR p), raiseMs p 0x0408 p p, endPortFrames p 6]

/-- TX_BLOCK_CRC_FAIL (R13): a block at or before T1 cuts the frame; one of the ramp down cuts the ramp. Transmit blocks
cross from the start of the ramp up. -/
def txCrcFail (p : Nat) : Act := .read fun s =>
  match (s.port p).req with
  | none => .skip
  | some r =>
    let f := s.feOf r
    if s.rd (R.P_STATE p) = 5 ∧ r.t0 ≤ s.devTime + f.ramp * uNs ∧ s.devTime ≤ r.t1 + f.ramp * uNs then
      acts [inc (R.LINK_ERR p), raiseMs p 0x0408 p (p + 256), driverOff p,
        onlyIf (s.onAir p) (cutAt p 3 s.devTime)]
    else .skip

/-- The limit of the mask at an offset in kHz, as twice-scaled numbers: the breakpoint it follows, and the limit times `d`
with `d` its denominator (R132: linear in dB between breakpoints, the last limit beyond the last). A bin below breakpoint 0 is part of
the in-channel power (R131) and has no limit. DEDUCED: log 162. -/
def maskLimit (off : Nat) : Nat → List (Nat × Int) → Option (Nat × Int × Nat)
  | _, [] => none
  | b, [(o, l)] => if o ≤ off then some (b, l, 1) else none
  | b, (o, l) :: (o2, l2) :: rest =>
    if off < o then none
    else if off < o2 then some (b, l * ((o2 - o : Nat) : Int) + (l2 - l) * ((off - o : Nat) : Int), o2 - o)
    else maskLimit off (b + 1) ((o2, l2) :: rest)

/-- The width of the monitor's bins and the span they cover on either side, in kHz (R131). -/
def FrontEnd.maskBins (f : FrontEnd) : Nat × Nat := if f.band = 1 then (50, 42000) else (10, 15000)

/-- The in-channel power: the total of the bins whose offset is below that of breakpoint 0 (R131). `bins` gives bins by their number from
the transmit frequency, each with its power, and `width` is that of a bin in kHz. -/
def inChannel (width : Nat) (mask : List (Nat × Int)) (bins : List (Int × Nat)) : Nat :=
  ((bins.filter fun b => decide (b.1.natAbs * width < (mask.headD (0, 0)).1)).map (·.2)).foldl (· + ·) 0

/-- The power of a bin. -/
def binPower (bins : List (Int × Nat)) (bin : Int) : Nat := ((bins.filter fun b => b.1 == bin).map (·.2)).foldl (· + ·) 0

/-- Power `p` stands more than `x / den` quarter dB above power `q`: 40 log p > 40 log q + x / den, without logarithms. -/
def standsAbove (p q : Nat) (x : Int) (den : Nat) : Bool :=
  decide (q ^ (40 * den) * 10 ^ x.toNat < p ^ (40 * den) * 10 ^ (-x).toNat)

/-- By how many whole quarter dB `p` exceeds the limit `x / den` above `q`, counted from `e` on. -/
def excessOver (p q : Nat) (x : Int) (den : Nat) : Nat → Nat → Nat
  | 0, e => e
  | fuel + 1, e => if standsAbove p q (x + ((e + 1) * den : Nat)) den then excessOver p q x den fuel (e + 1) else e

/-- An analysis period of 64 µs from T0, the second or a later one, has ended within the last 1 µs (R131, R132). -/
def State.periodEnds (s : State) (r : TxReq) : Bool :=
  decide (r.t0 + 128000 * uNs ≤ s.devTime) && decide ((s.devTime - r.t0) % (64000 * uNs) ≤ 1000 * uNs)

/-- MASK_VIOLATION (R131, R132): `first` and `second` give the bins of the last two analysis periods, `bin` the number of the one that
stands above its limit in both. -/
def maskViolation (p : Nat) (bin : Int) (first second : List (Int × Nat)) : Act := .read fun s =>
  match (s.port p).req with
  | none => .skip
  | some r =>
  let w := (s.feOf r).maskBins
  let off := bin * (w.1 : Int)
  let mask := (s.port p).keyed.mask
  match maskLimit off.natAbs 0 mask with
  | none => .skip
  | some (b, lim, den) =>
    let above (bins : List (Int × Nat)) : Bool := standsAbove (binPower bins bin) (inChannel w.1 mask bins) lim den
    if s.onAir p ∧ (s.port p).keyed.maskOn ∧ off.natAbs ≤ w.2 ∧ s.periodEnds r ∧ above first ∧ above second then
      let excess := excessOver (binPower second bin) (inChannel w.1 mask second) lim den 1024 0
      let last := b * 2 ^ 56 + unsgn 24 off * 2 ^ 32 + excess % 65536
      acts [inc (R.MASK_VIOL p), wr (R.MK_LAST p) last, raise 0x0402 p (p + last / 2 ^ 32 * 2 ^ 32),
        driverOff p, cutAt p 2 s.devTime]
    else .skip

/-- P_TX_UNLOCK (R124, Table PORT-5). DESIGN CHOICE: log 160. -/
def txUnlock (p : Nat) : Act := .read fun s => acts [
  onlyIf (s.rd (R.P_STATE p) == 6) (acts [wr (R.P_STATE p) 2, wr (R.P_LOCK_CAUSE p) 0]),
  onlyIf (s.rd (R.P_STATE p) == 1) (wr (R.P_LOCK_CAUSE p) 0),
  wr (R.TS_FAIL_RUN p) 0, onlyIf (s.rd (R.TS_STATE p) == 4) (wr (R.TS_STATE p) 0)]

/-! ## Mute lines (R14, Table PORT-5) -/

/-- One port meets the assertion of its tile's mute line. -/
def mutePort (p : Nat) : Act := .read fun s =>
  match s.rd (R.P_STATE p) with
  | 3 => endPending p 7
  | 4 => acts [wr (R.P_STATE p) 2, endPending p 7, idleNow p]
  | 5 => acts [driverOff p, onlyIf (s.onAir p) (cutAt p 1 s.devTime)]
  | _ => .skip

/-- The mute line of a tile is asserted. -/
def muteTile (t : Nat) : Act := .read fun s =>
  if s.eng.radio.mute.contains t then .skip
  else acts [setRadio fun g => { g with mute := t :: g.mute }, forAll (List.range 6) fun k => mutePort (6 * t + k)]

/-- The mute line of a tile is released. -/
def unmuteTile (t : Nat) : Act := setRadio fun g => { g with mute := g.mute.filter (· ≠ t) }

/-- A reason to mute all four tiles arises; the mute line is released when none is left (R14, R485). -/
def muteFor (r : Nat) : Act := acts [setRadio fun g => { g with why := r :: g.why.filter (· ≠ r) }, forAll (List.range 4) muteTile]

def unmuteFor (r : Nat) : Act := .read fun s =>
  let left := s.eng.radio.why.filter (· ≠ r)
  acts [setRadio fun g => { g with why := left },
    onlyIf (left.isEmpty && s.eng.radio.why.contains r) (forAll (List.range 4) unmuteTile)]

/-! ## The AGC (R133 to R136) -/

/-- The lanes whose frames an AGC break ends: those of a preamble detected in the same DCLK cycle keep theirs (R135). -/
def State.breakLanes (s : State) (p : Nat) : List Nat := (s.busyLanes p).filter fun l => match (s.lane l).frame with
  | some f => decide (f.cycle < s.dclk)
  | none => false

/-- AGC_BREAK (R134): `clipped` of the last 128 samples clip. -/
def agcBreak (p clipped : Nat) : Act := .read fun s =>
  let ls := s.breakLanes p
  if s.rd (R.AGC_STATE p) = 2 ∧ s.rd (R.AGC_MODE p) = 0 ∧ 64 < clipped then
    acts [wr (R.AGC_STATE p) 3, alsoEndsPort p 4, forAll ls fun l => endFrame l 4 [], inc (R.AGC_BREAKS p), raise 0x0401 p (p + ls.length * 256)]
  else .skip

/-- AGC_SETTLING_END (R135): the gain has settled for an input of `pow` quarter dBm. -/
def agcSettled (p : Nat) (pow : Int) : Act := .read fun s =>
  if s.rd (R.AGC_STATE p) = 3 then
    acts [wr (R.AGC_GAIN p) (s.agcGain p pow),
      wr (R.AGC_STATE p) (if (s.busyLanes p).isEmpty then 1 else 2)]
  else .skip

/-- LNA_BYPASS_CHANGE (R136): the input power is `pow` quarter dBm. -/
def lnaChange (p : Nat) (pow : Int) : Act := .read fun s =>
  let thr := s.rdi (R.LNA_BYP_THR p)
  .seq (agcTracks p pow) <| if fld (s.rd (R.P_FE_CTRL p)) 13 12 = 3 ∧ s.rd (R.AGC_STATE p) = 1 then
    if thr < pow then setPort p fun x => { x with agcByp := true }
    else if pow ≤ thr - 24 then setPort p fun x => { x with agcByp := false }
    else .skip
  else .skip

/-! ## Tile commands (R12) -/

/-- TILE_TIMED_COMMAND: a retune without a request, a key, an unkey, an antenna switch or a blank, executed at the device time `u` that it
carries, to within one period of QCLK, 5 ns. DEDUCED: log 53. -/
def tileCommand (p u : Nat) (c : TileCmd) : Act := .read fun s =>
  if ¬ s.onTime (u * uNs) then .skip else match c with
  | .retune f => if s.rd (R.P_STATE p) = 2 ∧ s.needsCal p f then beginCal p f else .skip
  | .key => keyingStart p []
  | .unkey => txFrameEnd p
  | .antenna tx => if s.rd (R.P_STATE p) = 5 ∨ s.rd (R.P_STATE p) = 0 then .skip else setPort p fun x => { x with antTx := tx }
  | .blank true => blankPort s.devTime p
  | .blank false => unblankPort s.devTime p

/-! ## The wake receiver (R139, R140) -/

/-- A pattern is accepted after at least 8 preamble bits and the start delimiter 0xE5. -/
def wakeFramed (preamble delimiter : Nat) : Bool := decide (8 ≤ preamble) && delimiter == 0xE5

/-- The word that an accepted pattern matched (WK_LAST): unit first, then group. -/
def wakeMatch (w : Nat × Nat × Bool × Nat) (word : Nat) : Nat :=
  if popcount (bxor w.1 word) ≤ w.2.2.2 then 1
  else if w.2.2.1 ∧ popcount (bxor w.2.1 word) ≤ w.2.2.2 then 2 else 0

end Sys2Proof.Machine
end

