-- ==== Sys2Proof/Machine/DeepLink.lean ====
section
/-! DEFINITION. Deep Link reception (07_coding_deep_link.md R173, R182 to R191): header decoding, the combine store, the
decoder pool. -/

namespace Sys2Proof.Machine

def setDl (f : DlEng → DlEng) : Act := eng fun e => { e with dl := f e.dl }

/-- DL_HEADER_DECODE (R173) of 32 header bits. -/
def headerReceived (l w : Nat) : Act := .read fun s =>
  match (s.lane l).frame with
  | none => .skip
  | some f =>
    let p := s.rd (R.L_PORT l)
    if !(s.inRx l) || modeFamily f.mode != 5 || f.hdr.isSome then .skip
    else match dlDecodeHeader w with
      | some h => acts [inc (R.DL_COPIES p), setLane l { (s.lane l) with frame := some { f with hdr := some h } }]
      | none => acts [inc (R.DL_HDR_FAIL p), afterFrame l p]

/-- DL_HEADER_DECODE (R173): the 256 chips of the header as soft values, positive for 0. The sign of a correlation of 0 is open.
DESIGN CHOICE: log 175. -/
def dlHeaderDecode (l : Nat) (chips : List Int) : Act :=
  let sums := headerSums chips
  if sums.contains 0 then takeFree fun v => headerReceived l (headerBits v sums) else headerReceived l (headerBits 0 sums)

/-! ## Groups -/

/-- GR_INFO of a group (Table CODE-11). -/
def grInfo (g : DlGroup) : Nat :=
  let conv := (g.words.zipIdx.foldl fun a w => if w.1.conv.isSome then a + 2 ^ w.2 else a) 0
  g.state * 2 ^ 61 + g.port * 2 ^ 56 + g.copies * 2 ^ 48 + dlRate g.hdr * 2 ^ 47 + (dlWords g.hdr - 1) * 2 ^ 45 +
    dlTotal g.hdr * 2 ^ 42 + dlTag g.hdr * 2 ^ 35 + conv * 2 ^ 31

/-- A group takes a new value, shown in GR_INFO. -/
def setGroup (i : Nat) (g : DlGroup) : Act := acts [setDl fun d => { d with groups := d.groups.set i g },
  wr (R.GR_INFO i) (grInfo g)]

/-- Contexts return to the pool. -/
def freeContexts (p n : Nat) : Act := acts [addTo R.POOL_CTX_FREE n,
  .read fun s => wr (R.DL_CTX_HELD p) (s.rd (R.DL_CTX_HELD p) - n)]

/-- DEC_QUEUED shows the requests that wait. -/
def countQueued : Act := .read fun s =>
  wr R.DEC_QUEUED ((s.eng.dl.queues.map fun q => q.2.length).foldl (· + ·) 0)

/-- A group and its record are freed; its queued requests are withdrawn, and its running decodes end without effect. -/
def freeGroup (i : Nat) : Act := .read fun s =>
  match aget s.eng.dl.groups i with
  | none => .skip
  | some g => acts [
      setDl fun d => { d with
        groups := d.groups.clear i
        queues := d.queues.set g.port ((d.queues.at g.port []).filter fun q => q.1 != i) },
      onlyIf (g.state != 3) (freeContexts g.port (dlWords g.hdr)),
      .read fun s => wr R.POOL_GROUPS s.eng.dl.groups.length,
      wrs (R.GR_INFO i) [0, 0, 0], countQueued]

/-- The same frame: port, TAG, RATE, NCW and REP_TOTAL agree (R183). -/
def sameFrame (g : DlGroup) (c : DlCopy) : Bool :=
  g.port == c.port && setFld g.hdr 9 7 0 == setFld c.hdr 9 7 0

/-- R183: the groups a copy matches, with their indexes. -/
def State.dlMatches (s : State) (c : DlCopy) : List (Nat × DlGroup) :=
  s.eng.dl.groups.filter fun e => sameFrame e.2 c && decide (s.now < e.2.first + e.2.span) &&
    !(bit? e.2.copies (dlIndex c.hdr))

/-- The group opened last. -/
def latestGroup : List (Nat × DlGroup) → Option (Nat × DlGroup)
  | [] => none
  | x :: rest => some (rest.foldl (fun b y => if b.2.serial < y.2.serial then y else b) x)

/-- R182: the sum of two LLRs saturates at ±127. -/
def llrAdd (a b : Int) : Int := min 127 (max (-127) (a + b))

/-- A copy's LLRs are added to a codeword, and a decode is asked for unless it has converged (R184). -/
def addToWord (w : DlWord) (l : List Int) : DlWord :=
  let ctx := List.zipWith llrAdd w.ctx l
  if w.conv.isSome then { w with ctx := ctx }
  else if w.running then { w with ctx := ctx, again := true }
  else { w with ctx := ctx, queued := true }

/-- The codewords that asked for a decode and did not before. -/
def newlyQueued (old new : List DlWord) : List Nat :=
  ((old.zip new).zipIdx.filter fun x => x.1.2.queued && !x.1.1.queued).map (·.2)

/-- Decode requests join their port's queue. -/
def queueDecodes (i port : Nat) (words : List Nat) : Act := .read fun s => acts [
  setDl fun d => { d with queues := d.queues.set port (d.queues.at port [] ++ words.map fun w => (i, w, s.now)) },
  countQueued]

/-- OPEN or DECODING by whether a decode waits or runs. -/
def groupState (ws : List DlWord) : Nat := if ws.any fun w => w.queued || w.running then 2 else 1

/-- A copy joins a group. -/
def addCopy (i : Nat) (g : DlGroup) (c : DlCopy) : Act :=
  let ws := (g.words.zip c.llrs).map fun x => addToWord x.1 x.2
  let g' := { g with words := ws, copies := setBit g.copies (dlIndex c.hdr), state := groupState ws, last := { c with llrs := [] } }
  acts [setGroup i g', queueDecodes i g.port (newlyQueued g.words ws)]

/-- The oldest DELIVERED record. -/
def State.oldestDelivered (s : State) : Option Nat :=
  let ds := s.eng.dl.groups.filter fun e => e.2.state == 3
  match ds with
  | [] => none
  | x :: rest => some (rest.foldl (fun b y => if y.2.serial < b.2.serial then y else b) x).1

/-- The lowest free group record. -/
def State.freeRecord (s : State) : Option Nat :=
  (List.range (s.eng.dl.groups.length + 1)).find? fun i => decide (i < 4096) && (aget s.eng.dl.groups i).isNone

/-- A copy that matches no group opens one, or is discarded (R183). -/
def openGroup (c : DlCopy) : Act := .read fun s =>
  let n := dlWords c.hdr
  let refused := acts [inc (R.DL_NO_CONTEXT c.port), raiseMs c.port 0x0601 c.port c.port]
  if s.rd R.POOL_CTX_FREE < n ∨ s.rd (R.DL_CTX_MAX c.port) < s.rd (R.DL_CTX_HELD c.port) + n then refused
  else acts [
    onlyIf (s.freeRecord).isNone (match s.oldestDelivered with
      | some i => freeGroup i
      | none => .skip),
    .read fun s => match s.freeRecord with
      | none => refused
      | some i =>
        let blank : DlWord := ⟨List.replicate (dlBits (dlRate c.hdr)) 0, none, false, false, false⟩
        let g : DlGroup := ⟨s.eng.dl.opened, c.port, c.hdr, c.ended, s.rd R.DL_SPAN * 1000000, 0, 1,
          List.replicate n blank, { c with llrs := [] }⟩
        acts [setDl fun d => { d with opened := d.opened + 1 },
          wr R.POOL_CTX_FREE (s.rd R.POOL_CTX_FREE - n), addTo (R.DL_CTX_HELD c.port) n,
          addCopy i g c, wrTime (R.GR_FIRST i 0) c.tSof,
          .read fun s => wr R.POOL_GROUPS s.eng.dl.groups.length]]

/-- DL_COPY_COMBINE (R182 to R184): the next copy handed over joins a group, opens one, or is surplus. -/
def dlCombine : Act := .read fun s =>
  match s.eng.lane.copies with
  | [] => .skip
  | c :: rest => acts [setLaneEng fun g => { g with copies := rest },
      match latestGroup (s.dlMatches c) with
      | none => openGroup c
      | some (i, g) =>
        if g.state = 3 then acts [inc (R.DL_SURPLUS c.port),
          setDl fun d => { d with surplus := d.surplus ++ [(i, { c with llrs := [] })] }]
        else addCopy i g c]

/-! ## The decoder pool (R186 to R188) -/

/-- The port queues with a waiting request, as the arbiter sees them (R188). -/
def State.decodeWaiting (s : State) : List (Nat × Nat × Nat) :=
  s.eng.dl.queues.filterMap fun q => match q.2 with
    | [] => none
    | h :: _ => some (q.1, h.2.2, s.rd (R.DL_TICKETS q.1))

/-- The lowest free decoder. -/
def State.freeDecoder (s : State) : Option Nat :=
  (List.range 32).find? fun d => (aget s.eng.dl.decoders d).isNone

/-- The head request of a port's queue starts on a decoder. -/
def startDecode (d p : Nat) : Act := .read fun s =>
  match s.eng.dl.queues.at p [] with
  | [] => .skip
  | (i, w, _) :: rest =>
    match aget s.eng.dl.groups i with
    | none => setDl fun x => { x with queues := x.queues.set p rest }
    | some g => acts [
        setDl fun x => { x with
          queues := x.queues.set p rest
          decoders := x.decoders.set d ⟨p, i, w, g.serial, g.last, (g.words.getD w ⟨[], none, false, false, false⟩).ctx⟩ },
        setGroup i { g with
          words := g.words.zipIdx.map fun x => if x.2 = w then { x.1 with queued := false, running := true, again := false } else x.1
          state := 2 },
        inc (R.DL_DECODES p), inc R.DEC_BUSY, countQueued]

/-- DL_DECODE_GRANT (R188, R440): a free decoder is granted by the lottery. -/
def dlGrant : Act := .read fun s =>
  match s.freeDecoder with
  | none => .skip
  | some d => arbGrant 1 s.decodeWaiting (startDecode d)

/-- The information octets of converged codewords. -/
def dlInfo (ws : List DlWord) : List Nat := ws.flatMap fun w => bitOctets ((w.conv.getD []).take 576)

/-- R185: every decode that includes the copy of REP_IDX equal to REP_TOTAL has ended, so the group fails. -/
def failCheck (i : Nat) : Act := .read fun s =>
  match aget s.eng.dl.groups i with
  | none => .skip
  | some g =>
    onlyIf (g.state == 1 && bit? g.copies (dlTotal g.hdr))
      (acts [freeGroup i, inc (R.DL_FAILED g.port), raise 0x0602 g.port (g.port + dlTag g.hdr * 256)])

/-- The end of a copy's last symbol at the antenna plane (R168: the header's chips and the payload follow the RMARKER). -/
def dlCopyEnd (c : DlCopy) : Nat := c.tSof + (256 + dlWords c.hdr * dlBits (dlRate c.hdr)) * 80000 * uNs

/-- Every codeword has converged: the frame check decides (R184, R189). -/
def dlFinish (i : Nat) (g : DlGroup) (c : DlCopy) : Act :=
  match dlFrameCheck (dlWords g.hdr) (dlInfo g.words) with
  | some psdu => .read fun s => acts [
      setGroup i { g with state := 3, words := g.words.map fun w => { w with ctx := [], queued := false, running := false } },
      freeContexts g.port (dlWords g.hdr),
      inc (R.DL_DELIVERED g.port), inc (R.DL_AFTER g.port (popcount g.copies - 1)),
      pushRecord ⟨0, c.port, c.lane, c.channel, psdu.length, 0x5000000000000000, c.rssi, c.lqi, c.cfo, c.tSof, c.tDet,
        c.bind, psdu, some (dlCopyEnd c, dlTag c.hdr)⟩]
  | none => acts [inc (R.DL_MISCONV g.port), raise 0x0604 g.port (g.port + dlTag g.hdr * 256),
      setGroup i { g with state := 1, words := g.words.map fun w => { w with conv := none } }, failCheck i]

/-- The outcome of a running decode: whether it converged, its iterations and hard decisions (R186). -/
def State.decodeOf (s : State) (r : DlRun) : Bool × Nat × List Nat :=
  minSum (if r.vals.length = dlBits 0 then 0 else 1) (s.rd R.DL_OFFSET) (s.rd R.DL_MAX_ITER) r.vals

/-- DL_DECODE_END (R186, R184): a decode stops, converged or after DL_MAX_ITER iterations. DESIGN CHOICE: log 60. -/
def dlDecodeEnd (d : Nat) : Act := .read fun s =>
  match aget s.eng.dl.decoders d with
  | none => .skip
  | some r =>
    let res := s.decodeOf r
    let ok := res.1
    let hard := res.2.2
    acts [
      setDl fun x => { x with decoders := x.decoders.clear d },
      .read fun s => wr R.DEC_BUSY s.eng.dl.decoders.length,
      addTo R.DEC_ITERATIONS res.2.1,
      match aget s.eng.dl.groups r.group with
      | none => .skip
      | some g =>
        if g.serial ≠ r.serial ∨ g.state = 3 then .skip
        else
          let again := (g.words.getD r.word ⟨[], none, false, false, false⟩).again
          let upd (w : DlWord) : DlWord :=
            if ok then { w with conv := some hard, running := false, again := false }
            else { w with running := false, queued := again, again := false }
          let ws := g.words.zipIdx.map fun x => if x.2 = r.word then upd x.1 else x.1
          let g' := { g with words := ws, state := groupState ws }
          acts [onlyIf (!ok) (inc (R.DL_ITER_LIMIT g.port)),
            if ws.all fun w => w.conv.isSome then dlFinish r.group g' r.copy
            else acts [setGroup r.group g', onlyIf (!ok && again) (queueDecodes r.group g.port [r.word]),
              failCheck r.group]]]

/-- DL_GROUP_EXPIRE (R185): the span of a group has ended. -/
def dlExpire (i : Nat) : Act := .read fun s =>
  match aget s.eng.dl.groups i with
  | none => .skip
  | some g =>
    if s.now < g.first + g.span then .skip
    else acts [freeGroup i, onlyIf (g.state != 3)
      (acts [inc (R.DL_EXPIRED g.port), raise 0x0603 g.port (g.port + dlTag g.hdr * 256)])]

/-- A Block reset of the combine store or the decoder pool frees every group and context (R185). -/
def dlResetAll : Act := .read fun s => acts [forAll (s.eng.dl.groups.map (·.1)) freeGroup,
  setDl fun d => { d with decoders := [], queues := [], surplus := [] },
  wr R.DEC_BUSY 0, wr R.DEC_QUEUED 0, setLaneEng fun g => { g with copies := [] }]

/-- R181: the TAG of the next frame that the port sends. -/
def takeTag (p : Nat) (k : Nat → Act) : Act := .read fun s =>
  let tag := s.rd (R.DL_TX_TAG p)
  .seq (wr (R.DL_TX_TAG p) ((tag + 1) % 128)) (k tag)

end Sys2Proof.Machine
end

