-- ==== Sys2Proof/Machine/Tally.lean ====
section
/-! DEFINITION. The tally (10_tally.md R250 to R262): sub-bands, accounts, admission, bins. -/

namespace Sys2Proof.Machine

def setTally (f : TallyEng → TallyEng) : Act := eng fun e => { e with tally := f e.tally }

/-- Units of device time in one microsecond. -/
def uUs : Nat := 1000 * uNs

/-- R251: the sub-band of a transmission, in twice-scaled frequencies. -/
def State.subBand (s : State) (freq width : Nat) : Option Nat :=
  (List.range 32).find? fun b =>
    let lo := s.rd (R.SB_LOW b)
    let hi := s.rd (R.SB_HIGH b)
    decide (lo < hi) && decide (2 * lo + width ≤ 2 * freq) && decide (2 * freq + width ≤ 2 * hi)

/-- R252: the account of a port in a sub-band. -/
def State.account (s : State) (p b : Nat) : Nat := 32 * s.rd (R.TP_GROUP p) + b

/-- R253: what admission reserves, in µs. -/
def State.reservation (s : State) (x : TallyTx) : Nat := cdiv (x.dur + 2 * s.rd (R.P_RAMP x.port) * uNs) uUs

def binsEmpty : Bins := ⟨[], 0, []⟩

/-- AC_USED: the sum of the window (R254). -/
def windowSum (b : Bins) : Nat := b.closed.foldl (· + ·) 0 + b.fill * (3600 - b.closed.length)

/-- The airtime of an account that is reserved and not in a bin. -/
def State.reserved (s : State) (a : Nat) : Nat :=
  ((s.eng.tally.resv.filter fun r => r.acct == a).map fun r => r.fin.getD r.amount - r.moved).foldl (· + ·) 0

/-- AC_RESERVED follows the reservations. -/
def countReserved (a : Nat) : Act := .read fun s => wr (R.AC_RESERVED a) (s.reserved a)

/-- The dwell sum of a channel: its last DWELL_S bins and what is reserved on it. -/
def State.dwellSum (s : State) (a ch secs : Nat) : Nat :=
  ((((s.eng.tally.bins.at a binsEmpty).dwell.at ch []).take secs).foldl (· + ·) 0) +
    ((s.eng.tally.resv.filter fun r => r.acct == a && r.chan == ch).map fun r =>
      r.fin.getD r.amount - r.moved).foldl (· + ·) 0

/-- The dwell channel of a transmission (R256). -/
def State.dwellChan (s : State) (b freq : Nat) : Nat :=
  (freq - s.rd (R.SB_LOW b)) / fld (s.rd (R.SB_DWELL b)) 23 0

/-- What the tally answers to one transmission of a request, given those before it: a cause with its account, or the account,
dwell channel and amount to reserve (R256). -/
def State.judgeTx (s : State) (before : List (Nat × Nat × Nat)) (x : TallyTx) : Sum (Nat × Nat) (Nat × Nat × Nat) :=
  match s.subBand x.freq x.width with
  | none => .inl (1, 0)
  | some b =>
    let acc := s.account x.port b
    let a := s.reservation x
    let dw := s.rd (R.SB_DWELL b)
    let ch := if fld dw 23 0 = 0 then 0 else s.dwellChan b x.freq
    let pending := ((before.filter fun y => y.1 == acc).map fun y => y.2.2).foldl (· + ·) 0
    let pendingDwell := ((before.filter fun y => y.1 == acc && y.2.1 == ch).map fun y => y.2.2).foldl (· + ·) 0
    if 0 < s.rd (R.SB_MAX_TX b) ∧ s.rd (R.SB_MAX_TX b) * 1000 < a then .inl (2, acc)
    else if (match x.cca with | some c => decide (c < fld (s.rd (R.SB_LBT b)) 31 0) | none => false) then .inl (5, acc)
    else if s.rd (R.AC_OVER acc) = 1 ∨
        s.rd (R.SB_BUDGET b) * 1000 < s.rd (R.AC_USED acc) + s.rd (R.AC_RESERVED acc) + pending + a then .inl (3, acc)
    else if 0 < fld dw 47 32 ∧ fld dw 47 32 * 1000 < s.dwellSum acc ch (fld dw 31 24) + pendingDwell + a then .inl (4, acc)
    else .inr (acc, ch, a)

/-- The answer to a whole request: it is admitted whole or refused whole. -/
def State.judgeTxs (s : State) : List (Nat × Nat × Nat) → List TallyTx → Sum (Nat × Nat × Nat) (List (Nat × Nat × Nat))
  | done_, [] => .inr done_
  | done_, x :: rest =>
    match s.judgeTx done_ x with
    | .inl c => .inl (x.port, c)
    | .inr y => s.judgeTxs (done_ ++ [y]) rest

/-- A refusal (R258). -/
def refuse (port cause acct : Nat) : Act := .read fun s => acts [
  inc ⟨0x2430, 0, cause - 1⟩,
  onlyIf (cause != 1) (acts [inc (R.AC_REFUSED acct), wr (R.AC_LAST_CAUSE acct) cause]),
  raiseMs (s.rd (R.TP_GROUP port)) 0x0903 acct (port + cause * 256 + acct * 65536)]

/-- What a reservation has emitted by device time `c`; a frame that was cut emits no more after its actual ramp down (R253). -/
def State.emittedBy (s : State) (c : Nat) (r : TallyResv) : Nat :=
  match r.fin, r.start with
  | some e, _ => e
  | none, some st =>
    let fin := s.eng.radio.ports.findSome? fun e => (e.2.req.filter fun q => q.resv == some r.id).map s.rampEnd
    max r.moved (min r.amount ((min c (fin.getD c) - st) / uUs))
  | none, none => r.moved

/-- One account closes `n` bins, the first with `used` and the others empty; dwell bins likewise (R254). -/
def closeBins (n used : Nat) (dwell : List (Nat × Nat)) (b : Bins) : Bins :=
  let chans := ((b.dwell.map (·.1)) ++ dwell.map (·.1)).eraseDups
  let sumOf (ch : Nat) : Nat := ((dwell.filter fun d => d.1 == ch).map (·.2)).foldl (· + ·) 0
  { b with
    closed := (List.replicate (n - 1) 0 ++ used :: b.closed).take 3600
    dwell := chans.foldl (fun t ch =>
      let l := (List.replicate (n - 1) 0 ++ sumOf ch :: b.dwell.at ch []).take 60
      if l.all (· == 0) then t.clear ch else t.set ch l) b.dwell }

/-- AC_OVER follows AC_USED at a close (R260). -/
def judgeOver (a : Nat) : Act := .read fun s =>
  let ovr := decide (s.rd (R.SB_BUDGET (a % 32)) * 1000 < s.rd (R.AC_USED a))
  if ovr ∧ s.rd (R.AC_OVER a) = 0 then acts [wr (R.AC_OVER a) 1, inc R.TL_OVER_COUNT, raise 0x0901 a a]
  else if ¬ ovr ∧ s.rd (R.AC_OVER a) = 1 then
    acts [wr (R.AC_OVER a) 0, wr R.TL_OVER_COUNT (s.rd R.TL_OVER_COUNT - 1), raise 0x0902 a a]
  else .skip

/-- One account at a bin close. -/
def closeAccount (n c a : Nat) : Act := .read fun s =>
  let mine := s.eng.tally.resv.filter fun r => r.acct == a
  let moves := mine.map fun r => (r.chan, s.emittedBy c r - r.moved)
  let used := (moves.map (·.2)).foldl (· + ·) 0
  let b := closeBins n used moves (s.eng.tally.bins.at a binsEmpty)
  acts [setTally fun t => { t with
      bins := t.bins.set a b
      resv := t.resv.filterMap fun r => if r.acct ≠ a then some r
        else if r.fin = some (s.emittedBy c r) then none else some { r with moved := s.emittedBy c r } },
    wr (R.AC_USED a) (windowSum b), countReserved a, judgeOver a]

/-- `n` bins close, the first with what is emitted by device time `c` (R254). -/
def closeSeconds (n c : Nat) : Act := .read fun s =>
  let accts := ((s.eng.tally.bins.map (·.1)) ++ s.eng.tally.resv.map fun r => r.acct).eraseDups
  acts [forAll accts (closeAccount n c), setTally fun t => { t with openSec := t.openSec + n }]

/-- The seconds of device time whose bins have yet to close. -/
def State.secondsDue (s : State) : Nat := s.devTime / uSec - s.eng.tally.openSec

/-- The seconds that are due close one by one, at most so many of them. -/
def closeEach : Nat → Act
  | 0 => .skip
  | k + 1 => .read fun s => onlyIf (s.secondsDue != 0) (.seq (closeSeconds 1 ((s.eng.tally.openSec + 1) * uSec)) (closeEach k))

/-- TALLY_BIN_CLOSE (R254): the bins of every second that device time has passed close: each with what was emitted in it while anything
may be on air, and those after that empty. -/
def tallyBinClose : Act := .read fun s => .seq (closeEach (if s.eng.tally.resv.isEmpty then 0 else 128)) (.read fun s =>
  onlyIf (s.secondsDue != 0) (closeSeconds s.secondsDue ((s.eng.tally.openSec + 1) * uSec)))

/-- A bin close that is due comes before a request is judged (R257). DESIGN CHOICE: log 151. -/
def binsFirst : Act := .read fun s => onlyIf (s.rd (R.BL_STATE 9) == 0) tallyBinClose

/-- Device time steps from `old` to `new` (R378): what is on air or blanked goes on in true time, so its instants step along (R253, R254).
DEDUCED: log 201. -/
def shiftAir (old new : Nat) : Act := .read fun s =>
  let sh (u : Nat) : Nat := u + new - old
  let keyed (p : Nat) : Bool := s.rd (R.P_STATE p) == 5
  acts [
    setRadio fun g => { g with ports := g.ports.map fun e => (e.1, { e.2 with
      blankFrom := e.2.blankFrom.map sh
      req := if keyed e.1 then e.2.req.map fun r => { r with t0 := sh r.t0, t1 := sh r.t1, limit := sh r.limit, off := r.off.map sh } else e.2.req
      keyed := { e.2.keyed with sats := e.2.keyed.sats.map sh } }) },
    setTally fun t => { t with resv := t.resv.map fun r => { r with start := r.start.map sh } }]


/-- Admission of a request (R256, R257): with the numbers of the reservations, in order, or with the cause of refusal.
DEDUCED: log 69. -/
def admitTx (txs : List TallyTx) (ok : List Nat → Act) (no : Nat → Act) : Act := .seq binsFirst <| .read fun s =>
  match s.judgeTxs [] txs with
  | .inl (port, cause, acct) => .seq (refuse port cause acct) (no cause)
  | .inr ys =>
    let n := s.eng.tally.nextResv
    let new := ys.zipIdx.map fun y => (⟨n + y.2, y.1.1, y.1.2.1, y.1.2.2, 0, none, none⟩ : TallyResv)
    acts [setTally fun t => { t with resv := t.resv ++ new, nextResv := n + ys.length },
      forAll ((ys.map fun y => y.1).eraseDups) countReserved,
      ok ((List.range ys.length).map fun k => n + k)]

/-- A reservation changes. -/
def updResv (id : Nat) (f : TallyResv → Option TallyResv) : Act := .read fun s =>
  match s.eng.tally.resv.find? fun r => r.id == id with
  | none => .skip
  | some r => acts [
      setTally fun t => { t with resv := t.resv.filterMap fun x => if x.id = id then f x else some x },
      countReserved r.acct]

/-- The ramp up of an admitted transmission begins at device time `u` (R253). -/
def resvStart (id u : Nat) : Act := updResv id fun r => some { r with start := some u }

/-- An admitted transmission ended without emitting: its reservation returns whole (R254). -/
def resvReturn (id : Nat) : Act := updResv id fun r =>
  if r.fin.isSome then some r else if r.moved = 0 then none else some { r with fin := some r.moved }

/-- An admitted transmission ended, its ramp down ending at device time `u`: what was never emitted returns (R254). -/
def resvEnd (id u : Nat) : Act := updResv id fun r =>
  match r.fin, r.start with
  | some _, _ => some r
  | none, none => none
  | none, some st =>
    let e := max r.moved (min r.amount (cdiv (u - st) uUs))
    if e = r.moved then none else some { r with fin := some e }

/-- A Block reset of the tally: what is on air is charged in full (Table RESET-2). -/
def tallyHeld : Act := .read fun s => acts [
  setTally fun t => { t with resv := t.resv.map fun r => if r.start.isSome && r.fin.isNone then { r with fin := some r.amount } else r },
  forAll ((s.eng.tally.resv.map fun r => r.acct).eraseDups) countReserved]

/-- An apply of SB_BUDGET: accounts of the sub-band that exceed it are over (R260). -/
def budgetApplied (b : Nat) : Act := .read fun s =>
  forAll ((s.eng.tally.bins.map (·.1)).filter fun a => a % 32 == b && s.rd (R.AC_OVER a) == 0) judgeOver

/-- The tally runs again: cuts of a budget that came while it was held have their effect (R260, R475). -/
def tallyOpens : Act := forAll (List.range 32) budgetApplied

/-- R261: the sub-band that fails a commit whose outcome would be `s`. -/
def State.tallyCommitFault (s : State) (refs : List Ref) : Option Ref :=
  (((refs.filter fun r => r.idx == 0x2410).map fun r => r.inst).eraseDups.find? fun b =>
    let dw := s.rd (R.SB_DWELL b)
    decide (s.rd (R.SB_LOW b) < s.rd (R.SB_HIGH b)) && decide (0 < fld dw 47 32) &&
      (decide (256 * fld dw 23 0 < s.rd (R.SB_HIGH b) - s.rd (R.SB_LOW b)) || fld dw 31 24 == 0 || fld dw 23 0 == 0)).map
    R.SB_DWELL

/-- The tally restarts at a release of System reach or wider (R255). -/
def tallyRestart : Act := .read fun s =>
  let fillOf (b : Nat) : Nat := if s.rd R.TL_BOOT_FILL = 1 then cdiv (s.rd (R.SB_BUDGET b) * 1000) 3600 else 0
  let bands := (List.range 32).filter fun b => fillOf b != 0
  acts [setTally fun t => { t with bins := [], resv := [], openSec := s.devTime / uSec },
    forAll ((List.range 24).flatMap fun g => bands.map fun b => 32 * g + b) fun a =>
      acts [setTally fun t => { t with bins := t.bins.set a ⟨[], fillOf (a % 32), []⟩ },
        wr (R.AC_USED a) (windowSum ⟨[], fillOf (a % 32), []⟩), judgeOver a]]

/-- R259: the clear-channel rule of the sub-band of a transmission: CS, threshold and shortest window. -/
def State.lbtOf (s : State) (freq width : Nat) : Option (Bool × Int × Nat) :=
  match s.subBand freq width with
  | none => none
  | some b =>
    let w := s.rd (R.SB_LBT b)
    if bit? w 63 then some (bit? w 62, sgn 16 (fld w 47 32), fld w 31 0) else none

/-- The lane sits on the very stream of its plan channel: a FIXED lane with an offset sits beside it (R142). -/
def State.onChannel (s : State) (l ch : Nat) : Bool :=
  s.rd (R.L_CHANNEL l) == ch && (s.rd (R.LM_BIND l) == 1 || s.rd (R.LM_OFFSET l) == 0)

/-- R259: the channel is busy. -/
def State.channelBusy (s : State) (p ch : Nat) (lbt : Bool × Int × Nat) (power : Int) : Bool :=
  decide (lbt.2.1 ≤ power) || (lbt.1 && (s.rxLanes p).any fun l => s.onChannel l ch)

end Sys2Proof.Machine
end

