-- ==== Sys2Proof/Machine/Fabric.lean ====
section
/-! DEFINITION. The Kolnath fabric (18_fabric.md R414 to R432): links, packets, reliable delivery, credits and routes. -/

namespace Sys2Proof.Machine

def setFab (f : FabEng → FabEng) : Act := eng fun e => { e with fab := f e.fab }

def linkRest : FabLink := ⟨0, 1, [], 0, 0, false, 0, [0, 0, 0, 0], [0, 0, 0, 0], [0, 0, 0, 0], [0, 0, 0, 0], [0, 0, 0, 0], [], [], 0, (0, 0), (0, [0, 0, 0, 0], 0)⟩

def State.flink (s : State) (l : Nat) : FabLink := s.eng.fab.links.at l linkRest

def setLink (l : Nat) (f : FabLink → FabLink) : Act := setFab fun g =>
  { g with links := g.links.set l (f (g.links.at l linkRest)) }

/-- The unit is a pair member (R392, Table PINS-11). -/
def State.pairMember (s : State) : Bool := fld (s.rd R.STRAPS) 9 8 == 1

def State.linkUp (s : State) (l : Nat) : Bool := s.rd (R.FB_STATE l) == 3

/-- The ordinary links that are UP, lowest first. -/
def State.ordinaryUp (s : State) : List Nat :=
  (List.range 6).filter fun l => s.linkUp l && s.rd (R.FB_ROLE l) == 0

/-- The pair link while it is UP (R428). -/
def State.pairLink (s : State) : Option Nat :=
  (List.range 6).find? fun l => s.linkUp l && s.rd (R.FB_ROLE l) == 1

/-! ## Packets (Table FAB-2) -/

/-- Word 0 of the header. -/
def fabWord0 (p : FabPkt) : Nat :=
  p.type * 2 ^ 56 + p.dst * 2 ^ 53 + p.src * 2 ^ 50 + b2n p.transit * 2 ^ 49 + p.payload.length % 256 * 2 ^ 40 +
    p.tag % 2 ^ 32

/-- The octets of words, least significant first (R416). -/
def natOctets (ws : List Nat) : List Nat := ws.flatMap (leOctets 8)

/-- Header, payload and trailer of a packet. -/
def fabWords (p : FabPkt) (ack lseq : Nat) : List Nat :=
  let body := fabWord0 p :: p.arg :: p.payload
  body ++ [ack * 2 ^ 44 + lseq * 2 ^ 32 + crc32 (natOctets body)]

/-- The words as a packet with its ACK and LSEQ, when LEN agrees with their number and the CRC passes. -/
def fabParse (ws : List Nat) : Option (FabPkt × Nat × Nat) :=
  match ws with
  | w0 :: w1 :: rest =>
    let len := fld w0 47 40
    let tr := rest.getD len 0
    if rest.length = len + 1 ∧ fld tr 31 0 = crc32 (natOctets (w0 :: w1 :: rest.take len)) then
      some (⟨fld w0 63 56, fld w0 55 53, fld w0 52 50, bit? w0 49, fld w0 31 0, w1, rest.take len⟩, fld tr 55 44, fld tr 43 32)
    else none
  | _ => none

/-- The payload lengths Table FAB-4 gives a type; none for an unknown type. -/
def fabLen (type : Nat) : Option (Nat × Nat) :=
  match type with
  | 0x01 => some (4, 4)
  | 0x02 | 0x03 | 0x04 | 0x15 | 0x32 | 0x34 | 0x35 => some (0, 0)
  | 0x10 | 0x11 | 0x14 | 0x33 => some (2, 2)
  | 0x12 | 0x13 => some (1, 1)
  | 0x20 => some (4, 255)
  | 0x30 => some (19, 19)
  | 0x31 => some (1, 128)
  | 0x81 | 0x82 | 0x83 | 0x90 | 0x92 | 0xB2 => some (0, 0)
  | 0xB4 => some (2, 2)
  | _ => none

/-- The types a pair link carries (R428). -/
def pairType (type : Nat) : Bool := [0x30, 0x31, 0x32, 0x33, 0x34, 0x35, 0xB2, 0xB4].contains type

/-- R422: the blocks a packet takes, and the pool it takes them from. -/
def fabBlocks (p : FabPkt) : Nat := cdiv (p.payload.length + 3) 8
def fabPool (p : FabPkt) : Nat := (if 128 ≤ p.type then 2 else 0) + b2n p.transit

def addAt (l : List Nat) (i n : Nat) : List Nat := l.zipIdx.map fun x => if x.2 = i then x.1 + n else x.1

/-- The sender's count leaves room for the packet. -/
def hasCredit (k : FabLink) (p : FabPkt) : Bool :=
  let i := fabPool p
  decide (k.sent.getD i 0 + fabBlocks p ≤ k.freed.getD i 0 + k.pools.getD i 0)

/-- LSEQ counts 1 to 4,095 and starts again at 1 (R419). -/
def nextSeq (n : Nat) : Nat := if 4095 ≤ n then 1 else n + 1

/-- `a` is ahead of `b` (R419). -/
def seqAhead (a b : Nat) : Bool :=
  let d := (a + 4095 - b) % 4095
  decide (1 ≤ d) && decide (d ≤ 2047)

/-! ## Link control (R417) -/

/-- A LINK_CTRL packet leaves at once. -/
def sendCtrl (l arg : Nat) (payload : List Nat) : Act := .read fun s =>
  emit (.fab l (fabWords ⟨0, 0, s.rd R.DEVNUM, false, 0, arg, payload⟩ (s.flink l).rxSeq 0))

def four16 (l : List Nat) : Nat :=
  l.getD 0 0 % 65536 * 2 ^ 48 + l.getD 1 0 % 65536 * 2 ^ 32 + l.getD 2 0 % 65536 * 2 ^ 16 + l.getD 3 0 % 65536

/-- STATUS (R417). -/
def sendStatus (l : Nat) : Act := .read fun s => acts [
  sendCtrl l ((s.flink l).rxSeq * 2 ^ 48) [four16 (s.flink l).given],
  setLink l fun x => { x with told := (x.rxSeq, x.given, s.now) }]

/-- NAK (R418). -/
def sendNak (l : Nat) : Act := .read fun s => sendCtrl l (2 ^ 60 + nextSeq (s.flink l).rxSeq * 2 ^ 48) []

/-- HELLO (R417). -/
def sendHello (l : Nat) : Act := .read fun s =>
  sendCtrl l (2 * 2 ^ 60 + s.rd R.DEVNUM * 2 ^ 56 + s.rd (R.FB_ROLE l) * 2 ^ 52 + s.rd R.FB_PROTO * 2 ^ 44 +
    s.rd R.FB_BRIDGE * 2 ^ 36) [Config.uid.toNat, four16 [1024, 256, 1024, 256]]

/-! ## Routes (R425) -/

/-- The first link of a path to device `d` over neighbour `n`, if the link can be the first. -/
def State.pathOver (s : State) (d l : Nat) : Option Nat :=
  if s.rd (R.FB_PEER l) = d then some (2 ^ 15 + l)
  else if bit? (s.flink l).topo d then some (2 ^ 15 + 2 ^ 14 + s.rd (R.FB_PEER l) * 256 + l)
  else none

/-- The last TOPO of neighbour `n`, which each ordinary link to it keeps; 0 for none. -/
def State.lastTopo (s : State) (n : Nat) : Nat :=
  ((s.ordinaryUp.find? fun l => s.rd (R.FB_PEER l) == n).map fun l => (s.flink l).topo).getD 0

/-- FR_PATH of device `d` (R425). -/
def State.fabPath (s : State) (d : Nat) : Nat :=
  let ups := s.ordinaryUp
  if d = s.rd R.DEVNUM then 0
  else if s.rd (R.FR_ROUTE d) < 6 then
    if ups.contains (s.rd (R.FR_ROUTE d)) then (s.pathOver d (s.rd (R.FR_ROUTE d))).getD 0 else 0
  else match ups.find? fun l => s.rd (R.FB_PEER l) == d with
    | some l => 2 ^ 15 + l
    | none =>
      let vias := (List.range 8).filterMap fun n =>
        ups.find? fun l => s.rd (R.FB_PEER l) == n && bit? (s.flink l).topo d
      match vias with
      | l :: _ => (s.pathOver d l).getD 0
      | [] => 0

/-- Every path is computed anew; a device that becomes unreachable raises event 0x1104. -/
def routesChanged : Act := .read fun s => forAll (List.range 8) fun d =>
  let new := s.fabPath d
  acts [wr (R.FR_PATH d) new, onlyIf (bit? (s.rd (R.FR_PATH d)) 15 && !(bit? new 15)) (raise 0x1104 d d)]

/-! ## Sending -/

/-- A packet joins the queue of its channel on a link. -/
def enqueueFab (l : Nat) (it : FabItem) : Act := setLink l fun k =>
  if 128 ≤ it.pkt.type then { k with rsp := k.rsp ++ [it] } else { k with req := k.req ++ [it] }

/-- A packet goes toward device `d` by its present path, without waiting for an answer. -/
def fabPost (d type tag arg : Nat) (payload : List Nat) : Act := .read fun s =>
  let path := s.rd (R.FR_PATH d)
  if bit? path 15 then
    enqueueFab (fld path 2 0) ⟨⟨type, d, s.rd R.DEVNUM, bit? path 14, tag, arg, payload⟩, s.now, none⟩
  else .skip

/-- A request that expects a response (R423): `info` is the asker's number for it. -/
def fabAsk (d type arg : Nat) (payload : List Nat) (info : Nat) : Act := .read fun s =>
  let path := s.rd (R.FR_PATH d)
  if ¬ bit? path 15 then note (.fabGone type d info)
  else if 1024 ≤ s.eng.fab.waits.length then
    setFab fun g => { g with hold := g.hold ++ [(d, type, arg, payload, info)] }
  else
    let tag := s.eng.fab.nextTag
    acts [setFab fun g => { g with
        waits := g.waits ++ [⟨tag, fld path 2 0, d, type, info⟩]
        nextTag := if tag + 1 < 2 ^ 32 then tag + 1 else 1 },
      .read fun s => wr R.FB_RSP_FREE (1024 - s.eng.fab.waits.length),
      fabPost d type tag arg payload]

/-- The response to a request travels back to its sender, on the pair link if it came from there. -/
def fabAnswer (link : Nat) (q : FabPkt) (type arg : Nat) (payload : List Nat) : Act := .read fun s =>
  if s.rd (R.FB_ROLE link) = 1 then
    enqueueFab link ⟨⟨type, q.src, s.rd R.DEVNUM, false, q.tag, arg, payload⟩, s.now, none⟩
  else fabPost q.src type q.tag arg payload

/-- A packet on the pair link; `info` names the asker's number when an answer is expected. -/
def pairPost (type arg : Nat) (payload : List Nat) (info : Option Nat) : Act := .read fun s =>
  match s.pairLink with
  | none => .skip
  | some l =>
    let peer := s.rd (R.FB_PEER l)
    match info with
    | none => enqueueFab l ⟨⟨type, peer, s.rd R.DEVNUM, false, 0, arg, payload⟩, s.now, none⟩
    | some i =>
      let tag := s.eng.fab.nextTag
      if 1024 ≤ s.eng.fab.waits.length then setFab fun g => { g with hold := g.hold ++ [(peer, type, arg, payload, i)] }
      else acts [setFab fun g => { g with
          waits := g.waits ++ [⟨tag, l, peer, type, i⟩]
          nextTag := if tag + 1 < 2 ^ 32 then tag + 1 else 1 },
        .read fun s => wr R.FB_RSP_FREE (1024 - s.eng.fab.waits.length),
        enqueueFab l ⟨⟨type, peer, s.rd R.DEVNUM, false, tag, arg, payload⟩, s.now, none⟩]

/-- The oldest held request goes, if the response table has an entry for it. -/
def releaseOne : Act := .read fun s => match s.eng.fab.hold with
  | [] => .skip
  | (d, type, arg, payload, info) :: rest => onlyIf (decide (s.eng.fab.waits.length < 1024)) (acts [
      setFab fun g => { g with hold := rest },
      if pairType type then pairPost type arg payload (some info) else fabAsk d type arg payload info])

/-- Entries freed in the response table let held requests go. -/
def releaseHeld : Act := .read fun s => acts [wr R.FB_RSP_FREE (1024 - s.eng.fab.waits.length),
  forAll (List.range s.eng.fab.hold.length) fun _ => releaseOne]

/-- The time a packet carries is written as it leaves (Table FAB-4, TIME_SYNC). -/
def stampLeaving (u : Nat) (p : FabPkt) : FabPkt := if p.type = 0x33 then { p with payload := t112 u } else p

/-- A packet in transit leaves its buffers: the link it came in on has its blocks back (R422, R426). -/
def returnBlocks (l0 pool n : Nat) : Act := setLink l0 fun x => { x with
  given := addAt x.given pool n
  holds := x.holds.zipIdx.map fun y => if y.2 = pool then y.1 - n else y.1 }

/-- The head packet of a channel leaves on the link (R418, R422, R424). -/
def transmitFab (l : Nat) (rsp : Bool) : Act := .read fun s =>
  let k := s.flink l
  match (if rsp then k.rsp else k.req) with
  | [] => .skip
  | it :: rest =>
    let p := stampLeaving s.devTime it.pkt
    acts [
      setLink l fun k => { k with
        req := if rsp then k.req else rest
        rsp := if rsp then rest else k.rsp
        sent := addAt k.sent (fabPool p) (fabBlocks p)
        replay := k.replay ++ [(k.txSeq, p)]
        txSeq := nextSeq k.txSeq },
      inc (R.FB_TX_PKTS l), emit (.fab l (fabWords p k.rxSeq k.txSeq)),
      onlyIf (p.type == 0x34) (eng fun e => { e with pair := { e.pair with t1 := e.pair.t1.map fun x => (x.1, x.2.1, s.devTime) } }),
      match it.held with
      | some (l0, pool, n) => acts [returnBlocks l0 pool n, inc (R.FB_TRANSIT l)]
      | none => .skip]

/-- A packet finds room in the replay buffer of a link: 64 KiB, and at most 2,047 packets (R418). -/
def replayRoom (k : FabLink) (p : FabPkt) : Bool :=
  let octets (q : FabPkt) : Nat := 8 * (q.payload.length + 3)
  decide (k.replay.length < 2047) && decide ((k.replay.map fun e => octets e.2).sum + octets p ≤ 65536)

/-- The channels of a link that have a packet to send and credit for it, as the arbiter sees them (Table CPU-6). -/
def State.fabWaiting (s : State) (l : Nat) : List (Nat × Nat × Nat) :=
  let k := s.flink l
  let ready (q : List FabItem) (n tickets : Nat) : List (Nat × Nat × Nat) :=
    match q with
    | [] => []
    | it :: _ => if hasCredit k it.pkt ∧ replayRoom k it.pkt then [(n, it.posted, tickets)] else []
  if s.linkUp l then ready k.req 0 (fld (s.rd (R.FB_TICKETS l)) 15 8) ++ ready k.rsp 1 (fld (s.rd (R.FB_TICKETS l)) 7 0)
  else []

/-! ## Receiving -/

/-- A cumulative acknowledgement frees the replay buffer up to it (R418, R419). -/
def ackFab (l ack : Nat) : Act := setLink l fun k =>
  if ack = 0 then k
  else { k with
    replay := k.replay.filter fun e => seqAhead e.1 ack
    replays := if k.replay.any fun e => e.1 == ack then 0 else k.replays }

/-- Blocks of this end's pool are returned at once. -/
def giveBack (l : Nat) (p : FabPkt) : Act := setLink l fun k => { k with given := addAt k.given (fabPool p) (fabBlocks p) }

/-- Blocks of an own pool are held, or no longer, by a packet. -/
def holdFab (l : Nat) (p : FabPkt) : Act := setLink l fun x => { x with holds := addAt x.holds (fabPool p) (fabBlocks p) }
def dropHold (l : Nat) (p : FabPkt) : Act := setLink l fun x => { x with
  holds := x.holds.zipIdx.map fun e => if e.2 = fabPool p then e.1 - fabBlocks p else e.1 }

/-- The first link of a direct path to a device: the one an override names, or the lowest (R425, R426). -/
def State.directLink (s : State) (d : Nat) : Option Nat :=
  let path := s.fabPath d
  if bit? path 15 && !(bit? path 14) then some (fld path 2 0) else none

/-- An accepted packet reaches its place (R423, R426): this device, the next device, or nowhere. -/
def deliverFab (l : Nat) (p : FabPkt) : Act := .read fun s =>
  let me := s.rd R.DEVNUM
  let bad := match fabLen p.type with
    | none => true
    | some (lo, hi) => decide (p.payload.length < lo) || decide (hi < p.payload.length)
  let pair := s.rd (R.FB_ROLE l) == 1
  if bad || pairType p.type != pair || (!p.transit && p.dst != me) then acts [holdFab l p, note (.breach l p)]
  else if p.transit then
    match s.directLink p.dst with
    | some k =>
      if p.dst = me then acts [giveBack l p, inc (R.FB_TRANSIT_DROP l)]
      else acts [setLink l fun x => { x with holds := addAt x.holds (fabPool p) (fabBlocks p) },
        enqueueFab k ⟨{ p with transit := false }, s.now, some (l, fabPool p, fabBlocks p)⟩]
    | none => acts [giveBack l p, inc (R.FB_TRANSIT_DROP l)]
  else acts [giveBack l p,
    if 128 ≤ p.type then
      match s.eng.fab.waits.find? fun w => w.tag == p.tag with
      | none => inc R.FB_LATE_RSP
      | some w => acts [setFab fun g => { g with waits := g.waits.filter fun x => x.tag != p.tag },
          releaseHeld, note (.fabRsp p w.type w.info)]
    else note (.fabRx l p)]

/-- A packet of a frozen peer is not consumed (Table FAULT-2). -/
def stallFab (l : Nat) (z : Frozen) (p : FabPkt) : Act := eng fun e =>
  { e with flt := { e.flt with frozen := e.flt.frozen.set (19 + l) { z with link := z.link ++ [p] } } }

/-- FB_PACKET_RX (R418, R426): the words of a sequenced packet as they arrived; LINK_CTRL packets have rows of their own. -/
def fabPacketRx (l : Nat) (ws : List Nat) : Act := .read fun s =>
  let k := s.flink l
  if ¬ s.linkUp l then .skip
  else match fabParse ws with
    | none => acts [inc (R.FB_CRC_ERR l), setLink l fun x => { x with nak := true }, sendNak l]
    | some (p, ack, lseq) =>
      if p.type = 0 then .skip
      else if lseq = nextSeq k.rxSeq then
        acts [setLink l fun x => { x with rxSeq := lseq, nak := false, heard := s.now }, ackFab l ack, inc (R.FB_RX_PKTS l),
          match aget s.eng.flt.frozen (19 + l) with
          | some z => acts [holdFab l p, stallFab l z p]
          | none => if k.pools.getD (fabPool p) 0 = 0 ∨
              [1024, 256, 1024, 256].getD (fabPool p) 0 < k.holds.getD (fabPool p) 0 + fabBlocks p then acts [holdFab l p, note (.breach l p)]
          else deliverFab l p]
      else if k.nak ∨ ¬ seqAhead lseq k.rxSeq then setLink l fun x => { x with heard := s.now }
      else acts [inc (R.FB_CRC_ERR l), setLink l fun x => { x with nak := true, heard := s.now }, sendNak l]

/-- A link-control packet of kind `kind`, when its CRC passes. -/
def ctrlParse (kind : Nat) (ws : List Nat) : Option FabPkt :=
  match fabParse ws with
  | some (p, _, _) => if p.type = 0 ∧ fld p.arg 63 60 = kind then some p else none
  | none => none

/-- FB_STATUS_RX (R417, R418). -/
def fabStatusRx (l : Nat) (ws : List Nat) : Act := .read fun s =>
  match ctrlParse 0 ws with
  | none => .skip
  | some p =>
    if ¬ s.linkUp l then .skip
    else
      let w := p.payload.getD 0 0
      let cum (i : Nat) : Nat :=
        let old := (s.flink l).freed.getD i 0
        old + (fld w (63 - 16 * i) (48 - 16 * i) + 65536 - old % 65536) % 65536
      acts [setLink l fun x => { x with heard := s.now, freed := (List.range 4).map cum }, ackFab l (fld p.arg 59 48)]

/-- The ledger's counts of a pool of a link: TOTAL, FREE, HELD, INFLIGHT (R422, Table FAULT-1). -/
def State.fabCounts (s : State) (l k : Nat) : Nat × Nat × Nat × Nat :=
  let x := s.flink l
  let total := x.pools.getD k 0
  let out := x.sent.getD k 0 - x.freed.getD k 0
  let held := x.holds.getD k 0
  (total, total - out - held, held, min out (total - held))

/-- The ledger instances of a link close with their counts, and open again (R518). -/
def closeLedger (l : Nat) : Act := .read fun s => forAll (List.range 4) fun k => acts [wr (R.LG_STATE (2 + 4 * l + k)) 1,
  eng fun e => { e with flt := { e.flt with closed := e.flt.closed.set (2 + 4 * l + k) (s.fabCounts l k) } }]
def openLedger (l : Nat) : Act := forAll (List.range 4) fun k => acts [wr (R.LG_STATE (2 + 4 * l + k)) 0,
  eng fun e => { e with flt := { e.flt with closed := e.flt.closed.clear (2 + 4 * l + k) } }]

/-- The packets that wait behind a frozen peer go with their closed pools. DEDUCED: log 147. -/
def dropStalled (l : Nat) : Act := eng fun e => match aget e.flt.frozen (19 + l) with
  | none => e
  | some z => { e with flt := { e.flt with frozen := e.flt.frozen.set (19 + l) { z with link := [] } } }

/-- A link change makes a TOPO due (R425). -/
def topoOwed : Act := setFab fun g => { g with topoDue := true }

/-- A packet in transit whose blocks were of link `l`'s closed pools returns none when it leaves (R421). -/
def forgetBlocks (l : Nat) (it : FabItem) : FabItem := { it with held := it.held.map fun h => if h.1 = l then (h.1, h.2.1, 0) else h }

def forgetPools (l : Nat) (k : FabLink) : FabLink := { k with req := k.req.map (forgetBlocks l), rsp := k.rsp.map (forgetBlocks l) }

/-- The link leaves UP (R421), with the cause of event 0x1102. -/
def dropLink (l cause : Nat) : Act := .read fun s =>
  let gone := s.eng.fab.waits.filter fun w => w.link == l
  acts [closeLedger l,
    forAll (((s.flink l).req ++ (s.flink l).rsp).filterMap (·.held)) fun h => returnBlocks h.1 h.2.1 h.2.2,
    setFab fun g => { g with
      links := Tbl.set (g.links.map fun x => (x.1, forgetPools l x.2)) l { linkRest with since := s.now }
      waits := g.waits.filter fun w => w.link != l },
    wr (R.FB_PEER l) 255, wr (R.FB_PEER_UID l) 0, wr (R.FB_VERSION l) 0,
    raise 0x1102 l (l + cause * 256),
    forAll gone fun w => note (.fabGone w.type w.dst w.info),
    dropStalled l, topoOwed,
    releaseHeld]

/-- The pair link's number shows in PR_LINK while the link is UP (R428). -/
def showPairLink : Act := .read fun s => wr R.PR_LINK (match s.pairLink with | some l => l | none => 255)

/-- FB_LINK_DOWN (Table FAB-1): silence, sixteen replays or lost lane lock. -/
def fabLinkDown (l cause : Nat) : Act := .read fun s =>
  if ¬ s.linkUp l then .skip
  else if cause = 0 ∧ s.now < (s.flink l).heard + 1000000 then .skip
  else if cause = 1 ∧ (s.flink l).replays < 16 then .skip
  else acts [dropLink l (min cause 2), wr (R.FB_STATE l) 1, inc (R.FB_RETRAINS l), routesChanged, showPairLink]

/-- FB_NAK_RX (R418): the sender replays from the named LSEQ. -/
def fabNakRx (l : Nat) (ws : List Nat) : Act := .read fun s =>
  match ctrlParse 1 ws with
  | none => .skip
  | some p =>
    if ¬ s.linkUp l then .skip
    else
      let want := fld p.arg 59 48
      let k := s.flink l
      acts [setLink l fun x => { x with
          heard := s.now
          replay := x.replay.filter fun e => e.1 == want || seqAhead e.1 want
          replays := if (x.replay.head?.map (·.1)) == some want then x.replays + 1 else 1 },
        inc (R.FB_REPLAYS l),
        .read fun s => forAll (s.flink l).replay fun e => emit (.fab l (fabWords e.2 k.rxSeq e.1)),
        .read fun s => onlyIf (decide (16 ≤ (s.flink l).replays)) (fabLinkDown l 1)]

/-- R513: two protocol versions, each with a bridge major, are compatible. -/
def protoCompatible (p pb q qb : Nat) : Bool :=
  let hi (x : Nat) : Nat := x / 16
  let lo (x : Nat) : Nat := x % 16
  if hi p = hi q then decide (lo p ≤ lo q + 1) && decide (lo q ≤ lo p + 1)
  else if hi p = hi q + 1 then pb == hi q
  else if hi q = hi p + 1 then qb == hi p
  else false

/-- FB_HELLO_RX (R415, Table FAB-1). -/
def fabHelloRx (l : Nat) (ws : List Nat) : Act := .read fun s =>
  match ctrlParse 2 ws with
  | none => .skip
  | some p =>
    if s.rd (R.FB_STATE l) ≠ 2 ∨ p.payload.length ≠ 2 then .skip
    else
      let dev := fld p.arg 58 56
      let role := fld p.arg 55 52
      let ver := fld p.arg 51 44
      let refuse (c : Nat) : Act := acts [wr (R.FB_STATE l) 4, wr (R.FB_CAUSE l) c,
        setLink l fun x => { x with since := s.now }, raise 0x1103 l (l + c * 256)]
      if dev = s.rd R.DEVNUM then refuse 2
      else if role ≠ s.rd (R.FB_ROLE l) ∨ (role = 1 ∧ ¬ s.pairMember) then refuse 3
      else if ¬ protoCompatible (s.rd R.FB_PROTO) (s.rd R.FB_BRIDGE) ver (fld p.arg 43 36) then refuse 1
      else
        let w := p.payload.getD 1 0
        acts [wr (R.FB_STATE l) 3, wr (R.FB_CAUSE l) 0, wr (R.FB_PEER l) dev, wr (R.FB_PEER_UID l) (p.payload.getD 0 0),
          wr (R.FB_VERSION l) (min ver (s.rd R.FB_PROTO)),
          setLink l fun _ => { linkRest with
            heard := s.now
            pools := [fld w 63 48, fld w 47 32, fld w 31 16, fld w 15 0]
            offer := (ver, fld p.arg 43 36)
            topo := if role = 0 then s.lastTopo dev else 0 },
          openLedger l, topoOwed, raise 0x1101 l (l + dev * 256 + min ver (s.rd R.FB_PROTO) * 65536),
          routesChanged, showPairLink]

/-- FB_LANE_LOCK (Table FAB-1): block lock and deskew of at most 20 ns between the lanes (R413); `lanes` are the arrivals in ps.
Training that waits to restart locks nothing. -/
def fabLaneLock (l : Nat) (lanes : List Nat) : Act := .read fun s =>
  let skew := lanes.foldl max 0 - lanes.foldl min (lanes.foldl max 0)
  if s.rd (R.FB_STATE l) = 1 ∧ (s.flink l).since ≤ s.now ∧ skew ≤ 20000 then
    acts [wr (R.FB_STATE l) 2, setLink l fun x => { x with since := s.now }, sendHello l]
  else .skip

/-- FB_TRAIN_TIMEOUT (Table FAB-1): training restarts after 100 ms. -/
def fabTrainTimeout (l : Nat) : Act := .read fun s =>
  if s.rd (R.FB_STATE l) = 1 ∧ (s.flink l).since + 10000000 ≤ s.now then
    setLink l fun x => { x with since := s.now + 100000000 }
  else .skip

/-- FB_HELLO_TIMER (R414): every 10 µs in NEGOTIATING. -/
def fabHelloTimer (l : Nat) : Act := .read fun s =>
  onlyIf (s.rd (R.FB_STATE l) == 2 && decide ((s.flink l).since + 10000 ≤ s.now))
    (acts [sendHello l, setLink l fun x => { x with since := s.now }])

/-- FB_REFUSED_EXPIRY (Table FAB-1). -/
def fabRefusedExpiry (l : Nat) : Act := .read fun s =>
  if s.rd (R.FB_STATE l) = 4 ∧ (s.flink l).since + 1000000000 ≤ s.now then
    acts [wr (R.FB_STATE l) 1, setLink l fun x => { x with since := s.now }]
  else .skip

/-- FB_STATUS_TIMER (R417): a STATUS is owed for a change, or after 10 µs. -/
def fabStatusTimer (l : Nat) : Act := .read fun s =>
  let x := s.flink l
  onlyIf (s.linkUp l && (x.told.1 != x.rxSeq || x.told.2.1 != x.given || decide (x.told.2.2 + 10000 ≤ s.now))) (sendStatus l)

/-- FB_EN takes a value (Table FAB-1). -/
def fabEnable (l : Nat) : Act := .read fun s =>
  if s.rd (R.FB_EN l) = 1 then
    onlyIf (s.rd (R.FB_STATE l) == 0) (acts [wr (R.FB_STATE l) 1, setLink l fun x => { x with since := s.now }])
  else acts [onlyIf (s.linkUp l) (dropLink l 3), wr (R.FB_STATE l) 0, routesChanged, showPairLink]

/-- TOPO_TIMER (R425), owed on a link change and every 100 ms: the devices reached over the ordinary links that are UP. -/
def fabTopo : Act := .read fun s =>
  let reach := (s.ordinaryUp.map fun l => s.rd (R.FB_PEER l)).foldl setBit 0
  let due := s.eng.fab.topoDue || (match s.eng.fab.topoAt with
    | none => true
    | some u => decide (u + 100000000 ≤ s.now))
  onlyIf due (acts [
    setFab fun g => { g with topoDue := false, topoAt := some s.now },
    forAll s.ordinaryUp fun l =>
      enqueueFab l ⟨⟨0x15, s.rd (R.FB_PEER l), s.rd R.DEVNUM, false, 0, reach, []⟩, s.now, none⟩])

/-- A TOPO arrives (R425): it is the neighbour's last one on every ordinary link to it. -/
def fabTopoRx (l reach : Nat) : Act := .read fun s => acts [
  forAll (s.ordinaryUp.filter fun k => s.rd (R.FB_PEER k) == s.rd (R.FB_PEER l)) fun k =>
    setLink k fun x => { x with topo := reach % 256 },
  routesChanged]

end Sys2Proof.Machine
end

