-- ==== Sys2Proof/Machine/Queues.lean ====
section
/-! DEFINITION. Queues, shapers, toll meters and gates (12_queues_shaping_policing.md R295 to R312), and the egress choice
of 16_backhaul_time.md R375. -/

namespace Sys2Proof.Machine

def setQ (f : QueueEng → QueueEng) : Act := eng fun e => { e with q := f e.q }

/-- A packet of octets, with nothing else said of it. -/
def blankPkt : Pkt := ⟨.ip, [], none, 0, 0, none, 0, 0, none, [], false, false, 0, none, 0, 0, 0, none, 0, 0, 0, 0, none, none, none, 0⟩

def State.pkt? (s : State) (i : Nat) : Option Pkt := aget s.eng.q.pkts i

/-- Change a stored packet. -/
def updPkt (i : Nat) (f : Pkt → Pkt) : Act := setQ fun g =>
  match aget g.pkts i with
  | some p => { g with pkts := g.pkts.set i (f p) }
  | none => g

/-- The frames of a queue, oldest first. -/
def State.queue (s : State) (q : Nat) : List Nat := s.eng.q.queues.at q []

/-! ## Q_DEST (Table QUEUE-1) -/

def State.qKind (s : State) (q : Nat) : Nat := fld (s.rd (R.Q_DEST q)) 63 60
def State.qTc (s : State) (q : Nat) : Nat := fld (s.rd (R.Q_DEST q)) 10 8
def State.qTarget (s : State) (q : Nat) : Nat := fld (s.rd (R.Q_DEST q)) 4 0

/-- R297: the queue whose KIND a commit would change while it holds frames. -/
def queueCommitFault (s0 s : State) (refs : List Ref) : Option Ref :=
  refs.find? fun r => r.idx == 0x3420 && r.mem == 0 &&
    fld (s0.rd r) 63 60 != fld (s.rd r) 63 60 && !(s.queue r.inst).isEmpty

/-! ## Over flags (R299) -/

/-- Q_OVER follows holdings and limit. -/
def judgeQueue (q : Nat) : Act := .read fun s =>
  let v := b2n (decide (s.rd (R.Q_LIMIT q) < s.rd (R.Q_CELLS q)))
  onlyIf (v != s.rd (R.Q_OVER q)) (wr (R.Q_OVER q) v)

/-- Bit `b` of an over word follows holdings and quota; the events name the group (Table QUEUE-10). -/
def judgeQuota (ovr held quota : Ref) (b detail : Nat) : Act := .read fun s =>
  let now_ := decide (s.rd quota < s.rd held)
  if now_ = bit? (s.rd ovr) b then .skip
  else if now_ then acts [wr ovr (setBit (s.rd ovr) b), raise 0x0B01 detail detail]
  else acts [wr ovr (clrBit (s.rd ovr) b), raise 0x0B02 detail detail]

def judgeNodeBuf (g : Nat) : Act := judgeQuota (R.NG_OVER g) (R.NG_BUF_HELD g) (R.NG_BUF_QUOTA g) 0 (g + 256)
def judgeNodePs (g : Nat) : Act := judgeQuota (R.NG_OVER g) (R.NG_PS_HELD g) (R.NG_PS_QUOTA g) 1 (g + 256 + 65536)
def judgeGroupBuf (g : Nat) : Act := judgeQuota (R.QG_OVER g) (R.QG_BUF_HELD g) (R.QG_BUF_QUOTA g) 0 g
def judgeGroupPs (g : Nat) : Act := judgeQuota (R.QG_OVER g) (R.QG_PS_HELD g) (R.QG_PS_QUOTA g) 1 (g + 65536)

def subFrom (r : Ref) (n : Nat) : Act := .read fun s => wr r (s.rd r - n)

/-- JQ_STORM follows Q_CELLS of the join queue; it sets only while JQ_STORM_ON lies within the queue's limit (R311). -/
def judgeStorm : Act := .read fun s =>
  let c := s.rd (R.Q_CELLS (s.rd R.JQ_QUEUE))
  if s.rd R.JQ_STORM = 0 ∧ s.rd R.JQ_STORM_ON ≤ c ∧ s.rd R.JQ_STORM_ON ≤ s.rd (R.Q_LIMIT (s.rd R.JQ_QUEUE)) then acts [wr R.JQ_STORM 1, raise 0x0B03 0 c]
  else if s.rd R.JQ_STORM = 1 ∧ c < s.rd R.JQ_STORM_OFF then acts [wr R.JQ_STORM 0, raise 0x0B04 0 c]
  else .skip

/-! ## Cells -/

/-- The packet-buffer cells of a frame of `len` octets. -/
def cellsOf (len : Nat) : Nat := cdiv (len + 32) 256

/-- The frame's cells leave its queue and group charges and are free again (R298, R299). -/
def freePkt (i : Nat) : Act := .read fun s =>
  match s.pkt? i with
  | none => .skip
  | some p => acts [
      setQ fun g => { g with pkts := g.pkts.clear i, deferred := g.deferred.filter (· != i) },
      addTo R.TM_FREE p.cells,
      match p.queue with
      | some q => acts [subFrom (R.Q_CELLS q) p.cells, judgeQueue q]
      | none => .skip,
      forAll p.groups fun g => acts [subFrom (R.QG_BUF_HELD g) p.cells, judgeGroupBuf g],
      match p.charged, p.group with
      | true, some g => acts [subFrom (R.NG_BUF_HELD g) p.cells, judgeNodeBuf g]
      | _, _ => .skip,
      judgeStorm]

/-- A frame is first written to the packet buffer, or dropped for want of cells (TM_NO_CELLS). -/
def allocPkt (p : Pkt) (ok : Nat → Act) (no : Act) : Act := .read fun s =>
  let n := cellsOf p.octets.length
  if s.rd R.TM_FREE < n then .seq (inc R.TM_NO_CELLS) no
  else
    let i := s.eng.q.nextPkt
    acts [setQ fun g => { g with pkts := g.pkts.set i { p with cells := n }, nextPkt := i + 1 },
      wr R.TM_FREE (s.rd R.TM_FREE - n), ok i]

/-- Frames that are still to be sent leave the buffer. -/
def freeAll (ids : List Nat) : Act := forAll ids freePkt

/-! ## Entry (R298) -/

/-- A refused datagram: the queue counter of its cause, the quota counter, event 0x0B06, and the cells. -/
def dropEntry (q cause : Nat) (ids : List Nat) (count : List Ref) : Act :=
  acts [forAll count inc, raiseMs 0 0x0B06 q (q + cause * 65536), freeAll ids]

/-- The queue groups whose word in 0x0042 holds the queue. -/
def State.groupsOf (s : State) (q : Nat) : List Nat :=
  (List.range 32).filter fun g => bit? (s.rd (R.QUEUE_GROUP g (q / 64))) (q % 64)

/-- The frames of one datagram enter a queue or are dropped together (R298). -/
def enter (q : Nat) (ids : List Nat) : Act := .read fun s =>
  let ps := ids.filterMap s.pkt?
  match ps with
  | [] => .skip
  | p :: _ =>
    let need := (ps.map fun x => x.cells).foldl (· + ·) 0
    let held := s.rd (R.Q_CELLS q)
    let gs := s.groupsOf q
    let noQuota (g : Nat) : Bool := bit? (s.rd (R.QG_OVER g)) 0 ||
      decide (s.rd (R.QG_BUF_QUOTA g) < s.rd (R.QG_BUF_HELD g) + need)
    let newNode : Option Nat := if p.charged then none else p.group
    if s.rd (R.Q_OVER q) = 1 ∨ s.rd (R.Q_LIMIT q) < held + need then dropEntry q 1 ids [R.Q_DROP_LIMIT q]
    else if p.colour ≠ 0 ∧ s.rd (R.Q_YELLOW_LIMIT q) < held + need then dropEntry q 2 ids [R.Q_DROP_YELLOW q]
    else match gs.find? noQuota with
      | some g => dropEntry q 3 ids [R.Q_DROP_QUOTA q, R.QG_REFUSED g]
      | none =>
        match newNode.filter fun n => bit? (s.rd (R.NG_OVER n)) 0 ||
            decide (s.rd (R.NG_BUF_QUOTA n) < s.rd (R.NG_BUF_HELD n) + need) with
        | some n => dropEntry q 3 ids [R.Q_DROP_QUOTA q, R.NG_REFUSED n]
        | none => acts [
            addTo (R.Q_CELLS q) need, addTo (R.Q_FRAMES q) ids.length, addTo (R.Q_ENQ q) ids.length,
            forAll gs fun g => addTo (R.QG_BUF_HELD g) need,
            match newNode with
            | some n => addTo (R.NG_BUF_HELD n) need
            | none => .skip,
            forAll ids fun i => updPkt i fun x => { x with queue := some q, groups := gs, charged := x.group.isSome },
            setQ fun e => { e with queues := e.queues.set q (e.queues.at q [] ++ ids) },
            judgeStorm]

/-- A frame's path gives it a queue; a KIND that does not suit drops it (R296). -/
def toQueue (q kind : Nat) (ids : List Nat) : Act := .read fun s =>
  if q < 4096 ∧ s.qKind q = kind ∧ kind ≠ 0 then enter q ids
  else acts [inc R.TM_NO_QUEUE, raiseMs 0 0x0B06 q (q + 4 * 65536), freeAll ids]

/-- A partly received datagram is charged to its node group (R286, R298): the charge, or a refusal. -/
def chargeNode (i : Nat) (ok no : Act) : Act := .read fun s =>
  match s.pkt? i with
  | none => no
  | some p => match p.group with
    | none => ok
    | some n =>
      if bit? (s.rd (R.NG_OVER n)) 0 ∨ s.rd (R.NG_BUF_QUOTA n) < s.rd (R.NG_BUF_HELD n) + p.cells then
        acts [inc (R.NG_REFUSED n), freePkt i, no]
      else acts [addTo (R.NG_BUF_HELD n) p.cells, updPkt i fun x => { x with charged := true }, ok]

/-! ## Shapers (R302, R303) -/

def shaperRest : Shaper := ⟨16384 * 65536, 0, 0, 16384, 0⟩

def State.shaper (s : State) (q : Nat) : Shaper := s.eng.q.shapers.at q shaperRest

/-- Octets per refill of 1,024 cycles at a rate in bit/s, in units of 2^-16 octet. -/
def refillOf (rate : Nat) : Nat := rate * 1024 * 65536 / 8000000000

/-- One shaper at the first of `n` refills, and the rest: held writes are taken up, tokens added each time (R302, R303).
DEDUCED: log 78. -/
def refillShaper (n q : Nat) : Act := .read fun s =>
  let h := s.shaper q
  let en := s.rd (R.SH_EN q)
  let rate := s.rd (R.SH_RATE q)
  let burst := s.rd (R.SH_BURST q)
  let full : Int := (burst : Int) * 65536
  let t := if h.en = 0 ∧ en = 1 then full else min full (h.tokens + ((n * refillOf rate : Nat) : Int))
  acts [setQ fun g => { g with shapers := g.shapers.set q ⟨t, en, rate, burst, s.rdi (R.SH_OVERHEAD q)⟩ },
    wri (R.SH_TOKENS q) (t / 65536)]

/-- The number of the last refill edge: one every 1,024 cycles (R302). DESIGN CHOICE: log 185. -/
def State.refillEdge (s : State) : Nat := s.now / 1024

/-- SHAPER_REFILL: every edge that has come. A shaper that no write has touched and that has released nothing is at rest: its refill
changes nothing. DESIGN CHOICE: log 185. -/
def shaperRefill : Act := .read fun s =>
  let touched := (s.objs.filter fun e => e.1.idx == 0x3430).map fun e => e.1.inst
  onlyIf (decide (s.eng.q.shEdge < s.refillEdge)) (acts [setQ fun g => { g with shEdge := s.refillEdge },
    forAll (touched ++ s.eng.q.shapers.map (·.1)).eraseDups (refillShaper (s.refillEdge - s.eng.q.shEdge))])

/-- The traffic manager leaves its reset: its next refills are those of edges still to come. -/
def edgesNow : Act := .read fun s => setQ fun g => { g with shEdge := s.refillEdge, mtEdge := s.refillEdge }

/-- A head frame of the queue is shaper-eligible. -/
def State.shaperOk (s : State) (q : Nat) : Bool := (s.shaper q).en == 0 || decide (0 < (s.shaper q).tokens)

/-- A release of `len` octets is charged to the shaper. -/
def shaperSpend (q len : Nat) : Act := .read fun s =>
  let h := s.shaper q
  let t := h.tokens - ((len : Int) + h.ovr) * 65536
  acts [setQ fun g => { g with shapers := g.shapers.set q { h with tokens := t } }, wri (R.SH_TOKENS q) (t / 65536)]

/-! ## Toll meters (R304, R305) -/

def meterRest : Meter := ⟨0, 0, 0, 0, 0, 0, 0⟩

def State.meter (s : State) (m : Nat) : Meter := s.eng.q.meters.at m meterRest

/-- The buckets of a meter after `n` refills with its settings; what the committed bucket cannot hold goes on to the other in mode 1. -/
def meterFill (n : Nat) (m : Meter) : Meter :=
  let cmax := m.cbs * 65536
  let xmax := m.xbs * 65536
  if m.mode = 1 then
    let c := min cmax m.c + n * refillOf m.cir
    { m with c := min cmax c, x := min xmax (m.x + (c - cmax)) }
  else if m.mode = 2 then
    { m with c := min cmax (m.c + n * refillOf m.cir), x := min xmax (m.x + n * refillOf (max m.xir m.cir)) }
  else { m with c := min cmax m.c, x := min xmax m.x }

/-- One meter at the first of `n` refills, and the rest: held writes are taken up; a change of TM_MODE fills the buckets (R304).
DEDUCED: log 78. -/
def refillMeter (n i : Nat) : Act := .read fun s =>
  let o := s.meter i
  let m : Meter := ⟨o.c, o.x, s.rd (R.TM_MODE i), s.rd (R.TM_CIR i), s.rd (R.TM_CBS i), s.rd (R.TM_XIR i), s.rd (R.TM_XBS i)⟩
  let m' := if m.mode ≠ o.mode then { m with c := m.cbs * 65536, x := m.xbs * 65536 } else meterFill n m
  acts [setQ fun g => { g with meters := g.meters.set i m' }, wri (R.TM_TC i) (m'.c / 65536 : Nat), wri (R.TM_TX i) (m'.x / 65536 : Nat)]

/-- METER_REFILL: every edge that has come. -/
def meterRefill : Act := .read fun s =>
  let touched := (s.objs.filter fun e => e.1.idx == 0x3440).map fun e => e.1.inst
  onlyIf (decide (s.eng.q.mtEdge < s.refillEdge)) (acts [setQ fun g => { g with mtEdge := s.refillEdge },
    forAll (touched ++ s.eng.q.meters.map (·.1)).eraseDups (refillMeter (s.refillEdge - s.eng.q.mtEdge))])

/-- The refills that are due, which come before writes, judgements and releases of the same instant (R300).
DESIGN CHOICE: log 151, 185. -/
def refillsDue : Act := acts [shaperRefill, meterRefill]

/-- R304: the colour of a frame of `b` octets (0 green, 1 yellow, 2 red) and the meter after it. -/
def meterJudge (m : Meter) (b : Nat) : Nat × Meter :=
  let n := b * 65536
  if m.mode = 1 then
    if n ≤ m.c then (0, { m with c := m.c - n }) else if n ≤ m.x then (1, { m with x := m.x - n }) else (2, m)
  else if m.mode = 2 then
    if m.x < n then (2, m) else if m.c < n then (1, { m with x := m.x - n })
    else (0, { m with c := m.c - n, x := m.x - n })
  else (0, m)

/-! ## IP packets -/

def ipVer (o : List Nat) : Nat := o.getD 0 0 / 16

/-- The DSCP of an IPv6 or IPv4 packet. -/
def dscpOf (o : List Nat) : Option Nat :=
  if ipVer o = 6 then some ((o.getD 0 0 % 16 * 16 + o.getD 1 0 / 16) / 4)
  else if ipVer o = 4 then some (o.getD 1 0 / 4) else none

/-- The Internet checksum of octets. -/
def inetSum (o : List Nat) : Nat :=
  let rec go : List Nat → Nat
    | a :: b :: rest => 256 * a + b + go rest
    | [a] => 256 * a
    | [] => 0
  let t := go o
  let u := t % 65536 + t / 65536
  65535 - (u % 65536 + u / 65536)

/-- A packet with its DSCP rewritten; an IPv4 header checksum is updated (R305). -/
def setDscp (d : Nat) (o : List Nat) : List Nat :=
  if ipVer o = 6 then
    let tc := d * 4 + (o.getD 1 0 / 16) % 4
    (6 * 16 + tc / 16) :: (tc % 16 * 16 + o.getD 1 0 % 16) :: o.drop 2
  else if ipVer o = 4 then
    let hl := 4 * (o.getD 0 0 % 16)
    let o1 := o.take 1 ++ [d * 4 + o.getD 1 0 % 4] ++ o.drop 2
    let o2 := o1.take 10 ++ [0, 0] ++ o1.drop 12
    let c := inetSum (o2.take hl)
    o1.take 10 ++ [c / 256, c % 256] ++ o1.drop 12
  else o

/-- Source and destination of a packet as 128-bit numbers, IPv4 as IPv4-mapped. -/
def ipSrc (o : List Nat) : Nat :=
  if ipVer o = 4 then 0xFFFF * 2 ^ 32 + be ((o.drop 12).take 4) else be ((o.drop 8).take 16)
def ipDst (o : List Nat) : Nat :=
  if ipVer o = 4 then 0xFFFF * 2 ^ 32 + be ((o.drop 16).take 4) else be ((o.drop 24).take 16)

/-- A UDP packet's destination port. -/
def udpPort (o : List Nat) : Option Nat :=
  if ipVer o = 6 ∧ o.getD 6 0 = 17 then some (be ((o.drop 42).take 2))
  else if ipVer o = 4 ∧ o.getD 9 0 = 17 then some (be ((o.drop (4 * (o.getD 0 0 % 16) + 2)).take 2)) else none

/-- An IPV6 object: octets 0 to 7 in its first member (Table DICT-1). -/
def State.rdIp (s : State) (r : Ref) : Nat := s.rd r * 2 ^ 64 + s.rd ⟨r.idx, r.inst, r.mem + 1⟩

/-- Two addresses agree in their first `len` bits. -/
def samePrefix (len a b : Nat) : Bool := a / 2 ^ (128 - len) == b / 2 ^ (128 - len)

/-- A stored frame, whose IP packet begins at octet `off`, meets a meter: its colour, the counters, and the colour actions of R305; then it
goes on. -/
def meterPkt (m b off i : Nat) (go : Act) : Act := .seq refillsDue <| .read fun s =>
  if 4096 ≤ m then go
  else
    let (col, m') := meterJudge (s.meter m) b
    let act := s.rd (R.TM_ACTION m)
    let dscp := if col = 2 then fld act 15 8 else if col = 1 then fld act 7 0 else 0xFF
    let marked (o : List Nat) : List Nat := if dscp < 64 then o.take off ++ setDscp dscp (o.drop off) else o
    acts [setQ fun g => { g with meters := g.meters.set m m' }, inc ⟨0x3441, m, col⟩,
      wri (R.TM_TC m) (m'.c / 65536 : Nat), wri (R.TM_TX m) (m'.x / 65536 : Nat),
      if col = 2 ∧ bit? act 16 then acts [inc (R.TM_RED_DROP m), freePkt i]
      else acts [updPkt i fun p => { p with colour := col, octets := marked p.octets }, go]]

/-- The flow class of a packet from ingress port `e` (R296). -/
def State.flowClass (s : State) (e : Nat) (o : List Nat) : Nat :=
  match dscpOf o with
  | some d => s.rd (R.FC_OF_DSCP e d)
  | none => s.rd R.TM_DEFAULT_FC

/-! ## Egress (R375) -/

/-- The address is multicast, in IPv6 or IPv4-mapped form. -/
def isMulticast (a : Nat) : Bool := a / 2 ^ 120 == 0xFF || (a / 2 ^ 32 == 0xFFFF && a / 2 ^ 28 % 16 == 14)

/-- The multicast MAC address of RFC 2464 or RFC 1112. -/
def multicastMac (a : Nat) : Nat := if a / 2 ^ 32 = 0xFFFF then 0x01005E000000 + a % 2 ^ 23 else 0x333300000000 + a % 2 ^ 32

/-- Interface `i` holds the destination in one of its prefixes. -/
def State.ifHolds (s : State) (i a : Nat) : Bool :=
  let v4 := a / 2 ^ 32 == 0xFFFF
  if v4 then s.rd (R.IF_V4_LEN i) != 0 && samePrefix (96 + s.rd (R.IF_V4_LEN i)) a (s.rdIp (R.IF_IPV4 i 0))
  else s.rd (R.IF_V6_LEN i) != 0 && samePrefix (s.rd (R.IF_V6_LEN i)) a (s.rdIp (R.IF_IPV6 i 0))

/-- R375: the interface and next hop of a destination at port `e`. -/
def State.egress (s : State) (e a : Nat) : Option (Nat × Nat) :=
  match (List.range 16).find? fun i => s.rd (R.IF_PORT i) == e && s.ifHolds i a with
  | some i => some (i, a)
  | none =>
    let i := s.rd (R.ETH_DEFAULT_IF e)
    if 16 ≤ i then none
    else if isMulticast a then some (i, a)
    else if s.rdIp (R.IF_ROUTER i 0) = 0 then none else some (i, s.rdIp (R.IF_ROUTER i 0))

/-- The MAC address of a next hop on an interface. -/
def State.neighbour (s : State) (i hop : Nat) : Option Nat :=
  if isMulticast hop then some (multicastMac hop)
  else ((List.range 256).find? fun k => bit? (s.rd (R.NB_MAC k)) 63 && s.rd (R.NB_IF k) == i &&
    s.rdIp (R.NB_ADDR k 0) == hop).map fun k => s.rd (R.NB_MAC k) % 2 ^ 48

/-- An Ethernet frame without FCS, filled to 60 octets. -/
def ethFrame (dst src : Nat) (vid : Option Nat) (type : Nat) (body : List Nat) : List Nat :=
  let f := beOctets 6 dst ++ beOctets 6 src ++
    (match vid with | some v => [0x81, 0x00] ++ beOctets 2 v | none => []) ++ beOctets 2 type ++ body
  f ++ List.replicate (60 - f.length) 0

/-- The frame in which port `e` sends a packet (R375): a complete frame as it is, an IP packet to its next hop. -/
def State.ethOut (s : State) (e : Nat) (p : Pkt) : Option (List Nat) :=
  match p.form with
  | .eth => some (p.octets ++ List.replicate (60 - p.octets.length) 0)
  | _ => match s.egress e (ipDst p.octets) with
    | none => none
    | some (i, hop) => (s.neighbour i hop).map fun mac =>
        ethFrame mac (s.rd (R.ETH_MAC e) % 2 ^ 48)
          (if s.rd (R.IF_VID i) = s.rd (R.ETH_PVID e) then none else some (s.rd (R.IF_VID i)))
          (if ipVer p.octets = 4 then 0x0800 else 0x86DD) p.octets

/-- The octets from destination address to FCS that port `e` would send for a packet. -/
def State.ethLen (s : State) (e : Nat) (p : Pkt) : Nat :=
  match s.ethOut e p with
  | some f => f.length + 4
  | none => max 64 (p.octets.length + 18)

/-! ## Gates (R306 to R309) -/

def State.gate (s : State) (e : Nat) : GateSt := s.eng.q.gates.at e ⟨0, none⟩

def glRef (b e m : Nat) : Ref := ⟨0x3471 + b, e, m⟩

/-- The intervals of a bank with their gates, in units of device time. -/
def State.glEntries (s : State) (b e : Nat) : List (Nat × Nat) :=
  (List.range (s.rd (glRef b e 0))).map fun k =>
    let w := s.rd (glRef b e (4 + k))
    (fld w 39 32, fld w 31 0 * uNs)

def State.glCycle (s : State) (b e : Nat) : Nat := s.rd (glRef b e 1) * uNs

/-- The place of an instant in the cycle of a bank, taken non-negative (R307). -/
def State.glOffset (s : State) (b e x : Nat) : Nat :=
  (((x : Int) - (s.rdTime (glRef b e 2) : Int)) % (max 1 (s.glCycle b e) : Nat)).toNat

/-- The entry in force at offset `o`: its number, its gates, and the offset at which it ends. -/
def entryAt (cycle o : Nat) : Nat → Nat → List (Nat × Nat) → Nat × Nat × Nat
  | k, _, [] => (k, 0xFF, cycle)
  | k, _, [(g, _)] => (k, g, cycle)
  | k, sum, (g, i) :: rest => if o < sum + i then (k, g, min cycle (sum + i)) else entryAt cycle o (k + 1) (sum + i) rest

/-- The entry in force of a bank at an instant, its gates and the instant at which it ends (R307). -/
def State.glAt (s : State) (b e x : Nat) : Nat × Nat × Nat :=
  if s.rd (glRef b e 0) = 0 then (0, 0xFF, x + uSec)
  else
    let o := s.glOffset b e x
    let r := entryAt (s.glCycle b e) o 0 0 (s.glEntries b e)
    (r.1, r.2.1, x + (max 1 (r.2.2 - o)))

/-- The bank in force at an instant (R309). -/
def State.bankAt (s : State) (e x : Nat) : Nat :=
  match (s.gate e).pending with
  | some (b, n) => if n ≤ x then b else (s.gate e).bank
  | none => (s.gate e).bank

/-- No entry of a bank that is ever in force closes gate `tc`: an interval of 0 is none, the last entry lasts to the end of the cycle
(R307). -/
def staysOpen (cycle tc : Nat) : Nat → List (Nat × Nat) → Bool
  | _, [] => true
  | sum, [(g, _)] => bit? g tc || decide (cycle ≤ sum)
  | sum, (g, i) :: rest => (bit? g tc || i == 0 || decide (cycle ≤ sum)) && staysOpen cycle tc (sum + i) rest

/-- The switch that a port still waits for at an instant (R309). -/
def State.switchAfter (s : State) (e x : Nat) : Option Nat := match (s.gate e).pending with
  | some (_, n) => if x < n then some n else none
  | none => none

/-- The next instant from `x` on at which gate `tc` is closed, looking `fuel` entries ahead; under a bank that never
closes it only a pending switch can (R308, R309). -/
def State.nextClosed (s : State) (e tc : Nat) : Nat → Nat → Option Nat
  | 0, _ => none
  | fuel + 1, x =>
    let b := s.bankAt e x
    let r := s.glAt b e x
    if ¬ bit? r.2.1 tc then some x
    else match s.switchAfter e x, staysOpen (s.glCycle b e) tc 0 (s.glEntries b e) with
      | none, true => none
      | some n, true => s.nextClosed e tc fuel n
      | none, false => s.nextClosed e tc fuel r.2.2
      | some n, false => s.nextClosed e tc fuel (min n r.2.2)

/-- The time of octets on the wire of a port. -/
def State.wireTime (s : State) (e octets : Nat) : Nat :=
  match s.rd (R.ETH_SPEED e) with
  | 1 => octets * 800 * uNs
  | 2 => octets * 80 * uNs
  | 3 => octets * 8 * uNs
  | _ => octets * 8 * uNs / 10

/-- R308: a frame of `len` octets in class `tc` may start now. -/
def State.fitsGate (s : State) (e tc len : Nat) : Bool :=
  if 4 ≤ e then true
  else match s.nextClosed e tc 600 s.devTime with
    | some c => decide (s.devTime + s.wireTime e (len + 20) ≤ c)
    | none => true

/-- GATE_ENTRY_CHANGE (R307): GT_OPEN and GT_ENTRY show the entry in force. -/
def showGate (e : Nat) : Act := .read fun s =>
  let r := s.glAt (s.bankAt e s.devTime) e s.devTime
  acts [wr (R.GT_OPEN e) r.2.1, wr (R.GT_ENTRY e) r.1]

/-- R309: the first instant not before `a` of the form GL_BASE + k × GL_CYCLE of a bank. -/
def State.switchInstant (s : State) (b e a : Nat) : Nat :=
  if s.rd (glRef b e 0) = 0 then a
  else
    let o := s.glOffset b e a
    if o = 0 then a else a + (s.glCycle b e - o)

/-- GT_ACTIVE applied (R309). -/
def gateApplied (e : Nat) : Act := .read fun s =>
  let b := s.rd (R.GT_ACTIVE e)
  let n := s.switchInstant b e s.devTime
  acts [setQ fun g => { g with gates := g.gates.set e { (s.gate e) with pending := some (b, n) } },
    wr (R.GT_STATE e) 1, wrTime (R.GT_SWITCH e 0) n]

/-- GATE_BANK_SWITCH (R309). -/
def gateSwitch (e : Nat) : Act := .read fun s =>
  match (s.gate e).pending with
  | none => .skip
  | some (b, n) =>
    if s.devTime < n then .skip
    else acts [setQ fun g => { g with gates := g.gates.set e ⟨b, none⟩ }, wr (R.GT_STATE e) 0,
      raise 0x0B05 e (e + b * 256), showGate e]

/-! ## Releases (R301) -/

/-- The head of a queue leaves it: counters and shaper (R301, R302). -/
def popHead (q len : Nat) : Act := .read fun s =>
  match s.queue q with
  | [] => .skip
  | i :: rest => acts [setQ fun g => { g with queues := if rest.isEmpty then g.queues.clear q else g.queues.set q rest },
      subFrom (R.Q_FRAMES q) 1, inc (R.Q_REL q), shaperSpend q len,
      updPkt i fun p => { p with released := true }]

/-- The queues of a class of a port that hold frames, lowest first. -/
def State.classQueues (s : State) (e tc : Nat) : List Nat :=
  (s.eng.q.queues.map (·.1)).filter fun q => s.qKind q == 1 && s.qTarget q == e && s.qTc q == tc && !(s.queue q).isEmpty

/-- The length of the head frame of a queue at a port. -/
def State.headLen (s : State) (e q : Nat) : Nat :=
  match (s.queue q).head?.bind s.pkt? with
  | some p => s.ethLen e p
  | none => 0

/-- Deficit round robin (R301): the queue to send from and the deficits after it; each arrival at a queue adds its quantum. -/
def drrPick (len quantum : Nat → Nat) : Nat → List Nat → Tbl Nat → Option (Nat × Tbl Nat)
  | 0, _, _ => none
  | _, [], _ => none
  | fuel + 1, q :: rest, d =>
    let have_ := d.at q 0
    if len q ≤ have_ then some (q, d.set q (have_ - len q))
    else
      let order := rest ++ [q]
      let nxt := order.headD q
      drrPick len quantum fuel order (d.set nxt (d.at nxt 0 + quantum nxt))

/-- Queues in round-robin order from `cur` on. -/
def rotateFrom (cur : Nat) (l : List Nat) : List Nat := l.filter (cur ≤ ·) ++ l.filter (· < cur)

/-- The choice of a class: a queue, and the deficits after it. -/
def State.drrChoice (s : State) (e tc : Nat) (ok : List Nat) : Option (Nat × Tbl Nat) :=
  let st := s.eng.q.drr.at (8 * e + tc) (4096, [])
  let quantum (q : Nat) : Nat := s.rd (R.Q_WEIGHT q) * 64
  let order := rotateFrom st.1 ok
  match order with
  | [] => none
  | q :: _ =>
    let d := if q = st.1 then st.2 else st.2.set q (st.2.at q 0 + quantum q)
    drrPick (s.headLen e) quantum (200 * order.length) order d

/-- The first class, from the highest, that can send: its number, queue and deficits, and the queues passed over because
their head does not fit. -/
def State.ethChoice (s : State) (e : Nat) : List Nat → List Nat → Option (Nat × Nat × Tbl Nat) × List Nat
  | [], passed => (none, passed)
  | tc :: rest, passed =>
    let gateOpen := 4 ≤ e ∨ bit? (s.glAt (s.bankAt e s.devTime) e s.devTime).2.1 tc
    let qs := (s.classQueues e tc).filter s.shaperOk
    let late := qs.filter fun q => !(s.fitsGate e tc (s.headLen e q))
    let ok := qs.filter fun q => s.fitsGate e tc (s.headLen e q)
    if gateOpen then
      match s.drrChoice e tc ok with
      | some (q, d) => (some (tc, q, d), passed ++ late)
      | none => s.ethChoice e rest (passed ++ late)
    else s.ethChoice e rest passed

/-- The first deferral of each frame counts in Q_NO_FIT of its queue (R308). -/
def countDeferral (q : Nat) : Act := .read fun s =>
  match (s.queue q).head? with
  | none => .skip
  | some i => onlyIf (!(s.eng.q.deferred.contains i))
      (acts [inc (R.Q_NO_FIT q), setQ fun g => { g with deferred := i :: g.deferred }])

/-- Add to a 128-bit count, whose first member holds its upper half (Table TIME-3). -/
def count128 (r : Ref) (k : Nat) : Act := .read fun s =>
  let n := s.rd r * 2 ^ 64 + s.rd ⟨r.idx, r.inst, r.mem + 1⟩ + k
  wrs r [n / 2 ^ 64 % 2 ^ 64, n % 2 ^ 64]

/-- A packet goes out on port `e`, or is dropped for want of a neighbour (R375). -/
def sendEth (e i : Nat) : Act := .read fun s =>
  match s.pkt? i with
  | none => .skip
  | some p => match s.ethOut e p with
    | none => acts [inc (R.TX_NO_NEIGH e), raiseMs 0 0x0F06 e (e + (match s.egress e (ipDst p.octets) with
        | some (k, _) => k * 256
        | none => 0)), freePkt i]
    | some f => acts [emit (.eth e f), inc (R.ETH_TX_FRAMES e),
        count128 (R.TX_OCTETS e 0) (f.length + 4),
        match p.tsId with
        | some ts => note (.ethSent e ts (s.now + s.wireTime e (f.length + 12) / uNs))
        | none => .skip]

/-- The backhaul port carries frames: eth MGMT always, the others on a unit that serves (R392, R397, R407, R509, R526). -/
def State.backhaulOn (s : State) (e : Nat) : Bool :=
  e == 4 || (!s.eng.flt.fatal && s.rd R.UP_STATE != 6 && (match fld (s.rd R.STRAPS) 9 8 with
    | 1 => s.rd R.PR_STATE == 5 || s.rd R.PR_STATE == 6
    | 2 => false
    | _ => true))

/-- ETH_RELEASE (R301, R308, R376): the port's scheduler picks one frame. -/
def ethRelease (e : Nat) : Act := .seq refillsDue <| .read fun s =>
  if s.rd (R.ETH_LINK e) = 0 ∨ s.now < s.eng.time.paused.at e 0 ∨ ¬ s.backhaulOn e then .skip
  else
    let c := s.ethChoice e [7, 6, 5, 4, 3, 2, 1, 0] []
    acts [forAll c.2 countDeferral,
      match c.1 with
      | none => .skip
      | some (tc, q, d) =>
        match s.queue q with
        | [] => .skip
        | i :: rest => acts [
            setQ fun g => { g with drr := g.drr.set (8 * e + tc) (q, if rest.isEmpty then d.clear q else d) },
            popHead q (s.headLen e q), sendEth e i]]

/-- CELLS_FREED (R299, R301): the cells of a frame that was released and sent are free. -/
def cellsFreed (i : Nat) : Act := .read fun s =>
  match s.pkt? i with
  | some p => onlyIf (p.released && p.form != .mesh) (freePkt i)
  | none => .skip

end Sys2Proof.Machine
end

