-- ==== Sys2Proof/Machine/Keys.lean ====
section
/-! DEFINITION. Key slots, their use and their replacement, the crypto queues and link security
(13_keys_crypto.md R313 to R326, R330 to R337). -/

namespace Sys2Proof.Machine

open Sys2Proof

def setKeys (f : KeyEng → KeyEng) : Act := eng fun e => { e with keys := f e.keys }

def slotRest : KeySlot := ⟨[], [], 0, 0, 0⟩

def State.kslot (s : State) (k : Nat) : KeySlot := s.eng.keys.slots.at k slotRest

/-! ## Attributes (Tables KEYS-1 to KEYS-3) -/

def kType (a : Nat) : Nat := fld a 63 60
def kOwner (a : Nat) : Bool := bit? a 47
def kScope (a st : Nat) : Bool := decide (st < 5) && bit? a (42 + st)
def kIndex (a : Nat) : Nat := fld a 37 30

/-- The operations of Table KEYS-3, by their bit. -/
abbrev opProtect := 48
abbrev opVerifyCcm := 49
abbrev opWrap := 50
abbrev opUnwrap := 51
abbrev opDerive := 52
abbrev opMac := 53
abbrev opSign := 54
abbrev opVerify := 55
abbrev opDecaps := 56
abbrev opAuth := 57
abbrev opExport := 58

/-- The octets of a value of a type (Table KEYS-2). -/
def kLen (type : Nat) : Nat := [0, 16, 32, 16, 32, 32, 32, 32, 32, 64, 32].getD type 0

/-- The USAGE bits a type allows. -/
def kUsage (type : Nat) : List Nat :=
  [[], [48, 49], [50, 51], [48, 49], [57], [52, 53], [53], [54, 58], [55], [56, 58], [50, 51]].getD type []

/-- The ways a type is entered: 1 import, 2 generate, 3 derive. -/
def kWays (type : Nat) : List Nat :=
  [[], [1, 2, 3], [1, 2, 3], [1, 2], [1], [1, 2, 3], [1, 2, 3], [2], [1], [2], [1]].getD type []

/-- R318: type and OWNER of a fixed slot. -/
def kFixed (slot : Nat) : Option (Nat × Bool) :=
  [(2, true), (7, false), (9, false), (8, false), (8, true)][slot]?

/-- The key check value (R323). -/
def kcvOf (v : List Nat) : Nat := be ((Config.kmac256 v [] 24 "FOLORI KCV").take 3)

/-! ## Slots -/

def State.keyHeld (s : State) (k : Nat) : Bool := s.rd (R.K_STATE k) != 0

/-- The slot goes to EMPTY: its values are zeroized (Table KEYS-4). -/
def zeroize (k : Nat) : Act := acts [
  setKeys fun e => { e with slots := e.slots.clear k },
  forAll [R.K_ATTR k, R.K_STATE k, R.K_USES k, R.K_KCV k, R.K_STAGED_KCV k, R.K_ROLL k, R.K_FC k] fun r => wr r 0,
  note (.keyChanged k)]

/-- A value becomes the active value of a slot in one step; event 0x0C01 tells of a value that was replaced (R325,
Table KEYS-4). DEDUCED: log 80. -/
def installKey (k attr uses : Nat) (v : List Nat) : Act := .read fun s => acts [
  setKeys fun e => { e with slots := e.slots.set k { slotRest with val := v } },
  wr (R.K_ATTR k) attr, wr (R.K_STATE k) 1, wr (R.K_USES k) (if bit? attr 40 then uses else 0), wr (R.K_KCV k) (kcvOf v),
  wr (R.K_STAGED_KCV k) 0, wr (R.K_ROLL k) 0,
  wr (R.K_FC k) (if kType attr = 3 then 1 else 0),
  onlyIf (s.rd (R.K_STATE k) != 0) (raise 0x0C01 k k), note (.keyChanged k)]

/-- A staged NETWORK value is held (Table KEYS-4). -/
def stageKey (k attr uses : Nat) (v : List Nat) : Act := .read fun s => acts [
  setKeys fun e => { e with slots := e.slots.set k { s.kslot k with staged := v, attr := attr, uses := uses } },
  wr (R.K_STATE k) 2, wr (R.K_STAGED_KCV k) (kcvOf v)]

/-- The staged value is promoted (Table KEYS-4). -/
def promoteKey (k : Nat) : Act := .read fun s =>
  installKey k (s.kslot k).attr (s.kslot k).uses (s.kslot k).staged

/-- R315: a slot serves an operation of its type. -/
def State.keyServes (s : State) (k op : Nat) : Bool :=
  s.keyHeld k && bit? (s.rd (R.K_ATTR k)) op && (kUsage (kType (s.rd (R.K_ATTR k)))).contains op

/-- The value an operation loads; none is KEY_INVALID (R315). -/
def State.keyFor (s : State) (k op : Nat) : Option (List Nat) :=
  if s.keyServes k op then some (s.kslot k).val else none

/-- An operation on a slot starts: K_OPS and the use counter (R317). -/
def keyStarts (k : Nat) : Act := .read fun s =>
  acts [inc (R.K_OPS k),
    if bit? (s.rd (R.K_ATTR k)) 40 then
      if s.rd (R.K_USES k) ≤ 1 then acts [zeroize k, raise 0x0C03 k k] else wr (R.K_USES k) (s.rd (R.K_USES k) - 1)
    else .skip]

/-- Run an operation with a slot's value, or the KEY_INVALID branch. -/
def withKey (k op : Nat) (use : List Nat → Act) (invalid : Act) : Act := .read fun s =>
  match s.keyFor k op with
  | some v => acts [keyStarts k, use v]
  | none => invalid

/-! ## Crypto queues (R335, R336) -/

/-- A request is served at once: one of queue 0 or 1, or of another while the engines are free. DESIGN CHOICE: log 82. -/
def quickJob (c : Nat) : Act := inc (R.CQ_DONE c)

def State.jobs (s : State) (c : Nat) : List Job := s.eng.keys.jobs.at c []

def setJobs (c : Nat) (l : List Job) : Act := acts [
  setKeys fun e => { e with jobs := if l.isEmpty then e.jobs.clear c else e.jobs.set c l }, wr (R.CQ_DEPTH c) l.length]

/-- A request enters a queue, or fails with BUSY (R336). -/
def postJob (c : Nat) (j : Job) (ok busy : Act) : Act := .read fun s =>
  if (s.jobs c).length < 4096 then acts [setJobs c (s.jobs c ++ [j]), ok]
  else acts [inc (R.CQ_REFUSED c), raiseMs c 0x0C08 c c, busy]

/-- A request is served at once while the engines are free; while requests of queues 2 to 5 wait it waits with them, or fails with BUSY
(R335, R336). DESIGN CHOICE: log 82. -/
def askJob (c : Nat) (j : Job) (now busy : Act) : Act := .read fun s =>
  if s.eng.keys.jobs.isEmpty then .seq (quickJob c) now else postJob c j .skip busy

/-- A request has completed and leaves its queue. -/
def endJob (c : Nat) (j : Job) : Act := .read fun s =>
  onlyIf ((s.jobs c).contains j) (acts [setJobs c ((s.jobs c).erase j), inc (R.CQ_DONE c)])

/-- The next queue of the weighted round robin with a request waiting, and its place in the turn (R335). -/
def nextTurn (waiting : Nat → Bool) (weight : Nat → Nat) (turn : Nat × Nat) : Option (Nat × (Nat × Nat)) :=
  if 0 < turn.2 ∧ waiting turn.1 then some (turn.1, (turn.1, turn.2 - 1))
  else
    let from_ := if turn.2 = 0 then turn.1 + 1 else turn.1
    let order := (List.range 4).map fun i => 2 + (from_ + i + 2) % 4
    (order.find? waiting).map fun c => (c, (c, weight c - 1))

/-- The next request of queues 2 to 5: its queue, and the turn after it. -/
def State.nextJob (s : State) : Option (Nat × Job × (Nat × Nat)) :=
  (nextTurn (fun c => !(s.jobs c).isEmpty) (fun c => s.rd (R.CQ_WEIGHT c)) s.eng.keys.turn).bind fun x =>
    (s.jobs x.1).head?.map fun j => (x.1, j, x.2)

/-- The engines serve the next request of queues 2 to 5. DESIGN CHOICE: log 82. -/
def serveJob (finish : Nat → Job → Act) : Act := .read fun s =>
  match s.nextJob with
  | none => .skip
  | some (c, j, turn) => acts [setKeys fun e => { e with turn := turn }, finish c j]

/-- A named request completes, when it is its turn. DESIGN CHOICE: log 82. -/
def atTurn (j : Job) (finish : Act) : Act := .read fun s =>
  onlyIf (s.nextJob.any fun x => x.2.1 == j) (serveJob fun _ _ => finish)

/-! ## Key commands (R318, R320 to R325, Table KEYS-9) -/

/-- The attributes are allowed for the target and the way of entry (BAD_ATTR). -/
def State.attrOk (s : State) (c : KeyCmd) : Bool :=
  let ty := kType c.attr
  let usageOk := (List.range 12).all fun b => !(bit? c.attr (48 + b)) || (kUsage ty).contains (48 + b)
  let fixedOk := match kFixed c.target with
    | some (t, o) => ty == t && kOwner c.attr == o
    | none => true
  let countOk := !(bit? c.attr 40) || decide (1 ≤ c.uses)
  let indexOk := ty != 3 || (kIndex c.attr != 0 &&
    (s.rd (R.K_STATE c.target) == 0 || kIndex (s.rd (R.K_ATTR c.target)) != kIndex c.attr))
  decide (c.target < 4096) && decide (1 ≤ ty) && (kWays ty).contains c.kind && usageOk && fixedOk && countOk && indexOk

/-- The source serves the command (SOURCE). -/
def State.sourceOk (s : State) (c : KeyCmd) : Bool :=
  if c.kind = 1 then
    if c.source = 0xFFFE then kType c.attr == 8
    else decide (c.source < 4096) && (s.keyServes c.source opDecaps || s.keyServes c.source opUnwrap)
  else if c.kind = 3 then
    if c.source = 0xFFFF then s.rd R.LC_ROOT_KILLED == 0 else decide (c.source < 4096) && s.keyServes c.source opDerive
  else true

/-- The length of the buffer suits source and target (LENGTH). -/
def State.lengthOk (s : State) (c : KeyCmd) : Bool :=
  let n := c.data.length
  if c.kind = 1 then
    if c.source = 0xFFFE then n == 1952
    else if s.keyServes c.source opDecaps then n == 1088 + kLen (kType c.attr) + 8
    else n == kLen (kType c.attr) + 8
  else if c.kind = 3 then decide (n ≤ 256) else true

/-- R323: the command must carry a key check value and does not. -/
def State.kcvMissing (s : State) (c : KeyCmd) : Bool :=
  c.kind == 1 && !(bit? c.kcv 24) && !(kType c.attr == 3 && s.rd (R.K_STATE c.target) == 1)

/-- A node-table entry holds a link key (R321; Table NODE-8). -/
def State.anyKeyValid (s : State) : Bool := s.objs.any fun e => e.1.idx == 0x3100 && e.1.mem == 11 && bit? e.2.toNat 8

/-- The slot can take the value now (STATE: R321, Table KEYS-4). -/
def State.stateOk (s : State) (c : KeyCmd) : Bool :=
  let st := s.rd (R.K_STATE c.target)
  !(c.target == 0 && st != 0 && s.anyKeyValid) && (st == 0 || st == 1 || (st == 2 && kType c.attr == 3))

/-- The status with which a command fails before it runs, 0 for none. -/
def State.keyFault (s : State) (c : KeyCmd) : Nat :=
  if !(s.attrOk c) then 2
  else if !(s.sourceOk c) then 3
  else if s.kcvMissing c then 6
  else if !(s.lengthOk c) then 8
  else if !(s.stateOk c) then 7
  else 0

/-- A command ends with a status; every failure raises event 0x0C02 (Table KEYS-11). -/
def keyEnds (target status : Nat) : Act := acts [wr R.KI_STATUS status,
  onlyIf (status != 0) (raise 0x0C02 target (target % 4096 + status * 65536))]

/-- The buffer is zeroized. -/
def clearBuffer : Act := setKeys fun e => { e with buffer := [] }

/-- The first `n` octets of the import buffer. -/
def State.importOctets (s : State) (n : Nat) : List Nat :=
  (s.eng.keys.buffer ++ List.replicate n 0).take n

/-- KI_CMD takes a value 1 to 3 (R322 to R325). DEDUCED: log 81. -/
def keyCommand (kind : Nat) : Act := .read fun s =>
  let c : KeyCmd := ⟨kind, s.rd R.KI_TARGET, s.rd R.KI_ATTR, s.rd R.KI_USES, s.rd R.KI_SOURCE, s.rd R.KI_KCV,
    s.importOctets (s.rd R.KI_LEN)⟩
  if s.eng.keys.cmd.isSome then keyEnds c.target 1
  else if s.keyFault c ≠ 0 then acts [keyEnds c.target (s.keyFault c), clearBuffer]
  else postJob 5 .key (acts [setKeys fun e => { e with cmd := some c }, wr R.KI_STATUS 1, clearBuffer])
    (acts [keyEnds c.target 1, clearBuffer])

/-- The privilege and life-cycle conditions of KI_CMD (R324): 0 or a status of Table DICT-6. -/
def State.keyCmdDenied (s : State) (priv : Nat) : Nat :=
  let a := s.rd R.KI_ATTR
  let lc := s.rd R.LC_STATE
  if lc = 0 then 0x0C
  else if kOwner a then
    if priv < 2 then 0x05 else if (lc = 2 ∨ lc = 3) ∧ kScope a lc then 0 else 0x0C
  else if priv < 3 then 0x05 else if lc = 1 ∧ kScope a lc then 0 else 0x0C

/-- R320: a derived value. -/
def deriveValue (key ctx : List Nat) (target attr : Nat) : List Nat :=
  let n := kLen (kType attr)
  (Config.kmac256 key (ctx ++ leOctets 8 target ++ leOctets 8 attr) (8 * n) "FOLORI DERIVE").take n

/-- R322: the value an import unwraps. -/
def unwrapWith (key : List Nat) (c : KeyCmd) : Option (List Nat) := Config.aesUnwrap key c.data

def unwrapKem (key : List Nat) (c : KeyCmd) : Option (List Nat) :=
  let ct := c.data.take 1088
  Config.aesUnwrap (Config.kmac256 (Config.mlkemDecaps key ct) ct 256 "FOLORI IMPORT") (c.data.drop 1088)

/-- A value has been entered: it replaces or is staged (Table KEYS-4). -/
def enterKey (c : KeyCmd) (v : List Nat) : Act := .read fun s =>
  if !(s.stateOk c) then keyEnds c.target 7
  else if bit? c.kcv 24 ∧ c.kind = 1 ∧ kcvOf v ≠ fld c.kcv 23 0 then keyEnds c.target 5
  else acts [
    if kType c.attr = 3 ∧ s.rd (R.K_STATE c.target) ≠ 0 then stageKey c.target c.attr c.uses v
    else installKey c.target c.attr c.uses v,
    keyEnds c.target 0]

/-- KEY_COMMAND_DONE (R320, R322, R325): the running command completes. -/
def keyDone : Act := .read fun s =>
  match s.eng.keys.cmd with
  | none => .skip
  | some c => acts [
      setKeys fun e => { e with cmd := none }, endJob 5 .key,
      if c.kind = 2 then takeRandom fun o => enterKey c ((o ++ List.replicate 64 0).take (kLen (kType c.attr)))
      else if c.kind = 3 then
        if c.source = 0xFFFF then enterKey c (deriveValue s.eng.keys.rootKey c.data c.target c.attr)
        else withKey c.source opDerive (fun k => enterKey c (deriveValue k c.data c.target c.attr)) (keyEnds c.target 3)
      else if c.source = 0xFFFE then enterKey c (Config.shake256 c.data)
      else .read fun s =>
        let op := if s.keyServes c.source opDecaps then opDecaps else opUnwrap
        withKey c.source op (fun k =>
          match (if op = opDecaps then unwrapKem k c else unwrapWith k c) with
          | some v => enterKey c v
          | none => keyEnds c.target 4) (keyEnds c.target 3)]

/-- KI_WRITE of `n` octets (Table KEYS-8). -/
def keyWrite (n : Nat) : Act := .read fun s =>
  let off := s.rd R.KI_OFFSET
  let data := wordsToOctets ((List.range (n / 8)).map fun k => s.word (R.KI_DATA k))
  acts [setKeys fun e =>
      let b := e.buffer ++ List.replicate (off + n - e.buffer.length) 0
      { e with buffer := b.take off ++ data ++ b.drop (off + n) },
    wr R.KI_OFFSET (off + n)]

/-- KI_WRITE stores 8 to 256 octets, a multiple of 8, inside the buffer, which takes the 5,261 octets of an unlock (R328). -/
def State.keyWriteOk (s : State) (n : Nat) : Bool :=
  decide (8 ≤ n) && decide (n ≤ 256) && n % 8 == 0 && decide (s.rd R.KI_OFFSET + n ≤ 5264)

/-- The privilege K_ZEROIZE needs: Factory for OWNER 0. -/
def State.zeroizePriv (s : State) (k : Nat) : Nat := if kOwner (s.rd (R.K_ATTR k)) then 2 else 3

/-- KP_LEN, and the public key KP_DATA reads (Table KEYS-8). -/
def State.publicKey (s : State) : List Nat :=
  let k := s.rd R.KP_SLOT
  let ty := kType (s.rd (R.K_ATTR k))
  if s.keyServes k opExport then
    let n := if ty = 7 then 1952 else 1184
    ((Config.publicOf (s.kslot k).val) ++ List.replicate n 0).take n
  else []

/-- A read of KP_DATA is an operation on its slot (R317). DESIGN CHOICE: log 205. -/
def exportStarts : Act := .read fun s => onlyIf (s.keyServes (s.rd R.KP_SLOT) opExport) (keyStarts (s.rd R.KP_SLOT))

/-! ## K_ROLL (R326) -/

/-- A commit that writes K_ROLL of a slot that is not ACTIVE_STAGED. -/
def rollFault (s0 : State) (refs : List Ref) : Option Ref :=
  refs.find? fun r => r.idx == 0x4000 && r.mem == 5 && s0.rd (R.K_STATE r.inst) != 2

/-- K_ROLL 1 applied: the staged value is accepted for receive. -/
def rollApplied (k : Nat) : Act := .read fun s =>
  onlyIf (s.rd (R.K_ROLL k) == 1 && s.rd (R.K_STATE k) == 2) (wr (R.K_STATE k) 3)

/-- A received frame authenticated under the staged value (Table KEYS-4). -/
def rollVerified (k node asn : Nat) : Act := .read fun s =>
  onlyIf (s.rd (R.K_STATE k) == 3) (acts [wr (R.K_STATE k) 4,
    setKeys fun e => { e with slots := e.slots.set k { s.kslot k with promAsn := asn } },
    raise 0x0C04 k (k + node * 2 ^ 18)])

/-- KEY_PROMOTE (Table KEYS-4): the promotion is due once a timeslot whose ASN is a multiple of TS_REF_LEN has started. -/
def keyPromote (k asn refLen : Nat) : Act := .read fun s =>
  onlyIf (s.rd (R.K_STATE k) == 4 && decide ((s.kslot k).promAsn / refLen < asn / refLen)) (promoteKey k)

/-! ## Link security (R330 to R333, Table KEYS-6) -/

/-- The CCM* nonce of a frame counter: source EUI-64, counter, level. -/
def nonceFc (eui fc level : Nat) : List Nat := beOctets 8 eui ++ beOctets 4 fc ++ [level]

/-- The MIC octets of a security level. -/
def micLen (level : Nat) : Nat := [0, 4, 8, 16, 0, 4, 8, 16].getD level 0

/-- A payload protected at a level: levels 5 to 7 encrypt, levels 1 to 3 authenticate only. -/
def protect (key nonce auth body : List Nat) (level : Nat) : List Nat :=
  if 4 ≤ level then Config.ccmSeal key nonce auth body (micLen level)
  else body ++ Config.ccmSeal key nonce (auth ++ body) [] (micLen level)

/-- The network value that sends, with its slot, when one is ACTIVE (R331). -/
def State.netSlot (s : State) : Option Nat :=
  let k := s.rd R.LS_NET_SLOT
  if k < 4096 ∧ s.keyHeld k ∧ kType (s.rd (R.K_ATTR k)) = 3 then some k else none

/-- The values that serve an operation under a key index: the active one, and a rolling one (R315, R326). -/
def State.netValues (s : State) (op index : Nat) : List (Bool × List Nat) :=
  match s.netSlot with
  | none => []
  | some k =>
    let sl := s.kslot k
    (if kIndex (s.rd (R.K_ATTR k)) = index ∧ bit? (s.rd (R.K_ATTR k)) op then [(false, sl.val)] else []) ++
      (if 3 ≤ s.rd (R.K_STATE k) ∧ kIndex sl.attr = index ∧ bit? sl.attr op then [(true, sl.staged)] else [])

/-- K_FC of a network slot takes another value; event 0x0C07 tells that it has come to 0xFFFF_0000 (R333). -/
def setNetFc (k v : Nat) : Act := .read fun s => acts [wr (R.K_FC k) v,
  onlyIf (decide (s.rd (R.K_FC k) < 0xFFFF0000) && decide (0xFFFF0000 ≤ v)) (raise 0x0C07 k k)]

/-- A broadcast frame or an EB takes K_FC of the network slot, or is withheld (R331, R333). -/
def takeNetFc (go : Nat → Nat → List Nat → Act) (withheld : Act) : Act := .read fun s =>
  let no := acts [inc R.LS_NO_NETKEY, withheld]
  match s.netSlot with
  | none => no
  | some k =>
    let fc := s.rd (R.K_FC k)
    if 0xFFFFFFFF ≤ fc then no
    else withKey k opProtect (fun v => acts [
        setNetFc k (fc + 1), quickJob 1,
        go k fc v]) no

/-- A node's effective outgoing counter (R334). -/
def State.outFc (s : State) (n : Nat) : Nat :=
  let lag := (s.rd R.FC_EPOCH + 256 - s.eng.keys.leap.at n 0) % 256
  min 0xFFFFFFFF (fld (s.rd (R.NT_FC n)) 63 32 + lag * 2 ^ 24)

def setLeap (n : Nat) : Act := .read fun s =>
  setKeys fun e => { e with leap := if s.rd R.FC_EPOCH = 0 then e.leap.clear n else e.leap.set n (s.rd R.FC_EPOCH) }

/-- The effective counter is written back (R334). -/
def leapNode (n : Nat) : Act := .read fun s => acts [wrFld (R.NT_FC n) 63 32 (s.outFc n), setLeap n]

/-- LEAP_SWEEP (R334): the sweep has come as far as index `upTo`. -/
def leapSweep (upTo : Nat) : Act := .read fun s =>
  let w := s.rd R.LEAP_STATE
  let next := fld w 22 0
  if ¬ bit? w 63 then .skip
  else
    let done_ := (s.objs.filter fun e => e.1.idx == 0x3100 && e.1.mem == 0 && decide (next ≤ e.1.inst ∧ e.1.inst ≤ upTo)).map
      fun e => e.1.inst
    acts [forAll done_ leapNode,
      wr R.LEAP_STATE (if 8388607 ≤ upTo then 0 else 2 ^ 63 + max next (upTo + 1))]

/-- At a switch-over the epoch advances and every NETWORK counter leaps (R334). -/
def leapCounters : Act := .read fun s =>
  let nets := (s.objs.filter fun e => e.1.idx == 0x4000 && e.1.mem == 0 && kType e.2.toNat == 3).map fun e => e.1.inst
  acts [wr R.FC_EPOCH ((s.rd R.FC_EPOCH + 1) % 256),
    forAll nets fun k =>
      let v := s.rd (R.K_FC k) + 2 ^ 24
      setNetFc k (min 0xFFFFFFFF v)]

/-- A security failure of a received frame (R330). -/
def secFail : Act := inc R.LS_SEC_FAIL

end Sys2Proof.Machine
end

