-- ==== Sys2Proof/Machine/Pending.lean ====
section
/-! DEFINITION. The pending store, the timetable wheel and the overflow list as stores (09_sleepy_nodes.md R242 to R247;
12_queues_shaping_policing.md R310). -/

namespace Sys2Proof.Machine

open Sys2Proof

def setSn (f : SnEng → SnEng) : Act := eng fun e => { e with sn := f e.sn }

/-! ## Node states (Tables SLEEP-3 and SLEEP-7): 0 IDLE, 1 WAITING, 2 SWEEP, 3 UNREACHABLE, 4 OVERFLOW -/

def State.snState (s : State) (n : Nat) : Nat := fld (s.rd (R.SN_STATUS n)) 63 61
def State.snKnown (s : State) (n : Nat) : Bool := bit? (s.rd (R.SN_STATUS n)) 60
def State.snMisses (s : State) (n : Nat) : Nat := fld (s.rd (R.SN_STATUS n)) 59 58
def State.snFrames (s : State) (n : Nat) : List Nat := s.eng.sn.lists.at n []

def setSnState (n v : Nat) : Act := wrFld (R.SN_STATUS n) 63 61 v
def setMisses (n v : Nat) : Act := wrFld (R.SN_STATUS n) 59 58 v

/-- FRAMES shows the length of the node's list. -/
def showFrames (n : Nat) : Act := .read fun s => wrFld (R.SN_STATUS n) 29 18 (s.snFrames n).length

/-- A frame of a campaign that is PAUSED waits (15_node_image_campaigns.md R368). -/
def State.campHeld (s : State) (i : Nat) : Bool :=
  match (s.pkt? i).bind fun p => p.camp with
  | some c => s.rd (R.CA_STATE c) == 4
  | none => false

/-- Free pending-store cells: PS_FREE (Table SLEEP-4). -/
def State.psFree (s : State) : Nat :=
  s.rd R.SN_PS_CELLS - ((s.eng.sn.ages.map fun a => match s.pkt? a.1 with
    | some p => p.cells
    | none => 0).foldl (· + ·) 0)

/-! ## The wheel and the overflow list -/

/-- The wheel entry or list place of a node is freed. -/
def unwheel (n : Nat) : Act := .read fun s =>
  acts [
    onlyIf (s.eng.sn.wheel.any fun w => w.1 == n) (acts [
      setSn fun g => { g with wheel := g.wheel.filter fun w => w.1 != n }, inc R.WH_FREE]),
    onlyIf (s.eng.sn.overflow.contains n) (acts [
      setSn fun g => { g with overflow := g.overflow.filter (· != n) }, wr R.OVF_LEN (s.rd R.OVF_LEN - 1)]),
    setSn fun g => { g with plans := g.plans.clear n },
    wrFld (R.SN_STATUS n) 17 0 0]

/-- The wheel entry of a node is placed in the bucket of a decision instant (R246). -/
def placeEntry (n due : Nat) : Act := .read fun s =>
  let ms := min (due / (1000 * uUs)) (s.devTime / (1000 * uUs) + 262143)
  let held := s.eng.sn.wheel.any fun w => w.1 == n
  acts [onlyIf (!held) (wr R.WH_FREE (s.rd R.WH_FREE - 1)),
    setSn fun g => { g with wheel := (g.wheel.filter fun w => w.1 != n) ++ [(n, ms)] },
    wrFld (R.SN_STATUS n) 17 0 (ms % 262144)]

/-! ## Frames -/

/-- The pending-store charges of a frame are released. -/
def psUncharge (p : Pkt) : Act := acts [
  forAll p.groups fun g => acts [subFrom (R.QG_PS_HELD g) p.cells, judgeGroupPs g],
  match p.group with
  | some g => acts [subFrom (R.NG_PS_HELD g) p.cells, judgeNodePs g]
  | none => .skip]

/-- One pending frame of a node is freed; with the last one the node becomes IDLE (Table SLEEP-3). -/
def freePending (n i : Nat) : Act := .read fun s =>
  match s.pkt? i with
  | none => .skip
  | some p => acts [
      setQ fun g => { g with pkts := g.pkts.clear i },
      setSn fun g =>
        let l := (g.lists.at n []).filter (· != i)
        { g with
          lists := if l.isEmpty then g.lists.clear n else g.lists.set n l
          ages := g.ages.filter fun a => a.1 != i },
      (match p.tsId with
        | some ts => note (.airLost ts)
        | none => .skip),
      psUncharge p, showFrames n,
      .read fun s => onlyIf ((s.snFrames n).isEmpty && s.snState n != 0) (acts [unwheel n, setSnState n 0])]

/-- All pending frames of a node are freed, counted in SN_PS_DROP. -/
def dropPending (n : Nat) : Act := .read fun s =>
  forAll (s.snFrames n) fun i => acts [inc R.SN_PS_DROP, freePending n i]

/-- A refused frame (R243). -/
def refusePending (n i cause : Nat) : Act :=
  acts [inc R.SN_PS_DROP, raiseMs 0 0x0805 n (n * 256 + cause), freePkt i]

/-- The buffer charges of a frame are released, its cells are free again, and the frame stays. -/
def leaveBuffer (i : Nat) : Act := .read fun s =>
  match s.pkt? i with
  | none => .skip
  | some p => acts [freePkt i, setQ fun g => { g with pkts := g.pkts.set i { p with queue := none, charged := false } }]

/-- The counter of the group whose pending-store quota would not hold the frame's cells, or is over: the first that fails,
queue groups before the node group (R310, R298). -/
def State.psQuotaFails (s : State) (p : Pkt) : Option Ref :=
  match p.groups.find? fun g => bit? (s.rd (R.QG_OVER g)) 1 ||
      decide (s.rd (R.QG_PS_QUOTA g) < s.rd (R.QG_PS_HELD g) + p.cells) with
  | some g => some (R.QG_REFUSED g)
  | none => match p.group with
    | some g => if bit? (s.rd (R.NG_OVER g)) 1 ∨ s.rd (R.NG_PS_QUOTA g) < s.rd (R.NG_PS_HELD g) + p.cells then
        some (R.NG_REFUSED g) else none
    | none => none

/-- A frame released for a sleeping node moves to the pending store, or is refused (R242, R243, R310); `placed` plans it. -/
def enterPending (n i : Nat) (placed : Act) : Act := .read fun s =>
  match s.pkt? i with
  | none => .skip
  | some p =>
    if s.rd R.SN_EN = 0 then refusePending n i 0
    else if s.rd R.SN_NODE_FRAMES ≤ (s.snFrames n).length then refusePending n i 1
    else if s.psFree < p.cells then refusePending n i 2
    else match s.psQuotaFails p with
    | some c => acts [inc c, refusePending n i 3]
    | none => acts [leaveBuffer i,
      forAll p.groups fun g => addTo (R.QG_PS_HELD g) p.cells,
      match p.group with
      | some g => addTo (R.NG_PS_HELD g) p.cells
      | none => .skip,
      setSn fun g => { g with lists := g.lists.set n (g.lists.at n [] ++ [i]), ages := g.ages ++ [(i, s.now)] },
      showFrames n, placed]

end Sys2Proof.Machine
end

