-- ==== Sys2Proof/Machine/Nodes.lean ====
section
/-! DEFINITION. The node table, the cuckoo tables and the learned caches (11_node_table_forwarding.md R264 to R284). -/

namespace Sys2Proof.Machine

open Sys2Proof

def setNodes (f : NodeEng → NodeEng) : Act := eng fun e => { e with nodes := f e.nodes }

/-! ## Entries (R265, Table NODE-8) -/

def State.nodeState (s : State) (n : Nat) : Nat := s.rd (R.NT_STATE n)
def State.joined (s : State) (n : Nat) : Bool := s.nodeState n == 2

/-- The entry is in use, and still that of generation `gen` (R267). -/
def State.isEntry (s : State) (n gen : Nat) : Bool := s.nodeState n != 0 && s.rd (R.NT_GEN n) == gen

/-- The key a node is listed under in a table. -/
def State.nodeKey (s : State) (t n : Nat) : Nat := if t = 0 then s.rd (R.NT_EUI64 n) else s.rd (R.NT_IID n)

/-- The node group of a node for metering, queues and quotas (R265, R296). -/
def State.nodeGroup (s : State) (n : Nat) : Nat :=
  match onesOf 16 (s.rd (R.NT_GROUPS n)) with
  | g :: _ => g
  | [] => 16

/-- The own partition (R282). -/
def State.partBase (s : State) : Nat := s.rd (R.PT_BASE (s.rd R.DEVNUM))
def State.partLimit (s : State) : Nat := s.rd (R.PT_LIMIT (s.rd R.DEVNUM))
def State.ownIndex (s : State) (n : Nat) : Bool :=
  s.partBase != 0 && decide (s.partBase ≤ n) && decide (n ≤ s.partLimit)

/-- The peers that have a present partition. -/
def State.peers (s : State) : List Nat := (List.range 8).filter fun d => d != s.rd R.DEVNUM && s.rd (R.PT_BASE d) != 0

/-- The indexes of entries that are not FREE, lowest first. -/
def State.usedNodes (s : State) : List Nat := (s.objs.filter fun e => e.1.idx == 0x3100 && e.1.mem == 0).map fun e => e.1.inst

/-- The lowest FREE index of the partition. -/
def State.lowestFree (s : State) : Option Nat :=
  let c := s.usedNodes.foldl (fun c u => if u = c then c + 1 else c) s.partBase
  if s.partBase ≠ 0 ∧ c ≤ s.partLimit then some c else none

/-- NT_FREE (Table NODE-3). -/
def State.ntFree (s : State) : Nat :=
  if s.partBase = 0 then 0 else s.partLimit + 1 - s.partBase - (s.usedNodes.filter s.ownIndex).length

/-- TCORR of a node, and its update (Table NODE-1). -/
def setTcorr (n : Nat) (v : Int) : Act := wrFld (R.NT_METRICS n) 27 16 (unsgn 12 (max (-2047) (min 2047 v)))

/-! ## CRC-64 and buckets (R272) -/

/-- One octet of CRC-64, most significant bit first. -/
def crc64Octet (c b : Nat) : Nat :=
  (List.range 8).foldl (fun c i =>
    let top := (c / 2 ^ 63 + b / 2 ^ (7 - i)) % 2
    bxor (2 * c % 2 ^ 64) (if top = 1 then 0x42F0E1EBA9EA3693 else 0)) c

def crc64 (seed key : Nat) : Nat := (beOctets 8 key).foldl crc64Octet seed

def State.h1 (s : State) (t key : Nat) : Nat := crc64 (s.rd (R.TB_SEED1 t)) key % 2 ^ 22
def State.h2 (s : State) (t key : Nat) : Nat := crc64 (s.rd (R.TB_SEED2 t)) key % 2 ^ 22

def bucketRest : List (Option (Nat × Nat)) := [none, none, none, none]

abbrev Bucket := List (Option (Nat × Nat))

def State.bucket (s : State) (t b : Nat) : Bucket := s.eng.nodes.buckets.at (t * 2 ^ 22 + b) bucketRest

def setAt {α : Type} (l : List α) (i : Nat) (v : α) : List α := l.zipIdx.map fun x => if x.2 = i then v else x.1

/-- Write one way of a bucket. -/
def setWay (t b w : Nat) (v : Option (Nat × Nat)) : Act := setNodes fun g =>
  let l := setAt (g.buckets.at (t * 2 ^ 22 + b) bucketRest) w v
  { g with buckets := if l = bucketRest then g.buckets.clear (t * 2 ^ 22 + b) else g.buckets.set (t * 2 ^ 22 + b) l }

def State.stash (s : State) (t : Nat) : List (Nat × Nat) := s.eng.nodes.stash.at t []

/-- The stash takes a new content; event 0x0A04 at 48 (R278). -/
def setStash (t : Nat) (l : List (Nat × Nat)) : Act := .read fun s => acts [
  setNodes fun g => { g with stash := if l.isEmpty then g.stash.clear t else g.stash.set t l },
  wr (R.TB_STASH t) l.length,
  onlyIf (s.rd (R.TB_STASH t) == 47 && l.length == 48) (raise 0x0A04 t t)]

/-- The valid ways of the buckets of a key that hold it. -/
def State.waysOf (s : State) (t key : Nat) : List (Nat × Nat) :=
  ([s.h1 t key, s.h2 t key].eraseDups).flatMap fun b =>
    ((s.bucket t b).zipIdx.filter fun x => match x.1 with
      | some (k, _) => k == key
      | none => false).map fun x => (b, x.2)

/-- A lookup in a key table: both buckets, the stash and the ferry register (R273). -/
def State.lookup (s : State) (t key : Nat) : Option Nat :=
  match ([s.h1 t key, s.h2 t key].flatMap (s.bucket t)).findSome? fun x => match x with
    | some (k, n) => if k = key then some n else none
    | none => none with
  | some n => some n
  | none => ((s.stash t ++ (aget s.eng.nodes.ferry t).toList).find? fun x => x.1 == key).map (·.2)

/-! ## Insertion (R274 to R278) -/

def State.tblLfsr (s : State) (t : Nat) : Nat := s.eng.nodes.lfsr.at t (Config.tableSeed t)

def setLfsr (t x : Nat) : Act := setNodes fun g => { g with lfsr := g.lfsr.set t x }

/-- The other bucket of a key. -/
def State.otherBucket (s : State) (t key b : Nat) : Nat := if s.h1 t key = b then s.h2 t key else s.h1 t key

def freeWay (b : Bucket) : Option Nat := ((b.zipIdx.find? fun x => x.1.isNone).map (·.2))

/-- R274: the search for a relocation path from bucket `b`; `path` holds the slots found, first slot first. The answer
carries the free slot at its end and the LFSR after it. -/
def State.search (s : State) (t : Nat) : Nat → List (Nat × Nat) → Nat → Nat → Option (List (Nat × Nat)) × Nat
  | 0, _, _, x => (none, x)
  | fuel + 1, path, b, x =>
    let ways := (s.bucket t b).zipIdx.filterMap fun o => match o.1 with
      | some (k, _) => if !(path.contains (b, o.2)) && s.otherBucket t k b != b then some (o.2, k) else none
      | none => none
    match ways with
    | [] => (none, x)
    | _ =>
      let x' := lfsr32 x
      match ways[x' % ways.length]? with
      | none => (none, x')
      | some (w, k) =>
        let path' := path ++ [(b, w)]
        let b' := s.otherBucket t k b
        match freeWay (s.bucket t b') with
        | some f => (some (path' ++ [(b', f)]), x')
        | none => s.search t fuel path' b' x'

/-- The ferry register of a table is loaded, or emptied (R275). -/
def setFerry (t : Nat) (v : Option (Nat × Nat)) : Act := setNodes fun g => { g with ferry := match v with
  | some x => g.ferry.set t x
  | none => g.ferry.clear t }

/-- The moves of a path, executed from its end, each in the four steps of R275 (R274). No lookup races them: log 183.
DESIGN CHOICE: log 183. -/
def moveAll (t : Nat) : List (Nat × Nat) → Act
  | [] => .skip
  | [_] => .skip
  | a :: b :: rest => .seq (moveAll t (b :: rest)) (.read fun s => acts [
      setFerry t ((s.bucket t a.1).getD a.2 none), setWay t b.1 b.2 ((s.bucket t a.1).getD a.2 none), setWay t a.1 a.2 none,
      setFerry t none, inc (R.TB_MOVES t)])

/-- A key stands in a way of a bucket. -/
def placeKey (t key node : Nat) (b w : Nat) : Act :=
  acts [setWay t b w (some (key, node)), inc (R.TB_ENTRIES t), inc (R.TB_INSERTS t)]

/-- A key is inserted (R274, R277): into a free way, over a path, or into the stash; `full` when the stash is full.
DEDUCED: log 72. DESIGN CHOICE: log 183. -/
def insertKey (t key node : Nat) (ok full : Act) : Act := .read fun s =>
  let b1 := s.h1 t key
  let b2 := s.h2 t key
  match freeWay (s.bucket t b1), freeWay (s.bucket t b2) with
  | some w, _ => acts [placeKey t key node b1 w, ok]
  | none, some w => acts [placeKey t key node b2 w, ok]
  | none, none =>
    let r := s.search t (s.rd R.NT_MOVES) [] b1 (s.tblLfsr t)
    .seq (setLfsr t r.2) (match r.1 with
      | some path => acts [moveAll t path,
          .read fun s => wr (R.TB_LONGEST t) (max (s.rd (R.TB_LONGEST t)) (path.length - 1)),
          match path with
          | (b, w) :: _ => placeKey t key node b w
          | [] => .skip, ok]
      | none =>
        if (s.stash t).length < 64 then
          acts [setStash t (s.stash t ++ [(key, node)]), inc (R.TB_STASHED t), inc (R.TB_INSERTS t), ok]
        else acts [inc (R.TB_FAILS t), full])

/-- The oldest stash entry that fits a freed way takes it (R278). -/
def unstash (t b w : Nat) : Act := .read fun s =>
  match (s.stash t).find? fun x => s.h1 t x.1 == b || s.h2 t x.1 == b with
  | none => .skip
  | some x => acts [setStash t ((s.stash t).erase x), setWay t b w (some x), inc (R.TB_ENTRIES t)]

/-- A key is removed from a table; unless `kept`, its way is offered to the stash. -/
def removeKey (t key : Nat) (kept : Bool) : Act := .read fun s =>
  match s.waysOf t key with
  | (b, w) :: _ => acts [setWay t b w none, wr (R.TB_ENTRIES t) (s.rd (R.TB_ENTRIES t) - 1),
      onlyIf (!kept) (unstash t b w)]
  | [] => setStash t ((s.stash t).filter fun x => x.1 != key)

/-! ## Learned caches (R280, R281) -/

def State.cacheSet (s : State) (pipe t key : Nat) : Nat :=
  8192 * pipe + crc64 (s.rd (R.TB_SEED1 t)) key / 2 ^ 22 % 8192

def State.cacheLine (s : State) (pipe t key : Nat) : Option CacheLine :=
  (s.eng.nodes.cache.at (s.cacheSet pipe t key) []).find? fun l => l.table == t && l.key == key

/-- The lines of one set change. -/
def setCache (k : Nat) (f : List CacheLine → List CacheLine) : Act := setNodes fun g =>
  let l := f (g.cache.at k [])
  { g with cache := if l.isEmpty then g.cache.clear k else g.cache.set k l }

/-- A pipeline learns a line: most recently used first, eight ways. -/
def learn (pipe : Nat) (l : CacheLine) : Act := .read fun s => acts [inc (R.PL_LEARNED pipe),
  setCache (s.cacheSet pipe l.table l.key) fun ls => (l :: ls.filter fun x => !(x.table == l.table && x.key == l.key)).take 8]

/-- A line is used. -/
def touch (pipe : Nat) (l : CacheLine) : Act := .read fun s =>
  setCache (s.cacheSet pipe l.table l.key) fun ls => l :: ls.filter fun x => x != l

/-- One pipeline drops a key. -/
def dropLine (pipe t key : Nat) : Act := .read fun s =>
  setCache (s.cacheSet pipe t key) fun ls => ls.filter fun x => !(x.table == t && x.key == key)

/-- All four caches drop a key (R281). -/
def forget (t key : Nat) : Act := forAll [0, 1, 2, 3] fun k => dropLine k t key

/-- What a pipeline's lookup finds: a node of this device, a node of a peer with its GEN, or nothing. -/
inductive Found where
  | here (n : Nat)
  | there (dev n gen : Nat)
  | miss
  deriving DecidableEq, Repr

/-- A lookup in the tables, learned when it hits. -/
def findInTables (pipe t key : Nat) (k : Found → Act) : Act := .read fun s =>
  match s.lookup t key with
  | some n => acts [learn pipe ⟨t, key, n, s.rd (R.NT_GEN n), s.rd R.DEVNUM⟩, k (.here n)]
  | none => k .miss

/-- A pipeline looks a key up in its cache, then in the tables (R280, R281). -/
def find (pipe t key : Nat) (k : Found → Act) : Act := .read fun s =>
  match s.cacheLine pipe t key with
  | some l =>
    .seq (acts [inc (R.PL_CACHE_HITS pipe), touch pipe l])
      (if l.owner ≠ s.rd R.DEVNUM then k (.there l.owner l.node l.gen)
      else if s.nodeState l.node ≠ 0 ∧ s.nodeKey t l.node = key ∧ s.rd (R.NT_GEN l.node) = l.gen then k (.here l.node)
      else acts [dropLine pipe t key, inc (R.PL_STALE_CACHE pipe), findInTables pipe t key k])
  | none => .seq (inc (R.PL_CACHE_MISSES pipe)) (findInTables pipe t key k)

/-! ## Removal (R267, R270, R277) -/

/-- Every field of the entry but STATE and GEN takes its reset value (R267, step 6 of R268). -/
def resetEntry (n : Nat) : Act := acts [
  forAll ((List.range 18).filter fun m => decide (1 ≤ m)) fun m => wr ⟨0x3100, n, m⟩ (dflt ⟨0x3100, n, m⟩),
  forAll (List.range 8) fun m => wr ⟨0x2310, n, m⟩ (dflt ⟨0x2310, n, m⟩),
  setNodes fun g => { g with wkey := g.wkey.clear n },
  setKeys fun g => { g with leap := g.leap.clear n },
  setSn fun g => { g with resets := g.resets.filter (· != n) }]

/-- The entry is freed: every field at its reset value but GEN, which advances (R267). -/
def freeEntry (n : Nat) : Act := .read fun s => acts [
  wr (R.NT_GEN n) ((s.rd (R.NT_GEN n) + 1) % 256), resetEntry n,
  onlyIf (s.nodeState n != 0) (wr R.NT_COUNT (s.rd R.NT_COUNT - 1)),
  wr (R.NT_STATE n) 0]

/-- INVALIDATE to the peers for both keys (R284). -/
def invalidate (keys : List (Nat × Nat)) : Act := .read fun s =>
  forAll s.peers fun d => forAll keys fun x => fabPost d 0x13 0 x.1 [x.2]

/-- A node is removed (R270); `keep` names a table whose freed way is kept for a new key (R277). -/
def removeNode (n : Nat) (keep : Option Nat) : Act := .read fun s =>
  if s.nodeState n = 0 then .skip
  else
    let e := s.rd (R.NT_EUI64 n)
    let i := s.rd (R.NT_IID n)
    acts [removeKey 0 e (keep == some 0), removeKey 1 i (keep == some 1), forget 0 e, forget 1 i,
      invalidate [(0, e), (1, i)], dropPending n, unwheel n, freeEntry n, note (.nodeGone n)]

/-- A way of a bucket in use: the node that holds it. -/
def State.occupants (s : State) (t key : Nat) : List Nat :=
  (([s.h1 t key, s.h2 t key].eraseDups).flatMap (s.bucket t)).filterMap fun x => x.map (·.2)

/-- NT_EVICT chooses among candidates (R277). -/
def State.victim (s : State) (x : Nat) (cands : List Nat) : Option Nat :=
  if s.rd R.NT_EVICT = 0 then cands[x % max 1 cands.length]?
  else
    let sec := s.devTime / uSec % 2 ^ 32
    let age (n : Nat) : Nat := (sec + 2 ^ 32 - s.rd (R.NT_LAST_HEARD n)) % 2 ^ 32
    match cands with
    | [] => none
    | c :: rest => some (rest.foldl (fun b n => if age b < age n ∨ (age n = age b ∧ n < b) then n else b) c)

/-- `k` steps of the LFSR, each value once. -/
def lfsrRun (x : Nat) : Nat → List Nat
  | 0 => []
  | k + 1 => let y := lfsr32 x; y :: lfsrRun y k

/-- One of the candidates is evicted; table 2 stands for a full table. -/
def evict (table : Nat) (cands : List Nat) (keep : Option Nat) (ok : Nat → Act) (no : Act) : Act := .read fun s =>
  let t := if table = 2 then 0 else table
  let able := cands.filter fun n => s.nodeState n != 0 && s.rd (R.NT_PIN n) == 0
  let x := lfsr32 (s.tblLfsr t)
  match s.victim x able with
  | none => .seq (raise 0x0A02 table table) no
  | some v => acts [onlyIf (s.rd R.NT_EVICT == 0) (setLfsr t x),
      removeNode v keep, inc R.NT_EVICTED, raise 0x0A01 v (v * 256 + table), ok v]

/-- An index is found when the partition is full: 64 drawn indexes are the candidates (R277). -/
def evictIndex (ok : Nat → Act) (no : Act) : Act := .read fun s =>
  let size := s.partLimit + 1 - s.partBase
  let xs := lfsrRun (s.tblLfsr 0) 64
  if s.partBase = 0 then .seq (raise 0x0A02 2 2) no
  else .seq (setLfsr 0 (xs.getLastD 0))
    (evict 2 (xs.map fun x => s.partBase + x % size) none ok no)

/-- A key is inserted with eviction (R277): the answer names the node evicted, 0 for none. -/
def insertEvict (t key node : Nat) (ok : Nat → Act) (no : Act) : Act :=
  insertKey t key node (ok 0) (.read fun s =>
    evict t (s.occupants t key) (some t)
      (fun v => .read fun s =>
        match freeWay (s.bucket t (s.h1 t key)), freeWay (s.bucket t (s.h2 t key)) with
        | some w, _ => acts [placeKey t key node (s.h1 t key) w, ok v]
        | none, some w => acts [placeKey t key node (s.h2 t key) w, ok v]
        | none, none => acts [setStash t (s.stash t ++ [(key, node)]), inc (R.TB_STASHED t), inc (R.TB_INSERTS t), ok v])
      no)

/-! ## Creating (R268, R269, R271) -/

/-- CR_RESULT (Table NODE-4). -/
def crResult (status dev node evicted : Nat) : Nat := status * 2 ^ 56 + dev * 2 ^ 53 + node * 2 ^ 30 + evicted * 2 ^ 7

/-- The result of a create is reported; the join service uses slot 15 (14_join_attestation.md R338). -/
def reportCreate (k result : Nat) : Act := acts [wr (R.CR_RESULT k) result, onlyIf (k == 15) (note (.created k result))]

/-- A create ends, and with it the claims it holds at the peers (R271). -/
def endCreate (k : Nat) (result : Nat) : Act := .read fun s =>
  match aget s.eng.nodes.creates k with
  | none => .skip
  | some c => acts [setNodes fun g => { g with creates := g.creates.clear k },
      forAll s.peers fun d => fabPost d 0x11 0 (k % 16) [c.eui, c.iid],
      reportCreate k result]

/-- Steps 4 to 6 of R268. DEDUCED: log 71. -/
def createEntry (k : Nat) : Act := .read fun s =>
  match aget s.eng.nodes.creates k with
  | none => .skip
  | some c =>
    let build (n ev0 : Nat) : Act :=
      insertEvict 0 c.eui n (fun ev1 =>
        let ev := if ev1 = 0 then ev0 else ev1
        insertEvict 1 c.iid n (fun ev2 => .read fun s => acts [
            resetEntry n, wr (R.NT_STATE n) 1, wr (R.NT_EUI64 n) c.eui, wr (R.NT_IID n) c.iid, inc R.NT_COUNT,
            endCreate k (crResult 0 0 n (if ev2 = 0 then ev else ev2))])
          (acts [removeKey 0 c.eui false, endCreate k (crResult 3 0 0 ev)]))
        (endCreate k (crResult 3 0 0 ev0))
    if c.index ≠ 0 then
      if !(s.ownIndex c.index) then endCreate k (crResult 5 0 0 0)
      else if s.nodeState c.index ≠ 0 then endCreate k (crResult 1 0 c.index 0)
      else build c.index 0
    else match s.lowestFree with
      | some n => build n 0
      | none => evictIndex (fun n => build n n) (endCreate k (crResult 3 0 0 0))

/-- A create slot starts (R268): slot, keys and index. -/
def startCreate (k eui iid0 index : Nat) : Act := .read fun s =>
  let iid := if iid0 = 0 then bxor eui (2 ^ 57) else iid0
  let open_ := setNodes fun g => { g with creates := g.creates.set k ⟨eui, iid, index, s.peers, s.now⟩ }
  if eui = 0 then reportCreate k (crResult 5 0 0 0)
  else match s.lookup 0 eui, s.lookup 1 iid with
    | some n, _ => reportCreate k (crResult 1 0 n 0)
    | none, some n => reportCreate k (crResult 1 0 n 0)
    | none, none =>
      if s.peers.isEmpty then acts [open_, createEntry k]
      else acts [open_, forAll s.peers fun d => fabAsk d 0x10 (k % 16) [eui, iid] k]

/-- CR_CMD 1 (R268, R269): a slot whose command runs reports BUSY. -/
def createCommand (k : Nat) : Act := .read fun s =>
  startCreate k (s.rd (R.CR_EUI64 k)) (s.rd (R.CR_IID k)) (s.rd (R.CR_INDEX k))

/-- A create ends RETRY (R271): `dev` answered. -/
def retryCreate (k dev : Nat) : Act :=
  acts [raise 0x0A07 (k % 16) (k % 16 + dev * 256), endCreate k (crResult 4 dev 0 0)]

/-- A peer's answer to a CLAIM (R271). -/
def claimAnswered (k dev arg : Nat) : Act := .read fun s =>
  match aget s.eng.nodes.creates k with
  | none => .skip
  | some c =>
    match fld arg 63 62 with
    | 1 => endCreate k (crResult 2 dev (fld arg 22 0) 0)
    | 2 => retryCreate k dev
    | _ =>
      let w := c.waiting.filter (· != dev)
      acts [setNodes fun g => { g with creates := g.creates.set k { c with waiting := w } },
        onlyIf w.isEmpty (createEntry k)]

/-- NT_CLAIM_TIMEOUT (R271): NT_REMOTE_WAIT has passed without an answer. -/
def claimTimeout (k : Nat) : Act := .read fun s =>
  match aget s.eng.nodes.creates k with
  | none => .skip
  | some c => match c.waiting with
    | [] => .skip
    | d :: _ => onlyIf (decide (c.since + s.rd R.NT_REMOTE_WAIT * 1000 ≤ s.now)) (retryCreate k d)

/-- A peer claims two keys (R271): what this device answers. -/
def State.claimReply (s : State) (peer eui iid : Nat) : Nat :=
  match s.lookup 0 eui, s.lookup 1 iid with
  | some n, _ => 2 ^ 62 + n
  | none, some n => 2 ^ 62 + n
  | none, none =>
    if s.rd R.DEVNUM < peer ∧ s.eng.nodes.creates.any fun c => c.2.eui == eui || c.2.iid == iid then 2 * 2 ^ 62 else 0

/-- NT_CMD 1 (R270) and NT_CMD 2 (Table NODE-8). -/
def nodeRemove (n : Nat) : Act := removeNode n none

def nodeClear (n : Nat) : Act := .read fun s => acts [wr (R.NT_COUNTS n) 0,
  wr (R.NT_METRICS n) (8 * 2 ^ 32 + fld (s.rd (R.NT_METRICS n)) 27 16 * 2 ^ 16)]

/-! ## Link keys (R332) -/

/-- A link key is installed: wrapped under slot 0, with one entry write. -/
def installLinkKey (n : Nat) (key : List Nat) (no : Act) : Act :=
  withKey 0 opWrap (fun k => .read fun s => acts [
    setNodes fun g => { g with wkey := g.wkey.set n (Config.aesWrap k key) },
    wr (R.NT_KEY n) (256 + (s.rd (R.NT_KEY n) % 256 + 1) % 256),
    wr (R.NT_FC n) (2 ^ 32), wr (R.NT_MIC_TAG n) 0, setLeap n, wr (R.NT_STATE n) 2]) no

/-- The node's link key, unwrapped (R332): a failed check clears KEY_VALID and raises event 0x0C0A. -/
def withLinkKey (n : Nat) (use : List Nat → Act) (no : Act) : Act := .read fun s =>
  if bit? (s.rd (R.NT_KEY n)) 8 then
    withKey 0 opUnwrap (fun k => .read fun s =>
      match Config.aesUnwrap k (s.eng.nodes.wkey.at n []) with
      | some v => use v
      | none => acts [wrFld (R.NT_KEY n) 8 8 0, raiseMs 0 0x0C0A n (n * 256), no]) no
  else no

/-! ## Metrics (R288) -/

/-- A quarter of the way from `a` to `b`. -/
def quarter (a b : Int) : Int := a + (b - a) / 4

/-- A delivered frame's record moves the node's metrics. -/
def hearNode (n : Nat) (rssi : Int) (lqi : Nat) : Act := .read fun s =>
  let m := s.rd (R.NT_METRICS n)
  let c := s.rd (R.NT_COUNTS n)
  let first := fld c 47 24 == 0
  let r := if first then rssi else quarter (sgn 16 (fld m 63 48)) rssi
  let l := if first then (lqi : Int) else quarter (fld m 47 40) lqi
  acts [wr (R.NT_LAST_HEARD n) (s.devTime / uSec % 2 ^ 32),
    wr (R.NT_METRICS n) (setFld (setFld m 63 48 (unsgn 16 r)) 47 40 (l.toNat % 256)),
    wrFld (R.NT_COUNTS n) 47 24 ((fld c 47 24 + 1) % 2 ^ 24)]

def heardAgain (n : Nat) : Act := .read fun s => wr (R.NT_LAST_HEARD n) (s.devTime / uSec % 2 ^ 32)

/-- ETX after a unicast frame ended acknowledged after `k` attempts, or NO_ACK with 16. -/
def updateEtx (n k : Nat) : Act := .read fun s =>
  let e : Int := fld (s.rd (R.NT_METRICS n)) 39 32
  let d := 8 * (k : Int) - e
  let r := if 0 ≤ d then (d + 4) / 8 else -((-d + 4) / 8)
  wrFld (R.NT_METRICS n) 39 32 (max 8 (min 255 (e + r))).toNat

def countTx (n : Nat) : Act := .read fun s =>
  wrFld (R.NT_COUNTS n) 23 0 ((fld (s.rd (R.NT_COUNTS n)) 23 0 + 1) % 2 ^ 24)

/-! ## Routes (R290) -/

/-- Parent `k` of a node and whether it is this device. -/
def State.parent (s : State) (n k : Nat) : Nat × Bool :=
  let v := s.rd (R.NT_PARENT n k)
  (v, v == 8388608)

/-- R290: the entry's path is current. -/
def State.pathCurrent (s : State) (n : Nat) : Bool :=
  let d := s.rd (R.NT_DAO n)
  bit? d 32 || decide (2 ^ 31 ≤ (s.devTime / uSec % 2 ^ 32 + 2 ^ 32 - fld d 31 0) % 2 ^ 32)

/-- R290: the route, first hop first; `hops` holds the hops found, last first. -/
def State.routeFrom (s : State) : Nat → List Nat → Nat → Option (List Nat)
  | 0, _, _ => none
  | fuel + 1, hops, cur =>
    if !(s.pathCurrent cur) then none
    else
      let ok (k : Nat) : Bool := let p := s.parent cur k
        p.2 || (p.1 != 0 && s.joined p.1 && !(hops.contains p.1))
      match [0, 1, 2].find? ok with
      | none => none
      | some k =>
        let p := s.parent cur k
        if p.2 then some hops
        else if hops.length = s.rd R.FW_MAX_HOPS then none
        else s.routeFrom fuel (p.1 :: hops) p.1

def State.route (s : State) (n : Nat) : Option (List Nat) := s.routeFrom 65 [n] n

/-! ## Partitions (R282) -/

/-- The partition object that fails a commit whose outcome would be `s`. -/
def State.partitionFault (s : State) (refs : List Ref) : Option Ref :=
  if refs.any fun r => r.idx == 0x3003 then
    let present := (List.range 8).filter fun d => s.rd (R.PT_BASE d) != 0
    let bad (d : Nat) : Bool :=
      decide (s.rd (R.PT_LIMIT d) < s.rd (R.PT_BASE d)) ||
        (present.any fun e => e != d && decide (s.rd (R.PT_BASE d) ≤ s.rd (R.PT_LIMIT e)) &&
          decide (s.rd (R.PT_BASE e) ≤ s.rd (R.PT_LIMIT d))) ||
        (d == s.rd R.DEVNUM && s.usedNodes.any fun n => !(s.ownIndex n))
    match present.find? bad with
    | some d => some (R.PT_BASE d)
    | none => if s.partBase = 0 ∧ !s.usedNodes.isEmpty then some (R.PT_BASE (s.rd R.DEVNUM)) else none
  else none

end Sys2Proof.Machine
end

