-- ==== Sys2Proof/Machine/Mac.lean ====
section
/-! DEFINITION. Frames of IEEE 802.15.4-2020 as the MAC engines build, time and protect them (08_tsch_engine.md R192, R196,
R206, R210, R215, R216, R220; 13_keys_crypto.md Table KEYS-6), and the exchange with the tally and the ports. -/

namespace Sys2Proof.Machine

open Sys2Proof

def setTsch (f : TschEng → TschEng) : Act := eng fun e => { e with tsch := f e.tsch }

/-! ## Durations -/

/-- 2-FSK without FEC: the bit rate in bit/s (Table CHAN-3; a frame is 8 preamble octets, 2 SFD, 2 PHR and the PSDU,
09_sleepy_nodes.md, worked example). -/
def fskRate (mode : Nat) : Option Nat :=
  if modeFamily mode = 1 ∧ fld mode 59 59 = 0 ∧ fld mode 47 47 = 0 then
    [50000, 100000, 150000, 200000][fld mode 58 56]? else none

/-- The air time of a Deep Link copy (R168): preamble extension, codewords and rate. -/
def dlAirTime (ext words rate : Nat) : Nat := (96 + ext + 256 + words * dlBits rate) * 80000 * uNs

/-- The rate at which the device sends its own Deep Link frames: 1/2. DESIGN CHOICE: log 176. -/
def dlOwnRate : Nat := 0

/-- The air time of a frame whose PSDU has `len` octets, FCS included (R168 for Deep Link). DEDUCED: log 56. -/
def frameTime (mode len : Nat) : Nat :=
  if modeFamily mode = 5 then dlAirTime 0 (dlWordsFor len) dlOwnRate
  else match fskRate mode with
    | some r => cdiv ((12 + len) * 8 * uSec) r
    | none => Config.airtime (modeOnAir mode) len

/-- The duration of the synchronisation header (R196, R233, R236). -/
def shrTime (mode : Nat) : Nat :=
  if modeFamily mode = 5 then 96 * 80000 * uNs
  else match fskRate mode with
    | some r => cdiv (80 * uSec) r
    | none => Config.shrTime (modeOnAir mode)

/-- The symbol rate that a SUN_FSK descriptor names, in Bd (Table CHAN-3). -/
def fskBaud (mode : Nat) : Option Nat :=
  if modeFamily mode = 1 then [50000, 100000, 150000, 200000][fld mode 58 56]? else none

/-- The unit of the Phase and Rendezvous Time fields: ten symbols (R225). -/
def phaseUnit (mode : Nat) : Nat :=
  if modeFamily mode = 5 then 10 * 80000 * uNs
  else match fskBaud mode with
    | some r => cdiv (10 * uSec) r
    | none => 10 * Config.symbolTime (modeOnAir mode)

/-! ## Frames -/

/-- Octets of the FCS: 32 bits, or 16 in OQPSK_2G4. -/
def fcsLen (mode : Nat) : Nat := if modeFamily mode = 4 then 2 else 4

/-- The PSDU length of an unprotected frame once protected. -/
def psduLen (mode : Nat) (f : MacFrame) : Nat := (Config.mhr f).length + f.body.length + micLen f.level + fcsLen mode

/-- A frame with nothing in it. -/
def blankFrame : MacFrame :=
  ⟨1, 2, 0, false, false, none, .absent, .absent, 0, none, none, none, none, false, none, [], [], false, false, []⟩

/-- The device's own extended address (R287, R220). -/
def uidOf : Nat := Config.uid.toNat

/-- The link-layer address of a node: its short address when it has one (R291). -/
def State.nodeAddr (s : State) (n : Nat) : Addr :=
  if s.rd (R.NT_SHORT n) = 0xFFFE then .ext (s.rd (R.NT_EUI64 n)) else .short (s.rd (R.NT_SHORT n))

/-- The address is the node's. -/
def State.isNodeAddr (s : State) (n : Nat) (a : Addr) : Bool :=
  match a with
  | .ext e => e == s.rd (R.NT_EUI64 n)
  | .short x => x == s.rd (R.NT_SHORT n) && x != 0xFFFE
  | .absent => false

/-- A unicast data frame to a node, before protection. -/
def State.unicastFrame (s : State) (n : Nat) (payload : List Nat) : MacFrame := { blankFrame with
  ackReq := true
  pan := some (s.rd R.TS_PAN_ID)
  dst := s.nodeAddr n
  src := .ext uidOf
  level := s.rd R.LS_LEVEL
  fc := some 0
  body := payload }

/-- A broadcast data frame, before protection (Table KEYS-6). -/
def State.broadcastFrame (s : State) (payload : List Nat) : MacFrame := { blankFrame with
  pan := some (s.rd R.TS_PAN_ID)
  dst := .short 0xFFFF
  src := .ext uidOf
  level := s.rd R.LS_LEVEL
  kidx := some (match s.netSlot with | some k => kIndex (s.rd (R.K_ATTR k)) | none => 0)
  fc := some 0
  body := payload }

/-- A frame protected with a key and counter (R330). -/
def sealFrame (key : List Nat) (fc : Nat) (f0 : MacFrame) : MacFrame :=
  let f := { f0 with fc := some fc }
  let auth := Config.mhr f
  { f with auth := auth, body := protect key (nonceFc uidOf fc f.level) auth f.body f.level }

/-- A frame protected with the ASN nonce of R216. -/
def sealAsn (key : List Nat) (asn : Nat) (f0 : MacFrame) : MacFrame :=
  let f := { f0 with fc := none }
  let auth := Config.mhr f
  { f with auth := auth, body := protect key (beOctets 8 uidOf ++ beOctets 5 asn) auth f.body f.level }

/-! ## Slots (R192, R198, R206) -/

def State.slotLen (s : State) : Nat := s.rd R.TS_SLOT_LEN * uUs

/-- slot_start(a). -/
def State.slotStart (s : State) (a : Nat) : Nat :=
  s.rdTime (R.EP_TIME 0) + (a - s.rd R.EP_ASN) * s.slotLen

/-- The ASN at a device time, when there is a slot. -/
def State.asnAt (s : State) (u : Nat) : Option Nat :=
  let e := s.rdTime (R.EP_TIME 0)
  if u < e then none else some (s.rd R.EP_ASN + (u - e) / s.slotLen)

/-- The present ASN, 0 before the epoch. -/
def State.asnNow (s : State) : Nat := (s.asnAt s.devTime).getD 0

/-- TS_ASN (R192, R195); its reset value while the engine is held (R475). -/
def State.tsAsn (s : State) : Nat := if s.rd (R.BL_STATE 7) ≠ 0 then 0 else if s.rd R.TS_RUN = 1 then s.asnNow % 2 ^ 40 else s.rd R.TS_ASN

/-- Field `m` of a template, in device time, for cells whose first slot is `a`: a change applies to cells whose first slot
starts after it (Table TSCH-3, R198). DEDUCED: log 143. -/
def State.tplAt (s : State) (a k m : Nat) : Nat :=
  (((s.eng.tsch.tplPast.find? fun x => x.tmpl == k && x.mem == m && decide (a ≤ x.asn)).map fun x => x.val).getD
    (s.rd ⟨0x2030, k, m⟩)) * uUs

/-- The values of a template field that cells under way or to come use. -/
def State.tplVals (s : State) (k m : Nat) : List Nat :=
  ((s.rd ⟨0x2030, k, m⟩ :: (s.eng.tsch.tplPast.filter fun x => x.tmpl == k && x.mem == m).map fun x => x.val).map (· * uUs)).eraseDups

/-- Field `m` of template 0, which is RO (R198). -/
def State.tpl0 (s : State) (m : Nat) : Nat := s.rd ⟨0x2030, 0, m⟩ * uUs

abbrev tCcaOffset := 0
abbrev tCca := 1
abbrev tTxOffset := 2
abbrev tRxOffset := 3
abbrev tRxAckDelay := 4
abbrev tTxAckDelay := 5
abbrev tRxWait := 6
abbrev tAckWait := 7
abbrev tMaxAck := 9

/-- No step of device time keeps the engine from a slot (R194). -/
def State.unskipped (s : State) (a : Nat) : Bool :=
  decide (s.eng.tsch.idleUntil ≤ s.slotStart a) && !(s.eng.tsch.passed.any fun x => decide (x.1 ≤ a ∧ a ≤ x.2))

/-- The engine serves a slot (R193 to R195). -/
def State.serves (s : State) (a : Nat) : Bool :=
  s.rd R.TS_RUN == 1 && decide (s.eng.tsch.runFrom ≤ a) && s.unskipped a

/-- The receive cells of a slot are served: they are too where the slot had started when TS_RUN became 0 (R195). -/
def State.servesRx (s : State) (a : Nat) : Bool :=
  s.serves a || (match s.eng.tsch.tail with
    | some t => decide (t.1 ≤ a ∧ a ≤ t.2) && s.unskipped a
    | none => false)

/-- The bank active at the start of a slot (R205). -/
def State.bankOf (s : State) (a : Nat) : Nat := if a < s.eng.tsch.swapAsn then s.eng.tsch.oldBank else s.rd R.ST_ACTIVE

def State.sfLen (s : State) (bank i : Nat) : Nat := s.rd ⟨0x2010 + bank, i, 0⟩

/-- The VALID cells of a bank with their words, in ascending order. -/
def State.cells (s : State) (bank : Nat) : List (Nat × Nat × Nat) :=
  (s.objs.filter fun e => e.1.idx == 0x2100 + bank && e.1.mem == 0 && bit? e.2.toNat 63).map fun e =>
    (e.1.inst, e.2.toNat, s.rd ⟨0x2100 + bank, e.1.inst, 1⟩)

def cellSf (w : Nat) : Nat := fld w 62 59
def cellPort (w : Nat) : Nat := fld w 58 54
def cellSpan (w : Nat) : Nat := fld w 53 48
def cellOffset (w : Nat) : Nat := fld w 47 32
def cellCh (w : Nat) : Nat := fld w 31 25
def cellTx (w : Nat) : Bool := bit? w 24
def cellRx (w : Nat) : Bool := bit? w 23
def cellShared (w : Nat) : Bool := bit? w 22
def cellPriority (w : Nat) : Bool := bit? w 20
def cellAdv (w : Nat) : Bool := bit? w 19
def cellTpl (w : Nat) : Nat := fld w 18 16
def cellNode (w1 : Nat) : Nat := fld w1 43 21
def cellMode (w1 : Nat) : Nat := fld w1 63 44 * 2 ^ 44

/-- A cell starts in slot `a` (R200). -/
def State.cellStarts (s : State) (bank a w : Nat) : Bool :=
  let l := s.sfLen bank (16 * cellPort w + cellSf w)
  l != 0 && ((a : Int) - (cellOffset w : Int)) % (l : Int) == 0

/-- The plan channel of a cell (R199). -/
def State.cellChannel (s : State) (a w : Nat) : Nat :=
  let p := cellPort w
  let n := s.rd (R.HOP_LEN p)
  let x := a + cellCh w
  if n = 0 then x % max 1 (s.rd (R.CP_COUNT p))
  else let k := x % n; fld (s.rd (R.HOP_ENTRY p (k / 4))) (16 * (k % 4) + 15) (16 * (k % 4))

/-- The passband of a transmission (R142, R251). -/
def State.passband (s : State) (p mode : Nat) : Nat := min (s.rd (R.CP_SPACING p)) (familyPassband mode)

/-- The retune instant of a first symbol (R206). -/
def State.retuneAt (s : State) (t0 : Nat) : Nat := t0 - s.rd R.TS_RETUNE_LEAD * uNs

/-! ## The transmitter (R205, R215, R238) -/

/-- The span from retune to the end of a transmission's tail. -/
def State.airSpan (s : State) (p t0 dur : Nat) : Nat × Nat := (s.retuneAt t0, t0 + dur + s.antBack p * uNs)

def overlaps (a b : Nat × Nat) : Bool := decide (a.1 < b.2) && decide (b.1 < a.2)

def State.portExs (s : State) (p : Nat) : List SnEx := s.eng.sn.exs.filter fun x => x.port == p

/-- The clear-channel assessment a transmission needs, as a request to the energy detectors, its window where R259 puts it even if that
lies before the request (R209, R259). DEDUCED: log 181. -/
def State.ccaOf (s : State) (id p chan mode t0 : Nat) (cell : Option (Nat × Nat)) : Option EdReq :=
  match s.lbtOf (s.planFreq p chan) (s.passband p mode) with
  | none => none
  | some lbt =>
    let tick (u : Nat) : Nat := s.now + (u - s.devTime) / uNs - (s.devTime - u) / uNs
    let due := tick (t0 - s.antLead p * uNs) - 2000
    match cell with
    | some (slot, k) => 
      let a := (s.asnAt slot).getD 0
      some ⟨id, p, chan, tick (slot + s.tplAt a k tCcaOffset), s.tplAt a k tCca / uNs, due⟩
    | none =>
      let len := max (s.tpl0 tCca / uNs) (lbt.2.2 * 1000)
      some ⟨id, p, chan, tick (t0 - s.rd (R.P_RAMP p) * uNs) - 192000 - len, len, due⟩

/-- The PSDU of a frame as protected: header, payload with MIC, and the FCS: of 16 bits in OQPSK_2G4 and of a wake-up frame (R231). -/
def psduOf (mode : Nat) (f : MacFrame) : List Nat :=
  let b := (if f.auth.isEmpty then Config.mhr f else f.auth) ++ f.body
  b ++ fcsOctets (modeFamily mode != 4 && f.type != 5) b

/-- What says which copy of its frame a Deep Link transmission is: TAG, index, copies minus 1 and preamble extension (R180). -/
structure CopyInfo where
  tag : Nat
  index : Nat
  total : Nat
  ext : Nat
  deriving DecidableEq, Repr

/-- A frame goes on air (R119, R130, R166, R168, R170, R560). -/
def onAirNow (r : TxReq) (f : MacFrame) (copy : Option CopyInfo) : Act := .read fun s =>
  let mode := modeOnAir r.mode
  let psdu := psduOf mode f
  let hdr := copy.map fun c => (dlHeader dlOwnRate (dlWordsFor psdu.length) c.total c.index c.tag, c.ext)
  emit (.air r.port r.freq mode r.t0 (r.t0 - s.rd (R.P_FE_DELAY_TX r.port) * uNs) (s.port r.port).keyed.power f hdr
    (match hdr with
      | some h => dlCopyBits (s.rd R.DL_SYNC) h.1 h.2 psdu
      | none => if modeCoded mode then Config.fecEncode mode (octetBits psdu) else octetBits psdu))

/-- The admission of a transmission ends as the radio reports: emitted from its ramp up to the end of its actual ramp down,
or, ended before its ramp up, returned whole (R138, R253, R254). DEDUCED: log 50. -/
def settleResv (r : TxReq) : Act := .read fun s =>
  match r.resv with
  | none => .skip
  | some i => if r.t0 ≤ r.t1 + (s.feOf r).ramp * uNs then resvEnd i (s.rampEnd r) else resvReturn i

/-- The ramp up of a keyed transmission begins. DEDUCED: log 50. -/
def startResv (id : Option Nat) (r : TxReq) : Act := .read fun s =>
  match id with
  | none => .skip
  | some i => resvStart i (r.t0 - (s.feOf r).ramp * uNs)

end Sys2Proof.Machine
end

