-- ==== Sys2Proof/Machine/Sleepy.lean ====
section
/-! DEFINITION. The sleepy-node service (09_sleepy_nodes.md R223 to R241, R244 to R247), and the assignment of outgoing
counters (08_tsch_engine.md R210; 13_keys_crypto.md R332, R333). -/

namespace Sys2Proof.Machine

open Sys2Proof

/-! ## Protection at KEYED (R210) -/

/-- The frame of a stored packet is protected with the node's next counter, or as it was before; `gone` when it is freed
instead (R267, R332, R333). DEDUCED: log 70. -/
def sealUnicast (i : Nat) (go : MacFrame → Act) (gone : Act) : Act := .read fun s =>
  match s.pkt? i with
  | none => gone
  | some p =>
    if p.gen ≠ s.rd (R.NT_GEN p.node) ∨ ¬ s.joined p.node then acts [inc R.NT_STALE, gone]
    else match p.sealed, p.mac with
    | some (g, f), _ => if g = s.rd (R.NT_KEY p.node) % 256 then go f else acts [inc R.LS_STALE_KEY, gone]
    | none, none => gone
    | none, some f0 =>
      if f0.level = 0 then go f0
      else .seq (leapNode p.node) (.read fun s =>
        let fc := fld (s.rd (R.NT_FC p.node)) 63 32
        if 0xFFFFFFFF ≤ fc then
          acts [inc R.LS_FC_EXHAUSTED, raiseMs 0 0x0C06 p.node (p.node * 256), gone]
        else withLinkKey p.node (fun k =>
          let f := sealFrame k fc f0
          acts [wrFld (R.NT_FC p.node) 63 32 (fc + 1), quickJob 1,
            updPkt i fun x => { x with sealed := some (s.rd (R.NT_KEY p.node) % 256, f) }, go f]) gone)

/-- A broadcast frame is protected with the active network value and its KEY_INDEX, or as it was before (R330, R331). -/
def sealBroadcast (i : Nat) (go : MacFrame → Act) (gone : Act) : Act := .read fun s =>
  match s.pkt? i with
  | none => gone
  | some p => match p.sealed, p.mac with
    | some (_, f), _ => go f
    | none, none => gone
    | none, some f0 =>
      if f0.level = 0 then go f0
      else takeNetFc (fun k fc v => .read fun s =>
        let f := sealFrame v fc { f0 with kidx := some (kIndex (s.rd (R.K_ATTR k))) }
        acts [updPkt i fun x => { x with sealed := some (k, f) }, go f]) gone

/-- A frame with a wanted timestamp is keyed for the first time (R386). -/
def stampAir (i : Nat) (r : TxReq) : Act := .read fun s =>
  match (s.pkt? i).bind fun p => p.tsId with
  | some ts => acts [note (.airKeyed r.id ts r.t0), updPkt i fun p => { p with tsId := none }]
  | none => .skip

/-- The slot of the network key is ACTIVE and serves (R331). -/
def State.netActive (s : State) : Bool :=
  match s.netSlot with
  | some k => s.keyServes k opProtect
  | none => false

/-- The network key can protect a broadcast now (R331, R333). -/
def State.netUsable (s : State) : Bool :=
  match s.netSlot with
  | some k => s.keyServes k opProtect && decide (s.rd (R.K_FC k) < 0xFFFFFFFF)
  | none => false

/-! ## The node's service and link (R223, R224) -/

def State.snService (s : State) (n : Nat) : Nat := s.rd (R.SN_SERVICE n)
def State.snMode (s : State) (n : Nat) : Nat := fld (s.rd (R.SN_LINK n)) 63 44 * 2 ^ 44
def State.snPort (s : State) (n : Nat) : Nat := fld (s.rd (R.SN_LINK n)) 43 39
def State.snChan (s : State) (n : Nat) : Nat := fld (s.rd (R.SN_LINK n)) 38 29
def State.snReps (s : State) (n : Nat) : Nat := fld (s.rd (R.SN_LINK n)) 28 26

/-- R223: the values an SN_SERVICE or SN_LINK write would leave agree. -/
def snLinkOk (service link : Nat) : Bool :=
  let mode := fld link 63 44 * 2 ^ 44
  (mode == 0 || (modeValid mode && oneRate mode)) && decide (fld link 43 39 ≤ 23) &&
    (if service = 3 then modeFamily mode == 5 else service == 0 || (mode != 0 && modeFamily mode != 5))

/-! ## The clock estimate (R228 to R230), in ns -/

/-- Division rounded to nearest. DEDUCED: log 55. -/
def roundDiv (a b : Int) : Int := (2 * a + b) / (2 * b)

def State.anchor (s : State) (n : Nat) : Int := ((s.rdTime (R.SN_ANCHOR n 0) / uNs : Nat) : Int)
def State.periodNs (s : State) (n : Nat) : Int := (s.rd (R.SN_PERIOD n) : Int) * 1000000
def State.drift (s : State) (n : Nat) : Int := sgn 32 (s.rd (R.SN_DRIFT n))
def State.uncert (s : State) (n : Nat) : Int := s.rd (R.SN_UNCERT n)

/-- The estimate after an observation: drift and uncertainty (R228). -/
def observed (anchor drift uncert period gain q o : Int) : Int × Int :=
  let el := o - anchor
  let k := roundDiv el period
  let e := el - k * period
  if 1 ≤ k then
    let r := e - roundDiv (drift * el) 1000000000
    let d := drift + roundDiv (gain * (roundDiv (e * 1000000000) el - drift)) 16
    (max (-1000000) (min 1000000 d), max (roundDiv q 2) (roundDiv (3 * uncert + r.natAbs) 4))
  else (drift, max (roundDiv q 2) (roundDiv (3 * uncert + e.natAbs) 4))

/-- RESET_PENDING of a node: SN_CMD 3 and the answer to a full-length sequence set it (R229). -/
def snResetEstimate (n : Nat) : Act := setSn fun g => { g with resets := n :: g.resets.filter (· != n) }

/-- The node enters SWEEP or UNREACHABLE. -/
def snLost (n v : Nat) : Act := acts [setSnState n v, snResetEstimate n]

/-- The next observation starts a new estimate: none is held, RESET_PENDING is set, or the node is in SWEEP or UNREACHABLE, where every
observation does (R228, R229). -/
def State.estimateFresh (s : State) (n : Nat) : Bool :=
  !(s.snKnown n) || s.eng.sn.resets.contains n || s.snState n == 2 || s.snState n == 3

/-- observe(n, o). -/
def observe (n : Nat) (o : Int) : Act := .read fun s =>
  let fresh := s.estimateFresh n
  let q : Int := (phaseUnit (s.snMode n) / uNs : Nat)
  let new := if fresh then (0, (s.rd R.SN_U_INIT : Int) * 1000)
    else observed (s.anchor n) (s.drift n) (s.uncert n) (s.periodNs n) (s.rd R.SN_GAIN) q o
  acts [setSn fun g => { g with resets := g.resets.filter (· != n) },
    wrTime (R.SN_ANCHOR n 0) (o.toNat * uNs),
    wri (R.SN_DRIFT n) new.1, wr (R.SN_UNCERT n) new.2.toNat, wrFld (R.SN_STATUS n) 60 60 1]

/-- pred(x). -/
def State.predict (s : State) (n : Nat) (x : Int) : Int :=
  s.anchor n + -((-(x - s.anchor n)) / s.periodNs n) * s.periodNs n

/-- The guard of a planned sample (R230). -/
def State.guard (s : State) (n : Nat) (pred : Int) : Int :=
  (s.rd R.SN_GUARD_BASE : Int) * 1000 + roundDiv ((s.drift n).natAbs * (pred - s.anchor n)) 1000000000 + 2 * s.uncert n

def State.guardMax (s : State) : Int := (s.rd R.SN_GUARD_MAX : Int) * 1000

/-- The node is beyond guard for a sample. -/
def State.beyond (s : State) (n : Nat) (pred : Int) : Bool := !(s.snKnown n) || decide (s.guardMax < s.guard n pred)

/-! ## Planning (R230, R237, R246) -/

def State.nowNs (s : State) : Int := ((s.devTime / uNs : Nat) : Int)

/-- The first sample from `x` on whose attempt can still be decided, or none when it is beyond guard. -/
def State.nextSample (s : State) (n : Nat) : Nat → Int → Option Int
  | 0, _ => none
  | fuel + 1, x =>
    let p := s.predict n x
    if s.beyond n p then none
    else if p - s.guard n p - (s.rd R.SN_PLAN_LEAD : Int) * 1000 < s.nowNs then s.nextSample n fuel (p + 1)
    else some p

def setPlan (n : Nat) (p : SnPlan) : Act := acts [setSn fun g => { g with plans := g.plans.set n p }, placeEntry n p.due]

/-- Nothing can be planned: the entry waits at the horizon. -/
def parkEntry (n : Nat) : Act := .read fun s => acts [setSn fun g => { g with plans := g.plans.clear n },
  placeEntry n (s.devTime + 262143 * 1000 * uUs)]

/-- A full-length attempt is planned, to be decided at `due` (R232). -/
def planFull (n due : Nat) : Act := .read fun s => setPlan n ⟨0, max due s.devTime, true⟩

/-- The node enters SWEEP because it is beyond guard. -/
def enterSweep (n : Nat) : Act := acts [snLost n 2, inc R.SN_BEYOND, raise 0x0801 n (n * 256)]

/-- The next attempt of a node in WAITING or SWEEP is planned, not before `x` ns; a node in another state holds no entry (R246). -/
def planNode (n : Nat) (x : Int) : Act := .read fun s =>
  if s.snState n ≠ 1 ∧ s.snState n ≠ 2 then .skip
  else if s.rd R.TS_RUN = 0 ∨ s.rd R.SN_EN = 0 then parkEntry n
  else if s.snService n = 2 then
    if s.snKnown n then
      let p := s.predict n (max x (s.nowNs - min (s.guard n s.nowNs) s.guardMax))
      setPlan n ⟨(p.toNat) * uNs, (p + min (s.guard n p) s.guardMax).toNat * uNs, false⟩
    else parkEntry n
  else if s.snState n = 2 then planFull n (x.toNat * uNs)
  else match s.nextSample n 64 (max x s.nowNs) with
    | some p => setPlan n ⟨p.toNat * uNs,
        (p - s.guard n p - (s.rd R.SN_PLAN_LEAD : Int) * 1000).toNat * uNs, false⟩
    | none => acts [enterSweep n, planFull n s.devTime]

/-- Every wheel entry is in use, or freed for a node on the overflow list (R247). -/
def State.wheelFull (s : State) : Bool := decide (s.rd R.WH_FREE ≤ s.eng.sn.overflow.length)

/-- A node without an entry takes one, or joins the overflow list (Table SLEEP-3, R247). -/
def admitNode (n : Nat) : Act := .read fun s =>
  if s.wheelFull then acts [setSnState n 4,
    setSn fun g => { g with overflow := g.overflow ++ [n] }, inc R.OVF_LEN, inc R.OVF_ENTERED, raiseMs 0 0x0804 n (n * 256)]
  else acts [setSnState n 1, planNode n s.nowNs]

/-- A frame has entered the pending store. -/
def frameEntered (n : Nat) : Act := .read fun s => onlyIf (s.snState n == 0) (admitNode n)

/-- OVERFLOW_GRANT (R247). -/
def overflowGrant : Act := .read fun s =>
  match s.eng.sn.overflow with
  | [] => .skip
  | n :: rest =>
    if s.rd R.WH_FREE = 0 then .skip
    else acts [setSn fun g => { g with overflow := rest }, wr R.OVF_LEN rest.length, setSnState n 1, planNode n s.nowNs]

/-! ## Exchanges -/

def State.snEx? (s : State) (n : Nat) : Option SnEx := s.eng.sn.exs.find? fun x => x.node == n

def setEx (x : SnEx) : Act := setSn fun g =>
  { g with exs := (g.exs.filter fun y => y.node != x.node) ++ [x] }

/-- A frame has been held longer than SN_FRAME_TTL (R245). -/
def State.agedOut (s : State) (i : Nat) : Bool :=
  s.eng.sn.ages.any fun a => a.1 == i && decide (a.2 + s.rd R.SN_FRAME_TTL * 1000000000 < s.now)

/-- An aged frame is freed (R245). -/
def freeAged (i : Nat) : Act := .read fun s =>
  match s.pkt? i with
  | some p => acts [inc R.SN_TTL_DROP, raiseMs 0 0x0806 p.node (p.node * 256), freePending p.node i]
  | none => .skip

/-- An exchange is past the retune instant of its first transmission; a follow-on of an uplink that has not been admitted is not. -/
def SnEx.past (x : SnEx) : Bool := x.step != 0 && !(x.step == 4 && x.frames == 0)

/-- The exchange leaves the transmitter; airtime admitted and not sent returns (R237), and a frame that aged while it was keyed is freed
(R245). -/
def endEx (x : SnEx) : Act := acts [setSn fun g => { g with exs := g.exs.filter fun y => y.node != x.node },
  forAll x.resv resvReturn, note .snEnd,
  .read fun s => acts [forAll (s.boundLanes (.ack x.req)) unbindLane, onlyIf (s.agedOut x.pkt) (freeAged x.pkt)]]

/-- The exchange of a node that is not yet past its retune instant is given up. -/
def giveUp (n : Nat) : Act := .read fun s =>
  match s.snEx? n with
  | some x => onlyIf (!x.past) (endEx x)
  | none => .skip

/-- The exchange of a node that is removed ends: what is on air completes, and nothing of it reaches the entry (R270). -/
def snGone (n : Nat) : Act := .read fun s =>
  match s.snEx? n with
  | none => .skip
  | some x =>
    if x.step = 1 ∨ x.step = 2 then acts [endEx { x with resv := x.resv.drop 1 }, cancelReq x.port x.req 17]
    else endEx x

/-- The instant from which a node is planned again: a sample whose attempt has been decided is over, one still to be decided is not
(R237). -/
def State.replanFrom (s : State) (n : Nat) : Int :=
  match aget s.eng.sn.plans n with
  | some p => if s.devTime < p.due then s.nowNs else ((p.pred / uNs : Nat) : Int) + 1
  | none => s.nowNs

/-- An attempt that counts neither as answered nor as unanswered: the node is planned again (R237). -/
def replanEx (x : SnEx) (counter : Option Ref) : Act := acts [endEx x,
  match counter with
  | some c => inc c
  | none => .skip,
  .read fun s => planNode x.node (if x.full then s.nowNs + s.periodNs x.node else s.replanFrom x.node)]

/-- A third unanswered attempt in a row (Table SLEEP-3); MISSES, which counts to 2, stays there. DEDUCED: log 138. -/
def unreachable (n : Nat) : Act := acts [inc R.SN_UNREACH, raise 0x0803 n (n * 256), unwheel n, setMisses n 2, snLost n 3]

/-- An attempt is unanswered (R239, R234); where no frame is left, the node is IDLE and stays so (Table SLEEP-3).
DEDUCED: log 138. -/
def unanswered (n : Nat) : Act := .read fun s =>
  let m := s.snMisses n + 1
  acts [inc R.SN_UNANSWERED,
    if (s.snFrames n).isEmpty then setMisses n (min 2 m)
    else if 3 ≤ m then unreachable n
    else acts [setMisses n m,
      if s.snService n = 2 then planNode n (s.replanFrom n)
      else acts [snLost n 2, planFull n (s.devTime + (s.periodNs n).toNat * uNs)]]]

/-- The wake-up frame of a node (R231). -/
def State.wakeFrame (s : State) (n rz : Nat) : MacFrame := { blankFrame with
  type := 5
  long := true
  noSeq := true
  pan := some (s.rd R.TS_PAN_ID)
  dst := s.nodeAddr n
  rz := some rz }

/-- The octets of a wake-up frame: frame control, PAN ID, address, the Rendezvous Time IE and the FCS (R231 and its worked example). -/
def wakeLen (a : Addr) : Nat := 2 + 2 + (match a with | .ext _ => 8 | .short _ => 2 | .absent => 0) + 4 + 2

/-- The spacing of the wake-up frames: the airtime of one, up to a whole unit (R231). -/
def State.wakeSpace (s : State) (n : Nat) : Nat :=
  let u := phaseUnit (s.snMode n)
  cdiv (frameTime (s.snMode n) (wakeLen (s.nodeAddr n))) u * u

/-- The data frame a node's head packet is sent as; Frame Pending says that more wait (R227). -/
def State.headFrame (s : State) (n : Nat) : Option (Nat × MacFrame) :=
  match s.snFrames n with
  | [] => none
  | i :: rest => ((s.pkt? i).bind fun p => p.mac).map fun f => (i, { f with pend := !rest.isEmpty })

/-- The duration of the exchange's next data frame or copy, without preamble extension. -/
def dataTime (mode : Nat) (f : MacFrame) : Nat := frameTime mode (psduLen mode f)

/-- The wait from a frame's end to the timeout edge of its ACK (R233, R236). -/
def State.snAckSpan (s : State) (mode : Nat) : Nat :=
  (s.rd R.SN_ACK_DELAY + s.rd R.SN_ACK_WAIT) * uUs + shrTime mode

/-- The gap between the sequence and the data frame (R233). -/
def State.rzGap (s : State) (mode : Nat) : Nat :=
  let u := phaseUnit mode
  cdiv (s.rd R.SN_RZ_GAP * uUs) u * u

/-- What the exchange of an attempt would be: within guard of a sample, or of full length (R232, R235, R236). -/
def State.buildEx (s : State) (n : Nat) (p : SnPlan) (i : Nat) (f : MacFrame) : SnEx :=
  let port := s.snPort n
  let unit := phaseUnit (s.snMode n)
  let g := (s.guard n ((p.pred / uNs : Nat) : Int)).toNat * uNs
  let lead := s.rd R.SN_PLAN_LEAD * uUs
  let cover := if p.full then (s.rd (R.SN_PERIOD n) + s.rd R.SN_FULL_MARGIN) * 1000 * uUs else 2 * g
  let t0 := if p.full then s.devTime + lead else p.pred - g
  let dur := dataTime (s.snMode n) f
  if s.snService n = 3 then
    let e := 8 * cdiv (cdiv cover (80000 * uNs)) 8
    ⟨n, port, s.snChan n, s.snMode n, p.full, 0, i, 0, 0, unit, t0, s.retuneAt t0, dur, e, s.snReps n + 1, 0, 0, [], 0, 0, 0,
      false, false, s.now⟩
  else
    let sp := s.wakeSpace n
    ⟨n, port, s.snChan n, s.snMode n, p.full, 0, i, cdiv cover sp + 1, sp, unit, t0, s.retuneAt t0, dur, 0, 1, 0, 0, [], 0, 0,
      0, false, false, s.now⟩

/-- The transmissions of an exchange (R237). -/
def State.exTxs (s : State) (x : SnEx) : List TallyTx :=
  let tx (d : Nat) : TallyTx := ⟨x.port, s.planFreq x.port x.chan, s.passband x.port x.mode, d, none⟩
  if x.wakes = 0 then tx (x.dur + x.ext * 80000 * uNs) :: List.replicate (x.copies - 1) (tx x.dur)
  else [tx (x.wakes * x.space), tx x.dur]

/-- The span over which an exchange holds its port: from the retune instant of its first transmission to the timeout edge of the last ACK
that it can still await (R238). -/
def State.exSpan (s : State) (x : SnEx) : Nat × Nat :=
  let gap := s.rd R.SN_DL_GAP * uUs
  let copies (k : Nat) : Nat := k * x.dur + (k - 1) * gap
  let fin := match x.step with
    | 0 | 1 => x.t0 + x.wakes * x.space + (if x.wakes = 0 then 0 else s.rzGap x.mode) + x.ext * 80000 * uNs + copies x.copies
    | 2 => x.t0 + x.ext * 80000 * uNs + copies (x.copies - x.sent)
    | 3 => if x.sent < x.copies then x.t1 + gap + copies (x.copies - x.sent) else x.t1
    | _ => x.t1 + s.rd R.SN_FOLLOW_GAP * uUs + copies x.copies
  (x.ret, fin + s.snAckSpan x.mode)

/-- The spans over which SELECTED transmit cells and exchanges hold a port (R238). -/
def State.heldSpans (s : State) (p : Nat) : List (Nat × Nat) :=
  ((s.eng.tsch.atts.filter fun a => a.port == p).map fun a => (a.ret, max a.edge (a.t0 + a.dur + s.antBack p * uNs))) ++
    (s.portExs p).map s.exSpan

/-- A SELECTED transmit cell or another exchange holds the port over a span (R238). -/
def State.portHeld (s : State) (p : Nat) (span : Nat × Nat) : Bool := (s.heldSpans p).any fun y => overlaps span y

/-- A full-length exchange starts at the first instant that the port allows (R232, R235). -/
def State.firstStart (s : State) (x : SnEx) : SnEx :=
  let moved (t : Nat) : SnEx := { x with t0 := t, ret := s.retuneAt t }
  let ends := ((s.heldSpans x.port).map fun y => y.2 + s.rd R.TS_RETUNE_LEAD * uNs).filter fun t => decide (x.t0 < t)
  match (x.t0 :: sortBy (fun a b => decide (a ≤ b)) ends).find? fun t => !(s.portHeld x.port (s.exSpan (moved t))) with
  | some t => moved t
  | none => x

/-- The whole airtime of an exchange. -/
def State.exAir (s : State) (x : SnEx) : Nat := ((s.exTxs x).map fun t => t.dur).foldl (· + ·) 0

/-- An admitted exchange waits for its retune instant, with the assessment that it needs (R237, R259). -/
def planEx (x : SnEx) : Act := takeReq fun id => .read fun s => acts [setEx { x with req := id },
  match s.ccaOf id x.port x.chan x.mode x.t0 none with
  | some e => edAsk e
  | none => .skip]

/-- An attempt of a node is decided (R237, R240). -/
def attempt (n : Nat) (p : SnPlan) : Act := .read fun s =>
  match s.headFrame n with
  | none => .skip
  | some (i, f) =>
    let x := if p.full then s.firstStart (s.buildEx n p i f) else s.buildEx n p i f
    if p.full ∧ s.rd R.SN_FULL_MAX * 1000 * uUs < s.exAir x then acts [inc R.SN_FULL_REFUSED, unanswered n]
    else if s.portHeld x.port (s.exSpan x) then replanEx x none
    else if s.campHeld i then replanEx x none
    else admitTx (s.exTxs x) (fun ids => planEx { x with resv := ids }) (fun _ => replanEx x (some R.SN_TALLY_WAIT))

/-- A frame on the node's link whose RMARKER came by an instant is still being received, or its record has not reached the engine yet
(R161, R228, R234). DEDUCED: log 149. -/
def State.ritArriving (s : State) (n due : Nat) : Bool :=
  let p := s.snPort n
  ((s.eng.lane.lanes).any fun e => s.rd (R.L_PORT e.1) == p && s.rd (R.L_CHANNEL e.1) == s.snChan n && e.2.bind == .none &&
    (match e.2.frame.bind fun f => f.tSof with
      | some u => decide (u ≤ due)
      | none => false)) ||
    s.eng.lane.queues.any fun q => q.2.any fun r =>
      r.port == p && r.channel == s.snChan n && r.bind == .none && decide (r.tSof ≤ due)

/-- RIT_REQUEST_MISSED (R234). DEDUCED: log 149. -/
def ritMissed (n : Nat) : Act := .read fun s =>
  match aget s.eng.sn.plans n with
  | none => .skip
  | some p => onlyIf (s.snService n == 2 && s.snState n == 1 && decide (p.due ≤ s.devTime))
      (if s.ritArriving n p.due then placeEntry n (s.devTime + 1000 * uUs) else acts [inc R.SN_ATTEMPTS, unanswered n])

/-- One wheel entry is processed (R246). -/
def wheelEntry (n : Nat) : Act := .read fun s =>
  if (s.snEx? n).isSome then .skip
  else match aget s.eng.sn.plans n with
    | none => planNode n s.nowNs
    | some p =>
      if s.devTime / (1000 * uUs) < p.due / (1000 * uUs) then placeEntry n p.due
      else if s.snService n = 2 then ritMissed n
      else if p.full ∨ ¬ s.beyond n ((p.pred / uNs : Nat) : Int) then attempt n p
      else acts [enterSweep n, attempt n ⟨0, p.due, true⟩]

/-- WHEEL_BUCKET: the entries whose bucket has come are processed in placement order (R246). DEDUCED: log 67. -/
def wheelBucket : Act := .read fun s =>
  let ms := s.devTime / (1000 * uUs)
  if s.rd R.TS_RUN = 0 ∨ s.rd R.SN_EN = 0 then .skip
  else forAll ((s.eng.sn.wheel.filter fun w => decide (w.2 ≤ ms)).map (·.1)) wheelEntry

/-- The transmission of the exchange's present step goes to the port (R211: no slot limits it). -/
def sendEx (x : SnEx) (t0 dur : Nat) : Act := .read fun s =>
  retune ⟨x.req, x.port, .sleepy, x.node, t0, t0 + dur, t0 + dur + 50000 * uNs, s.planFreq x.port x.chan, x.mode, x.resv.head?, none, none⟩

/-- The retune instant of a planned exchange (R211, R238). -/
def snRetune (x : SnEx) : Act := .read fun s =>
  if x.step ≠ 0 ∨ s.devTime < x.ret then .skip
  else if x.wakes = 0 then acts [setEx { x with step := 2 }, sendEx x x.t0 (x.dur + x.ext * 80000 * uNs)]
  else acts [setEx { x with step := 1 }, sendEx x x.t0 (x.wakes * x.space)]

/-- The next data frame or copy of an exchange under way, at `t0`, with the assessment that it needs (R259). -/
def snNext (x : SnEx) (t0 : Nat) : Act := takeReq fun id => .read fun s =>
  let y := { x with step := 2, t0 := t0, ext := 0, req := id, sof := false }
  acts [setEx y,
    (match s.ccaOf id y.port y.chan y.mode t0 none with
      | some e => edAsk e
      | none => .skip),
    sendEx y t0 y.dur]

/-- The port entered KEYED for an exchange (R210, R233, R236). DEDUCED: log 136, 148. -/
def snKeyed (r : TxReq) : Act := .read fun s =>
  match (s.snEx? r.ref).filter fun x => x.req == r.id with
  | none => unkey r.port
  | some x0 =>
    let x := { x0 with t0 := r.t0 }
    let first := acts [inc R.SN_ATTEMPTS, onlyIf x.full (inc R.SN_FULL_SENT)]
    acts [startResv r.resv r, setEx x,
      if x.step = 1 then acts [first,
        forAll (List.range x.wakes) fun k =>
          let left := (x.wakes - 1 - k) * x.space + s.rzGap x.mode
          onAirNow { r with t0 := r.t0 + k * x.space } (s.wakeFrame x.node (left / x.unit)) none]
      else acts [onlyIf (x.wakes == 0 && x.sent == 0 && !x.answered) first,
        .read fun s => match (s.headFrame x.node).filter fun h => h.1 == x.pkt with
          | none => acts [unkey x.port, replanEx x none]
          | some (i, f) => acts [
              stampAir i r,
              updPkt i fun p => { p with mac := some f },
              onlyIf (modeFamily x.mode == 5 && x.sent == 0)
                (takeTag x.port fun tag => updPkt i fun p => { p with dlTag := some tag }),
              sealUnicast i (fun g => .read fun s =>
                onAirNow r g (if modeFamily x.mode = 5 then
                  some ⟨((s.pkt? i).bind fun p => p.dlTag).getD 0, x.sent, x.copies - 1, x.ext⟩ else none))
                (acts [freePending x.node i, unkey x.port, replanEx x none])]]]

/-- A transmission of an exchange ended (R233, R236, R237). DEDUCED: log 68, 150. -/
def snEnded (r : TxReq) (st : Nat) : Act := .read fun s =>
  match (s.snEx? r.ref).filter fun x => x.req == r.id with
  | none => settleResv r
  | some x0 =>
    let x := { x0 with resv := x0.resv.drop 1 }
    acts [settleResv r, setEx x,
      if st ≠ 0 then acts [onlyIf (st == 10) (inc (R.CCA_BUSY r.port)), replanEx x (some R.SN_LATE)]
      else if x.step = 1 then snNext x (r.t1 + s.rzGap x.mode)
      else
        let y := { x with step := 3, t1 := r.t1, sent := x.sent + 1, edge := r.t1 + s.snAckSpan x.mode }
        acts [setEx y, onlyIf (x.answered && x.sent == 0) (inc R.SN_FOLLOW),
          match s.freeLane x.port with
          | some l => bindLane l (.ack x.req) x.chan x.mode
          | none => inc (R.TX_NO_ACK_LANE x.port)]]

/-- No ACK came for the last copy: the attempt is unanswered, unless an earlier frame of the exchange has answered it (R227, R239). -/
def missEx (x : SnEx) : Act := acts [updPkt x.pkt fun p => { p with tries := p.tries + 1 }, endEx x,
  if x.answered then .read fun s => planNode x.node s.nowNs else unanswered x.node]

/-- SN_ACK_TIMEOUT (R233, R239): the edge passes without an ACK; copies may remain. -/
def snAckTimeout (n : Nat) : Act := .read fun s =>
  match s.snEx? n with
  | none => .skip
  | some x =>
    let coming := x.sof && (((s.boundLanes (.ack x.req)).any fun l => (s.lane l).frame.isSome) ||
      s.eng.lane.queues.any fun q => q.2.any fun r => r.bind == .ack x.req)
    if x.step = 3 ∧ ¬ coming ∧ x.edge ≤ s.devTime then
      acts [forAll (s.boundLanes (.ack x.req)) unbindLane,
        onlyIf (x.sent == x.copies) (missEx x)]
    else .skip

/-- SN_DL_NEXT_COPY (R236): not while an ACK frame is in progress on the listening lane; where one was at the instant of the copy, the copy
starts 1 ms after its end. DEDUCED: log 67. -/
def snNextCopy (n : Nat) : Act := .read fun s =>
  match s.snEx? n with
  | none => .skip
  | some x =>
    let plain := x.t1 + s.rd R.SN_DL_GAP * uUs
    let hears (l : Nat) : Bool := s.rd (R.L_PORT l) == x.port && s.rd (R.L_CHANNEL l) == x.chan && modeFamily (s.rd (R.L_MODE l)) == 5
    let busy := (s.busyLanes x.port).any hears
    let heard := ((s.eng.lane.heardTo.filter fun e => hears e.1 && decide (plain < e.2)).map (·.2)).foldl max 0
    let due := if heard = 0 then plain else heard + 1000 * uUs
    if x.step = 3 ∧ x.sent < x.copies ∧ ¬ busy ∧ due ≤ s.devTime + s.rd R.TS_RETUNE_LEAD * uNs then
      snNext x (max due (s.devTime + s.keyLead x.port * uNs))
    else .skip

/-- A valid ACK answers the attempt, or a follow-on of one that is answered (R239, R227). -/
def snAnswered (x : SnEx) : Act := .read fun s =>
  let n := x.node
  acts [onlyIf (!x.answered) (acts [inc R.SN_ANSWERED, setMisses n 0]), countTx n,
    updateEtx n (((s.pkt? x.pkt).map fun p => p.tries).getD 0 + 1),
    onlyIf x.full (snResetEstimate n),
    onlyIf (!x.answered && s.snState n == 2) (acts [setSnState n 1, raise 0x0802 n (n * 256)]),
    freePending n x.pkt]

/-- After the observation that the ACK yields, the exchange goes on with a follow-on, or the node is planned (R227, Table SLEEP-3); `fin` is
the end of the ACK. -/
def snGoOn (x : SnEx) (fin : Nat) : Act := .read fun s =>
      let n := x.node
      if (s.snFrames n).isEmpty then endEx x
      else if x.frames + 1 < s.rd R.SN_BURST then acts [
        forAll x.resv resvReturn, forAll (s.boundLanes (.ack x.req)) unbindLane,
        match s.headFrame n with
        | some (i, f) => setEx { x with
            step := 4, t1 := fin, frames := x.frames + 1, sent := 0, wakes := 0, ext := 0, full := false, answered := true, pkt := i, resv := []
            dur := dataTime x.mode f, edge := fin, copies := if modeFamily x.mode = 5 then s.snReps n + 1 else 1 }
        | none => endEx x]
      else acts [endEx x, planNode n s.nowNs]

/-- SN_FOLLOW_ON (R227): the next pending frame is admitted and sent SN_FOLLOW_GAP after the ACK, unless its campaign is PAUSED (R368);
the follow-on of an uplink is a planned exchange until its retune instant (R238). DEDUCED: log 67, 148. -/
def snFollowOn (n : Nat) : Act := .read fun s =>
  match s.snEx? n with
  | none => .skip
  | some x =>
    let t0 := x.t1 + s.rd R.SN_FOLLOW_GAP * uUs
    if x.step ≠ 4 then .skip
    else if s.campHeld x.pkt then replanEx x none
    else admitTx (s.exTxs x)
      (fun ids => if x.past then snNext { x with resv := ids } t0
        else .seq (planEx { x with step := 0, resv := ids, t0 := t0, ret := s.retuneAt t0, decided := s.now })
          (.read fun s => forAll (s.snEx? n).toList snRetune))
      (fun _ => replanEx x (some R.SN_TALLY_WAIT))

/-- An ACK with Frame Pending went to a node with frames: the head frame follows, in place of an exchange that is planned for the node
(R227, R234). DEDUCED: log 182. -/
def snFollowAck (n fin : Nat) : Act := .read fun s =>
  if s.rd R.SN_EN = 0 ∨ ((s.snEx? n).any fun x => x.past) then .skip
  else match s.headFrame n with
    | none => .skip
    | some (i, f) => acts [giveUp n,
        setEx ⟨n, s.snPort n, s.snChan n, s.snMode n, false, 4, i, 0, 0, phaseUnit (s.snMode n), fin, fin, dataTime (s.snMode n) f, 0,
          (if modeFamily (s.snMode n) = 5 then s.snReps n + 1 else 1), 0, 0, [], 0, fin, fin, false, true, s.now⟩]

/-- A frame from a node was delivered or duplicated (R228, R241): its RMARKER, CSL phase and RIT IE. -/
def snHeard (n tSof mode : Nat) (csl : Option (Nat × Nat)) (rit : Bool) : Act := .read fun s =>
  let o : Option Nat :=
    if s.snService n = 2 then if rit then some tSof else none
    else csl.map fun c => tSof + c.1 * phaseUnit mode
  if s.snService n = 0 then .skip
  else acts [
    onlyIf (s.snService n == 2 && rit && s.snState n == 1) (acts [inc R.SN_ATTEMPTS, inc R.SN_ANSWERED, setMisses n 0]),
    match o with
    | some u => observe n ((u / uNs : Nat) : Int)
    | none => .skip,
    if s.snState n = 3 then acts [raise 0x0807 n (n * 256), setMisses n 0,
      if (s.snFrames n).isEmpty then setSnState n 0 else admitNode n]
    else onlyIf (o.isSome && s.snState n == 1 && (s.snEx? n).isNone) (planNode n (s.nowNs + 1))]

/-! ## Commands of the service -/

/-- PS_TTL_SWEEP (R245): a frame of an exchange past its retune instant waits for the end of that exchange, and an exchange still planned
is planned again without its frame. -/
def ttlSweep : Act := .read fun s =>
  let old := (s.eng.sn.ages.map (·.1)).takeWhile s.agedOut
  let keyed (i : Nat) : Bool := s.eng.sn.exs.any fun x => x.pkt == i && x.past
  forAll (old.filter fun i => !(keyed i)) fun i => .read fun s => .seq (freeAged i)
    (forAll (s.eng.sn.exs.filter fun x => x.pkt == i) fun x => replanEx x none)

/-- The nodes that hold frames. -/
def State.heldNodes (s : State) : List Nat := s.eng.sn.lists.map (·.1)

/-- Exchanges before their retune instant are given up. -/
def dropPlanned : Act := .read fun s => forAll (s.eng.sn.exs.filter fun x => !x.past) endEx

/-- The store, the wheel and the overflow list empty, and every node goes to IDLE (R244, steps 3 and 4). -/
def snClear : Act := .read fun s => acts [
  forAll s.heldNodes fun n => acts [forAll (s.snFrames n) fun _ => raiseMs 0 0x0805 n (n * 256), dropPending n],
  .read fun s =>
    let nodes := (s.objs.filter fun e => e.1.idx == 0x2310 && e.1.mem == 3).map fun e => e.1.inst
    forAll nodes fun n => onlyIf (s.snState n != 0) (acts [unwheel n, setSnState n 0])]

/-- SN_EN becomes 0 (R244): exchanges past their retune instant run on, and the store empties when the last has ended. -/
def snDisable : Act := acts [dropPlanned, .read fun s => onlyIf s.eng.sn.exs.isEmpty snClear]

/-- SN_EN becomes 1: the store starts empty (R244). -/
def snEnable : Act := snClear

/-- An exchange has ended: with the last one, a service that is off empties its stores (R244). -/
def snEndNoted : Act := .read fun s => onlyIf (s.rd R.SN_EN == 0 && s.eng.sn.exs.isEmpty && !(s.eng.sn.lists.isEmpty &&
  s.eng.sn.wheel.isEmpty)) snClear

/-- SN_SERVICE, SN_PERIOD or SN_LINK took a value (R224): an exchange before its retune instant is given up, one past it runs on. -/
def snConfigured (n : Nat) : Act := .read fun s => acts [
  wrFld (R.SN_STATUS n) 60 60 0, setMisses n 0, wrTime (R.SN_ANCHOR n 0) 0, wr (R.SN_DRIFT n) 0, wr (R.SN_UNCERT n) 0,
  giveUp n,
  if s.snService n = 0 then dropPending n
  else .read fun s => onlyIf ((s.snState n == 1 || s.snState n == 2) && (s.snEx? n).isNone) (acts [setSnState n 1, planNode n s.nowNs])]

/-- SN_CMD 1 (R241): the count of misses starts afresh, as it does when the node is heard; a RIT node never enters SWEEP (R234). -/
def snLeave (n : Nat) : Act := .read fun s =>
  if s.snState n ≠ 3 then .skip
  else acts [setMisses n 0,
    if (s.snFrames n).isEmpty then setSnState n 0
    else if s.wheelFull ∨ s.snService n = 2 then admitNode n
    else acts [enterSweep n, planFull n s.devTime]]

/-- SN_CMD 2 (Table SLEEP-6). -/
def snFreeFrames (n : Nat) : Act := acts [giveUp n, dropPending n]

/-- The service plans every node afresh when TS_RUN is 1 again (R195). -/
def snPlanAll : Act := .read fun s =>
  forAll (s.heldNodes.filter fun n => (s.snState n == 1 || s.snState n == 2) && (s.snEx? n).isNone) fun n => planNode n s.nowNs

end Sys2Proof.Machine
end

