-- ==== Sys2Proof/Machine/Tsch.lean ====
section
/-! DEFINITION. The TSCH engine (08_tsch_engine.md R192 to R216, R220, R222). -/

namespace Sys2Proof.Machine

open Sys2Proof

/-! ## Offers (R208) -/

/-- A unicast frame is offered for its neighbour. -/
def offerUnicast (n i : Nat) : Act := setTsch fun g => { g with offered := g.offered.set n (g.offered.at n [] ++ [i]) }

/-- A frame for NODE 0 cells is offered on its port. -/
def offerBroadcast (p i : Nat) : Act := setTsch fun g => { g with bcast := g.bcast.set p (g.bcast.at p [] ++ [i]) }

def dropId (t : Tbl (List Nat)) (k i : Nat) : Tbl (List Nat) :=
  let l := (t.at k []).filter (· != i)
  if l.isEmpty then t.clear k else t.set k l

/-- A frame is finished or dropped: it leaves its offer and its cells are freed. -/
def finishFrame (i : Nat) : Act := .read fun s =>
  match s.pkt? i with
  | none => .skip
  | some p => acts [setTsch fun g => { g with
        offered := dropId g.offered p.node i, bcast := dropId g.bcast p.port i, withheld := g.withheld.filter (· != (false, i)) },
      (match p.tsId with
        | some ts => note (.airLost ts)
        | none => .skip), freePkt i]

/-- The neighbour has a TX cell of its own on the port in a bank. -/
def State.hasTxCell (s : State) (bank p n : Nat) : Bool :=
  (s.cells bank).any fun c => cellPort c.2.1 == p && cellTx c.2.1 && cellNode c.2.2 == n

/-- The oldest frame offered for a neighbour that no paused campaign holds. -/
def State.offerHead (s : State) (n : Nat) : Option Nat := (s.eng.tsch.offered.at n []).find? fun i => !(s.campHeld i)

/-- Backoff keeps a retransmission out of a SHARED cell (R208). -/
def State.backedOff (s : State) (i : Nat) : Bool :=
  match s.pkt? i with
  | some p => decide (0 < p.backoff)
  | none => true

/-- The candidate of a transmit cell (R208): an EB, or a stored frame. -/
inductive Cand where
  | eb
  | frame (i : Nat)
  deriving DecidableEq, Repr

/-- An attempt with the frame is in hand: it is not WAITING (Table TSCH-7). -/
def State.inHand (s : State) (i : Nat) : Bool := s.eng.tsch.atts.any fun x => x.pkt == some i

/-- The unicast neighbours that share a NODE 0 cell: those without a TX cell on the port, oldest head frame first. -/
def State.sharedHeads (s : State) (bank p : Nat) : List Nat :=
  sortBy (fun a b => decide (a ≤ b)) (s.eng.tsch.offered.filterMap fun e => if s.hasTxCell bank p e.1 then none else s.offerHead e.1)

/-- The oldest broadcast that the cell admits (R208). -/
def State.bcastFirst (s : State) (p chan : Nat) : Option Nat :=
  (s.eng.tsch.bcast.at p []).find? fun i => !(s.campHeld i) && match s.pkt? i with
    | some x => match x.chan with
      | some c => c == chan
      | none => true
    | none => false

/-- No network key keeps a broadcast back: it needs none, or the slot is ACTIVE, and its counter too unless it is protected already
(R331, R333). -/
def State.bcastReady (s : State) (i : Nat) : Bool :=
  match s.pkt? i with
  | some x => match x.sealed, x.mac with
    | some _, _ => s.netActive
    | none, some f => f.level == 0 || s.netUsable
    | none, none => false
  | none => false

/-- The oldest broadcast that the cell admits, when the network key can protect it (R208, R331). -/
def State.bcastHead (s : State) (p chan : Nat) : Option Nat := (s.bcastFirst p chan).filter s.bcastReady

/-- What is kept of the EB due on a port. -/
def State.ebHeld (s : State) (p : Nat) : EbKept := s.eng.tsch.ebKept.at p ⟨none, none⟩

/-- The EB due on the port can be sent: it needs no key, or the slot is ACTIVE, and its counter too unless it is protected already
(R220, R331, R333). -/
def State.ebReady (s : State) (p : Nat) : Bool :=
  s.eng.tsch.ebDue.contains p && match (s.ebHeld p).frame with
    | some _ => s.netActive
    | none => s.rd R.TS_EB_AUTH == 0 || s.netUsable

/-- An attempt of the port has its EB in hand. -/
def State.ebInHand (s : State) (p : Nat) : Bool := s.eng.tsch.atts.any fun x => x.port == p && x.pkt.isNone

/-- R208: the one candidate of a cell on its channel; a frame whose attempt is in hand lets none behind it pass. -/
def State.candidate (s : State) (bank chan w w1 : Nat) : Option Cand :=
  let p := cellPort w
  let free (o : Option Nat) : Option Cand := (o.filter fun i => !(s.inHand i)).map .frame
  if cellNode w1 ≠ 0 then free ((s.offerHead (cellNode w1)).filter fun i => !(cellShared w && s.backedOff i))
  else if cellAdv w ∧ s.ebReady p ∧ ¬ s.ebInHand p then some .eb
  else match free (s.bcastHead p chan) with
    | some c => some c
    | none => if cellShared w then free ((s.sharedHeads bank p).find? fun i => !(s.backedOff i) && !(s.inHand i)) else none

/-! ## Enhanced beacons (R220) -/

/-- Link options as the node is to use them: TX, RX, SHARED, TIMEKEEPING. -/
def linkOptions (w : Nat) : Nat :=
  b2n (cellRx w) + 2 * b2n (cellTx w) + 4 * b2n (cellShared w) + 8 * b2n (bit? w 21)

/-- What an EB of the port in a slot says, with the slotframes below handle `lim`. -/
def State.ebInfo (s : State) (bank a p tmpl lim : Nat) : EbInfo where
  asn := a
  template := if tmpl = 0 then none else some ((List.range 11).map fun m => s.tplAt a tmpl m / uUs)
  hopId := s.rd (R.HOP_ID p)
  hops := (List.range (s.rd (R.HOP_LEN p))).map fun k => fld (s.rd (R.HOP_ENTRY p (k / 4))) (16 * (k % 4) + 15) (16 * (k % 4))
  slotframes := ((List.range (min 16 lim)).filter fun h =>
      s.sfLen bank (16 * p + h) != 0 && s.rd ⟨0x2010 + bank, 16 * p + h, 1⟩ == 1).map fun h =>
    (h, s.sfLen bank (16 * p + h),
      ((s.cells bank).filter fun c => cellPort c.2.1 == p && cellSf c.2.1 == h && cellNode c.2.2 == 0 && cellSpan c.2.1 == 0).map
        fun c => (cellOffset c.2.1, cellCh c.2.1, linkOptions c.2.1))

/-- The PSDU length of a frame on air: the payload of a protected one holds its MIC. -/
def airLen (mode : Nat) (f : MacFrame) : Nat :=
  if f.auth.isEmpty then psduLen mode f else (Config.mhr f).length + f.body.length + fcsLen mode

/-- The EB, with the highest slotframes left out until it fits the largest PSDU of the mode. -/
def State.ebFrame (s : State) (bank a p tmpl mode : Nat) : Nat → MacFrame
  | lim =>
    let f (l : Nat) : MacFrame := { blankFrame with
      type := 0
      pan := some (s.rd R.TS_PAN_ID)
      src := .ext uidOf
      level := if s.rd R.TS_EB_AUTH = 1 then 1 else 0
      kidx := if s.rd R.TS_EB_AUTH = 1 then s.netSlot.map fun k => kIndex (s.rd (R.K_ATTR k)) else none
      fc := if s.rd R.TS_EB_AUTH = 1 then some 0 else none
      body := Config.ebBody (s.ebInfo bank a p tmpl l) }
    match ((List.range lim).reverse.map (· + 1)).find? fun l => decide (psduLen mode (f l) ≤ familyMaximum mode) with
    | some l => f l
    | none => f 0

/-! ## Decisions (R201, R206 to R209) -/

/-- The transmit cells of a port that start in a slot, in the order of R201. -/
def State.txCells (s : State) (p a : Nat) : List (Nat × Nat × Nat) :=
  let bank := s.bankOf a
  let cs := (s.cells bank).filter fun c => cellPort c.2.1 == p && cellTx c.2.1 && s.cellStarts bank a c.2.1
  let rank (c : Nat × Nat × Nat) : Nat := (if cellPriority c.2.1 then 0 else 16) + cellSf c.2.1
  sortBy (fun x y => decide (rank x < rank y) || (rank x == rank y && decide (x.1 ≤ y.1))) cs

/-- The wait from slot start to the decision instant of a cell's template (R206). -/
def State.decideOffset (s : State) (a k : Nat) : Nat := s.tplAt a k tTxOffset - s.rd R.TS_DECIDE_LEAD * uUs

/-- The frame a candidate is sent as: one that was KEYED keeps its counter and octets (R18, R210). DEDUCED: log 178. -/
def State.candFrame (s : State) (bank a p tmpl mode : Nat) : Cand → Option MacFrame
  | .eb => some ((s.ebHeld p).frame.getD (s.ebFrame bank a p tmpl mode 16))
  | .frame i => match s.pkt? i with
    | some x => match x.sealed with
      | some (_, f) => some f
      | none => x.mac
    | none => none

/-- The attempt a cell would make with its candidate. -/
def State.buildAtt (s : State) (a : Nat) (c : Nat × Nat × Nat) (cand : Cand) : Option TxAtt :=
  let w := c.2.1
  let p := cellPort w
  let bank := s.bankOf a
  let mode := cellMode c.2.2
  let st := s.slotStart a
  let t0 := st + s.tplAt a (cellTpl w) tTxOffset
  (s.candFrame bank a p (cellTpl w) mode cand).map fun f =>
    ⟨p, c.1, bank, a, st + (cellSpan w + 1) * s.slotLen, s.cellChannel a w, mode, cellTpl w, cellShared w,
      (match cand with | .eb => none | .frame i => some i), f, frameTime mode (airLen mode f), t0,
      max (st + s.decideOffset a (cellTpl w)) (s.retuneAt t0), 0, 1, 0, 0, none, false, 0⟩

/-- R207: what a cell reserves behind its frame for the ACK. -/
def State.attReserve (s : State) (x : TxAtt) : Nat :=
  if x.frame.ackReq then s.tplAt x.asn x.tmpl tRxAckDelay + s.tplAt x.asn x.tmpl tAckWait + s.tplAt x.asn x.tmpl tMaxAck else 0

/-- R207: airtime and reserve fit before the end of the cell; and the mode has PSDUs of that length (R558, R174). -/
def State.attFits (s : State) (x : TxAtt) : Bool :=
  decide (airLen x.mode x.frame ≤ familyMaximum x.mode) && decide (x.t0 + x.dur + s.attReserve x ≤ x.fin)

/-- The latest end of the frame that its cell allows. -/
def State.attLimit (s : State) (x : TxAtt) : Nat := x.fin - s.attReserve x

/-- The cells are judged in order until one holds a frame that fits: that attempt, and how many did not fit. -/
def State.chooseCell (s : State) (a : Nat) : Nat → List (Nat × Nat × Nat) → Option TxAtt × Nat
  | bad, [] => (none, bad)
  | bad, c :: rest =>
    let chan := s.cellChannel a c.2.1
    if s.rd (R.CP_COUNT (cellPort c.2.1)) ≤ chan then s.chooseCell a (bad + 1) rest
    else match (s.candidate (s.bankOf a) chan c.2.1 c.2.2).bind (s.buildAtt a c) with
      | none => s.chooseCell a bad rest
      | some x => if s.attFits x then (some x, bad) else s.chooseCell a (bad + 1) rest

/-- The attempts of a port. -/
def State.portAtts (s : State) (p : Nat) : List TxAtt := s.eng.tsch.atts.filter fun x => x.port == p

/-- The attempt of a request. -/
def State.att? (s : State) (req : Nat) : Option TxAtt := s.eng.tsch.atts.find? fun x => x.req == req

/-- The attempt with this request takes these values. -/
def setAtt (x : TxAtt) : Act := setTsch fun g => { g with atts := g.atts.map fun y => if y.req = x.req then x else y }
def addAtt (x : TxAtt) : Act := setTsch fun g => { g with atts := g.atts ++ [x] }
def clearAtt (x : TxAtt) : Act := setTsch fun g => { g with atts := g.atts.filter fun y => y.req != x.req }

/-- An EB in hand whose attempt did not end DONE gives way to the EB that became due meanwhile (R220). DESIGN CHOICE: log 180. -/
def ebReplaced (p : Nat) : Act := .read fun s => onlyIf (decide (1 < s.eng.tsch.ebDue.count p)) (setTsch fun g => { g with
  ebDue := g.ebDue.erase p, ebKept := g.ebKept.clear p })

/-- An attempt ends without DONE. -/
def dropAtt (x : TxAtt) : Act := acts [clearAtt x, onlyIf x.pkt.isNone (ebReplaced x.port)]

/-- A SHARED cell passes: the backoff of frames that could use it counts down (R208). -/
def countBackoff (p a : Nat) (cs : List (Nat × Nat × Nat)) : Act := .read fun s =>
  let heads := (cs.filter fun c => cellShared c.2.1).flatMap fun c =>
    if cellNode c.2.2 = 0 then s.sharedHeads (s.bankOf a) p else (s.offerHead (cellNode c.2.2)).toList
  forAll heads.eraseDups fun i => updPkt i fun x => { x with backoff := x.backoff - 1 }

/-- The bindings of a cell chosen to transmit end at D, and its window, while it lasts, is bound no more (R202, R211); a frame that goes on
is still measured against it (R196). -/
def endCellBinding (x : TxAtt) : Act := .read fun s =>
  let ws := s.eng.tsch.wins.filter fun w => w.cell == x.cell && w.bank == x.bank && w.asn == x.asn
  let fin := s.slotStart x.asn + s.tplAt x.asn x.tmpl tRxOffset + s.tplAt x.asn x.tmpl tRxWait
  acts [forAll ws fun w => forAll (s.boundLanes (.cell w.id)) unbindLane,
    onlyIf (ws.isEmpty && decide (s.devTime < fin)) (setTsch fun g => { g with
      wins := g.wins ++ [⟨g.nextWin, x.port, x.cell, x.bank, x.asn, x.tmpl, fin, false⟩], nextWin := g.nextWin + 1 })]

/-- The chosen cell's frame is admitted, or the cell is unused (R209). -/
def admitAtt (p : Nat) (x : TxAtt) : Act := .read fun s =>
  admitTx [⟨p, s.planFreq p x.chan, s.passband p x.mode, x.dur, some (s.tplAt x.asn x.tmpl tCca / uUs)⟩]
    (fun ids => takeReq fun id => acts [endCellBinding x, addAtt { x with resv := ids.headD 0, req := id },
      .read fun s => match s.ccaOf id p x.chan x.mode x.t0 (some (s.slotStart x.asn, x.tmpl)) with
        | some e => edAsk e
        | none => .skip])
    (fun _ => acts [inc (R.TX_TALLY_WAIT p),
      match ((x.pkt.bind s.pkt?).filter fun q => q.node == 0).bind fun q => q.camp with
      | some c => inc (R.CA_TALLY_WAIT c)
      | none => .skip])

/-- The exchanges with sleeping nodes that hold the transmitter of the port over an attempt's span (R238). -/
def State.exHolds (s : State) (p : Nat) (x : TxAtt) : List SnEx :=
  (s.portExs p).filter fun e => overlaps (s.airSpan p x.t0 x.dur) (s.exSpan e)

/-- An exchange decided in the present SCLK cycle, to which a cell does not yield (R238). -/
def State.exTie (s : State) (e : SnEx) : Bool := e.step == 0 && e.decided == s.now

/-- The decision instant of a slot on a port: the earliest among its transmit cells (R201, R206). -/
def State.decideAt (s : State) (a : Nat) (cs : List (Nat × Nat × Nat)) : Nat :=
  match cs.map fun c => s.decideOffset a (cellTpl c.2.1) with
  | [] => s.slotStart a
  | o :: rest => s.slotStart a + rest.foldl min o

/-- The slot whose decision instant on the port has come, none decided twice. -/
def State.decideAsn (s : State) (p : Nat) : Option Nat :=
  let cs := (s.cells 0 ++ s.cells 1).filter fun c => cellPort c.2.1 == p && cellTx c.2.1
  let offs := (cs.flatMap fun c => s.tplVals (cellTpl c.2.1) tTxOffset).eraseDups.map fun o => o - s.rd R.TS_DECIDE_LEAD * uUs
  let slots := sortBy (fun x y => decide (x ≤ y)) (offs.filterMap fun o => s.asnAt (s.devTime - o)).eraseDups
  slots.find? fun a =>
    let here := s.txCells p a
    s.serves a && !(here.isEmpty) && !((s.eng.tsch.decided.at p []).contains a) && decide (s.decideAt a here ≤ s.devTime)

/-- The frames that cells of a port would take in a slot but for a network key (R331): the EB due, and the oldest broadcast of each.
DEDUCED: log 62. -/
def State.keptBack (s : State) (p a : Nat) (cs : List (Nat × Nat × Nat)) : List (Bool × Nat) :=
  let eb := s.eng.tsch.ebDue.contains p && !(s.ebReady p) && cs.any fun c => cellAdv c.2.1
  let heads := ((cs.filter fun c => cellNode c.2.2 == 0).filterMap fun c => s.bcastFirst p (s.cellChannel a c.2.1)).filter fun i => !(s.bcastReady i)
  (if eb then [(true, p)] else []) ++ heads.eraseDups.map fun i => (false, i)

/-- Each frame withheld counts once in LS_NO_NETKEY (R331). DEDUCED: log 62. -/
def countKeptBack (p a : Nat) (cs : List (Nat × Nat × Nat)) : Act := .read fun s =>
  let new := (s.keptBack p a cs).filter fun x => !(s.eng.tsch.withheld.contains x)
  acts [addTo R.LS_NO_NETKEY new.length, setTsch fun g => { g with withheld := g.withheld ++ new }]

/-- TX_DECISION (R201, R205 to R209, R238). DEDUCED: log 61, 62, 63. -/
def txDecision (p : Nat) : Act := .read fun s =>
  match s.decideAsn p with
  | none => .skip
  | some a =>
    let cs := s.txCells p a
    acts [setTsch fun g => { g with decided := g.decided.set p ((a :: g.decided.at p []).take 64) },
      countKeptBack p a cs,
      if (s.portAtts p).any fun old => old.bank != s.bankOf a then addTo (R.TX_YIELD p) cs.length
      else
        let r := s.chooseCell a 0 cs
        acts [addTo (R.TX_NO_FIT p) r.2,
          match r.1 with
          | none => .skip
          | some x =>
            let held := s.exHolds p x
            if held.all s.exTie then acts [forAll held fun e => replanEx e none, admitAtt p x] else inc (R.TX_YIELD p)],
      countBackoff p a cs]

/-- The attempt's timed retune is issued at R (R211). -/
def attRetune (x : TxAtt) : Act := .read fun s =>
  if x.state ≠ 1 ∨ s.devTime < x.ret then .skip
  else acts [setAtt { x with state := 2 },
    retune ⟨x.req, x.port, .tsch, x.port, x.t0, x.t0 + x.dur, s.attLimit x, s.planFreq x.port x.chan, x.mode, some x.resv, none, none⟩]

/-! ## Enhanced ACKs (R215, R216) -/

def setAcks (f : List AckReq → List AckReq) : Act := setTsch fun g => { g with acks := f g.acks }

/-- An Enhanced ACK is skipped. -/
def skipAck (p : Nat) : Act := acts [inc (R.ACK_SKIPPED p), raiseMs p 0x0704 p p]

/-- An ACK is dropped with its admission. -/
def dropAck (x : AckReq) : Act := acts [setAcks fun l => l.filter (· != x), resvReturn x.resv, skipAck x.port]

/-- The span of an ACK from retune to ant_back. -/
def State.ackSpan (s : State) (x : AckReq) : Nat × Nat := s.airSpan x.port x.t0 x.dur

/-- The exchanges that yield the transmitter to an ACK before their own first retune instant (R238). -/
def yieldExs (x : AckReq) : Act := .read fun s =>
  forAll ((s.portExs x.port).filter fun e => !e.past && overlaps (s.ackSpan x) (s.exSpan e)) fun e =>
    replanEx e (some R.SN_YIELD)

/-- An ACK request of a port (R215, R238): the earlier first symbol wins, a tie goes to the lower lane. -/
def askAck (x : AckReq) : Act := .read fun s =>
  let rivals := s.eng.tsch.acks.filter fun y => y.port == x.port && overlaps (s.ackSpan x) (s.ackSpan y)
  let wins := rivals.all fun y => y.state == 0 &&
    (decide (x.t0 < y.t0) || (x.t0 == y.t0 && decide (x.lane < y.lane)))
  let exPast := (s.portExs x.port).any fun e => e.past && overlaps (s.ackSpan x) (s.exSpan e)
  if !wins || exPast then skipAck x.port
  else acts [forAll rivals dropAck, yieldExs x,
    .read fun s => admitTx [⟨x.port, s.planFreq x.port x.chan, s.passband x.port x.mode, x.dur, none⟩]
      (fun ids => takeReq fun id => setAcks fun l => l ++ [{ x with resv := ids.headD 0, req := id }])
      (fun _ => skipAck x.port)]

/-- ACK_POLICY PROTECT skips an ACK while a lane of the blanking group receives (R215). -/
def State.ackProtected (s : State) (p : Nat) : Bool :=
  s.rd (R.ACK_POLICY p) == 1 && (s.blankedBy p).any fun q => !(s.rxLanes q).isEmpty

/-- The retune instant of an ACK. -/
def ackRetune (x : AckReq) : Act := .read fun s =>
  if x.state ≠ 0 ∨ s.devTime < s.retuneAt x.t0 then .skip
  else if s.ackProtected x.port then dropAck x
  else acts [setAcks fun l => l.map fun y => if y = x then { x with state := 1 } else y,
    retune ⟨x.req, x.port, .ack, x.req, x.t0, x.t0 + x.dur, x.t0 + x.dur + 50000 * uNs, s.planFreq x.port x.chan, x.mode,
      some x.resv, none, none⟩]

/-- TX_RETUNE_INSTANT (R211): every transmission of the port whose retune instant has come. -/
def txRetune (p : Nat) : Act := .read fun s => acts [
  forAll (s.portAtts p) attRetune,
  forAll (s.eng.tsch.acks.filter fun x => x.port == p) ackRetune,
  forAll (s.portExs p) snRetune]

/-- The key that protects the ACK of a frame: that of the acknowledged frame (R216). -/
def withAckKey (x : AckReq) (use : List Nat → Act) (none_ : Act) : Act := .read fun s =>
  match x.frame.kidx with
  | none => withLinkKey x.node use none_
  | some i => match s.netSlot, s.netValues opProtect i with
    | some slot, (_, v) :: _ => acts [keyStarts slot, use v]
    | _, _ => none_

/-- The port entered KEYED with an ACK: it is protected with the ASN of its slot (R216). DEDUCED: log 136. -/
def ackKeyed (r : TxReq) : Act := .read fun s =>
  match s.eng.tsch.acks.find? fun y => y.req == r.id with
  | none => .skip
  | some x =>
    let asn := (s.asnAt r.t0).getD 0
    let go (f : MacFrame) : Act :=
      if modeFamily x.mode = 5 then takeTag r.port fun tag => onAirNow r f (some ⟨tag, 0, 0, 0⟩) else onAirNow r f none
    acts [startResv r.resv r, quickJob 0,
      if x.frame.level = 0 then go { x.frame with auth := Config.mhr x.frame }
      else withAckKey x (fun k => go (sealAsn k asn x.frame)) (acts [unkey r.port, dropAck x])]

/-- A Deep Link frame is acknowledged: its surplus copies are not (R219). -/
def dlAcked (p tag : Nat) : Act := setTsch fun g => { g with dlAcks := g.dlAcks.filter fun y => !(y.port == p && y.tag == tag) }

/-- An Enhanced ACK has been sent: its correction is the node's TCORR, unless it answered a duplicate (R213, R288).
DEDUCED: log 179. -/
def ackSent (x : AckReq) (t1 : Nat) : Act := .read fun s => acts [inc (R.ACK_SENT x.port),
  (match x.dl with
    | some tag => dlAcked x.port tag
    | none => .skip),
  (match x.frame.corr with
    | some (c, _) => onlyIf (x.fresh && x.node != 0 && s.nodeState x.node != 0) (setTcorr x.node c)
    | none => .skip),
  onlyIf x.follow (snFollowAck x.node t1)]

/-- A transmitted ACK ended; one that a not-keyed status ends counts as LATE (R211, R138). DEDUCED: log 140. -/
def ackEnded (r : TxReq) (st : Nat) : Act := .read fun s =>
  match s.eng.tsch.acks.find? fun y => y.req == r.id with
  | none => settleResv r
  | some x => acts [settleResv r, setAcks fun l => l.filter fun y => y.req != r.id,
      if st = 0 then ackSent x r.t1
      else onlyIf (decide (5 ≤ st)) (acts [inc (R.TX_LATE x.port), raiseMs x.port 0x0703 x.port x.port])]

/-! ## Attempts end (Table TSCH-7, R211 to R214) -/

/-- The IEEE 802.15.4 backoff of a retransmission in SHARED cells, `fails` being its failures in such cells: a random number of cells
below 2^BE (R208). DESIGN CHOICE: log 64. -/
def drawBackoff (i fails : Nat) : Act := .read fun s =>
  let be := min (s.rd R.TS_MAX_BE) (s.rd R.TS_MIN_BE + (fails - 1))
  takeFree fun v => updPkt i fun x => { x with shTries := fails, backoff := v % 2 ^ be }

/-- The next attempt of an aborted EB is a new transmission: it takes a TAG of its own, with the same octets (R180, R210). -/
def ebRetag (p : Nat) : Act := .read fun s => setTsch fun g => { g with ebKept := g.ebKept.set p { s.ebHeld p with tag := none } }

/-- An unacknowledged or aborted attempt counts one retransmission (R214). -/
def attRetry (x : TxAtt) : Act := .read fun s =>
  let p := x.port
  match x.pkt with
  | none => acts [clearAtt x, ebRetag p, ebReplaced p]
  | some i => match s.pkt? i with
    | none => clearAtt x
    | some q =>
      let tries := q.tries + 1
      acts [clearAtt x, inc (R.TX_RETRIES p),
        if s.rd R.TS_MAX_RETRIES < tries then acts [inc (R.TX_DROPPED p), raise 0x0702 p (p + q.node * 256),
          onlyIf (x.frame.ackReq && s.isEntry q.node q.gen) (updateEtx q.node 16), finishFrame i]
        else acts [updPkt i fun y => { y with tries := tries, dlTag := none },
          onlyIf (x.shared && x.frame.ackReq) (drawBackoff i (q.shTries + 1))]]

/-- An attempt ends without transmission: LATE, or busy (R209, R211). -/
def attLate (x : TxAtt) (st : Nat) : Act :=
  let p := x.port
  acts [dropAtt x,
  if st = 10 then inc (R.CCA_BUSY p) else acts [inc (R.TX_LATE p), raiseMs p 0x0703 p p]]

/-- The port entered KEYED with the attempt's frame (R210). DEDUCED: log 61, 178. -/
def attKeyed (r : TxReq) : Act := .read fun s =>
  match s.att? r.id with
  | none => .skip
  | some x =>
    let deep := modeFamily x.mode == 5
    let tagOf (s : State) : Option Nat := match x.pkt with
      | some i => (s.pkt? i).bind fun q => q.dlTag
      | none => (s.ebHeld x.port).tag
    let keepTag (tag : Nat) : Act := match x.pkt with
      | some i => updPkt i fun q => { q with dlTag := some tag }
      | none => .read fun s => setTsch fun g => { g with ebKept := g.ebKept.set x.port { s.ebHeld x.port with tag := some tag } }
    let go (f : MacFrame) : Act := .read fun s =>
      onAirNow r f (if deep then some ⟨(tagOf s).getD 0, 0, 0, 0⟩ else none)
    let gone : Act := acts [unkey r.port, dropAtt x,
      match r.resv with
      | some i => resvReturn i
      | none => .skip,
      match x.pkt with
      | some i => finishFrame i
      | none => .skip]
    acts [startResv r.resv r, setAtt { x with state := 3, t0 := r.t0, t1 := r.t1 },
      (match x.pkt with
        | some i => stampAir i r
        | none => .skip),
      onlyIf (deep && (tagOf s).isNone) (takeTag r.port keepTag),
      match x.pkt with
      | none =>
        if x.frame.level = 0 then go { x.frame with auth := Config.mhr x.frame }
        else if !x.frame.auth.isEmpty then go x.frame
        else takeNetFc (fun k fc v => .read fun s =>
              let f := sealFrame v fc { x.frame with kidx := some (kIndex (s.rd (R.K_ATTR k))) }
              acts [setTsch fun g => { g with ebKept := g.ebKept.set x.port { s.ebHeld x.port with frame := some f } }, go f]) gone
      | some i =>
          if ((s.pkt? i).map fun q => q.node).getD 0 ≠ 0 then sealUnicast i go gone else sealBroadcast i go gone]

/-- A frame is sent and done (Table TSCH-7). -/
def attSent (x : TxAtt) : Act :=
  let p := x.port
  acts [clearAtt x, inc (R.TX_UNACKED p),
  match x.pkt with
  | some i => finishFrame i
  | none => acts [inc (R.EB_SENT p), setTsch fun g => { g with ebDue := g.ebDue.erase p, ebKept := g.ebKept.clear p }]]

/-- The attempt's transmission ended with a status (Table TSCH-7). -/
def attEnded (r : TxReq) (st : Nat) : Act := .read fun s =>
  match s.att? r.id with
  | none => settleResv r
  | some x =>
    let gone := match x.pkt with
      | some i => (s.pkt? i).isNone
      | none => false
    acts [settleResv r,
      if gone then clearAtt x
      else if st = 0 then
        if x.frame.ackReq then setAtt { x with
          state := 4, t1 := r.t1, edge := r.t1 + s.tplAt x.asn x.tmpl tRxAckDelay + s.tplAt x.asn x.tmpl tAckWait + 8000 * uNs }
        else attSent x
      else if st ≤ 4 then attRetry x
      else attLate x st]

/-- ACK_WAIT_BIND (R212): at T1 + RxAckDelay. -/
def ackWaitBind (p : Nat) : Act := .read fun s => forAll (s.portAtts p) fun x => .read fun s =>
  if x.state ≠ 4 ∨ x.lane.isSome ∨ s.devTime < x.t1 + s.tplAt x.asn x.tmpl tRxAckDelay then .skip
  else match s.freeLane p with
    | some l => acts [bindLane l (.ack x.req) x.chan x.mode, setAtt { x with lane := some l }]
    | none => acts [inc (R.TX_NO_ACK_LANE p), attRetry x]

/-- The lane of an ACK wait found an SFD: its signal, 8 µs after T_SOF (R156), counts up to the edge, arrival winning (R212). -/
def ackSofNoted (req tSof : Nat) : Act := .read fun s =>
  let u := tSof + 8000 * uNs
  acts [
    forAll s.eng.tsch.atts fun x =>
      onlyIf (x.req == req && x.state == 4 && decide (u ≤ x.edge)) (setAtt { x with sof := true }),
    forAll s.eng.sn.exs fun x =>
      onlyIf (x.req == req && x.step == 3 && decide (u ≤ x.edge)) (setEx { x with sof := true })]

/-- The frame of an ACK wait is on its lane, or its record waits for the engine. -/
def State.ackUnderWay (s : State) (req : Nat) : Bool :=
  ((s.boundLanes (.ack req)).any fun l => (s.lane l).frame.isSome) ||
    s.eng.lane.queues.any fun q => q.2.any fun r => r.bind == .ack req

/-- ACK_TIMEOUT (R212). A frame whose record was lost counts as no ACK. DEDUCED: log 66. -/
def ackTimeout (p : Nat) : Act := .read fun s => forAll (s.portAtts p) fun x => .read fun s =>
  onlyIf (x.state == 4 && (!x.sof || !(s.ackUnderWay x.req)) && decide (x.edge ≤ s.devTime))
    (acts [forAll (s.boundLanes (.ack x.req)) unbindLane, attRetry x])

/-- A valid ACK with NACK clear (R213, R288). -/
def attAcked (x : TxAtt) : Act := .read fun s => acts [clearAtt x, inc (R.TX_ACKED x.port),
  match x.pkt with
  | some i => match s.pkt? i with
    | some q => acts [countTx q.node, updateEtx q.node (q.tries + 1), finishFrame i]
    | none => .skip
  | none => .skip]

/-! ## Receive windows (R152, R153, R202) -/

/-- One receive cell whose window has begun. -/
def bindCell (p a : Nat) (c : Nat × Nat × Nat) : Act := .read fun s =>
  let w := c.2.1
  let k := cellTpl w
  let fin := s.slotStart a + s.tplAt a k tRxOffset + s.tplAt a k tRxWait
  let chan := s.cellChannel a w
  let id := s.eng.tsch.nextWin
  let add (served : Bool) : Act := setTsch fun g =>
    { g with wins := g.wins ++ [⟨id, p, c.1, s.bankOf a, a, k, fin, served⟩], nextWin := id + 1 }
  if ¬ s.servable p chan 0 (cellMode c.2.2) then acts [add false, inc (R.CZ_OOB p), raiseMs p 0x0504 p (p + chan % 1024 * 65536)]
  else match s.freeLane p with
    | none => acts [add false, inc (R.CZ_NO_LANE p), raiseMs p 0x0503 p p]
    | some l => acts [add true, bindLane l (.cell id) chan (cellMode c.2.2)]

/-- The port's receiver was not stopped at a device time: a cell whose first slot starts while it is DISABLED or STARTING is left unserved
without count or event (R153). DEDUCED: log 177. -/
def State.heardFrom (s : State) (p u : Nat) : Bool := !decide ((s.port p).downFrom ≤ u ∧ u < (s.port p).upFrom)

/-- The slot in which the receive window of a cell of port `p` in a bank is open and not yet served: the bank is that of the slot, the
window has begun, it is not over, and the cell has neither been bound nor chosen to transmit. -/
def State.openWindow (s : State) (p bank : Nat) (c : Nat × Nat × Nat) : Option (Nat × (Nat × Nat × Nat)) :=
  let k := cellTpl c.2.1
  (((s.tplVals k tRxOffset).filterMap fun o => s.asnAt (s.devTime - o)).find? fun a =>
    let done_ := s.eng.tsch.wins.any fun x => x.cell == c.1 && x.asn == a && x.bank == bank
    s.bankOf a == bank && s.heardFrom p (s.slotStart a) && s.servesRx a && s.cellStarts bank a c.2.1 && !done_ &&
      decide (s.slotStart a + s.tplAt a k tRxOffset ≤ s.devTime) &&
      decide (s.devTime < s.slotStart a + s.tplAt a k tRxOffset + s.tplAt a k tRxWait)).map fun a => (a, c)

/-- LANE_BIND_CELL: the receive cells of a port, of the bank before a swap and of the one after it, whose window has begun and that are
not yet bound (R152, R205); an ACK wait that begins in the same cycle takes its lane first (R212). -/
def laneBindCells (p : Nat) : Act := .seq (ackWaitBind p) <| .read fun s =>
  let cells (bank : Nat) := ((s.cells bank).filter fun c => cellPort c.2.1 == p && cellRx c.2.1).filterMap (s.openWindow p bank)
  let now := s.rd R.ST_ACTIVE
  onlyIf (s.receiving p) (forAll (cells (1 - now) ++ cells now) fun x => bindCell p x.1 x.2)

/-- A frame of a window's cell is still on a lane, in a queue or at a decoder: its record is to be measured against the window (R196). -/
def State.windowKept (s : State) (w : RxWin) : Bool :=
  let here (b : LaneFor) : Bool := b == .cell w.id
  ((s.boundLanes (.cell w.id)).any fun l => (s.lane l).frame.isSome) || (s.eng.lane.queues.any fun q => q.2.any fun r => here r.bind) ||
    (s.eng.lane.copies.any fun c => here c.bind) || (s.eng.dl.groups.any fun g => g.2.state != 3 && here g.2.last.bind) ||
    s.eng.dl.decoders.any fun d => here d.2.copy.bind

/-- LANE_UNBIND: the receive windows of a port that have ended; one that a frame still on its way is measured against stays (R196, R215). -/
def laneUnbind (p : Nat) : Act := .read fun s =>
  let ovr := s.eng.tsch.wins.filter fun w => w.port == p && decide (w.fin ≤ s.devTime)
  acts [forAll ovr fun w => forAll (s.boundLanes (.cell w.id)) unbindLane,
    setTsch fun g => { g with wins := g.wins.filter fun w => !(ovr.contains w) || s.windowKept w }]

/-! ## Energy detection (R163, R209, R259) -/

/-- The attempt a detector's request serves ends CCA_BUSY. DEDUCED: log 150. -/
def ccaBusy (e : EdReq) : Act := .read fun s =>
  if (s.eng.sn.exs.any fun x => x.req == e.req && x.step == 0) then
    acts [inc (R.CCA_BUSY e.port), forAll (s.eng.sn.exs.filter fun x => x.req == e.req) fun x => replanEx x (some R.SN_LATE)]
  else match s.att? e.req with
    | some x =>
      if x.state = 1 then acts [resvReturn x.resv, dropAtt x, inc (R.CCA_BUSY e.port)]
      else cancelReq e.port e.req 10
    | none => cancelReq e.port e.req 10

/-- ED_RESULT: the detector that serves request `req` measured `power` quarter dBm. -/
def edResult (req : Nat) (power : Int) : Act := .read fun s =>
  match s.eng.lane.edBusy.find? fun e => e.req == req with
  | none => .skip
  | some e =>
    if s.now < e.start + e.len then .skip
    else
      let mode := (s.eng.sn.exs.find? fun x => x.req == req).map (·.mode)
      let mode' := match mode with
        | some m => m
        | none => ((s.att? req).map (·.mode)).getD 0
      acts [setLaneEng fun g => { g with edBusy := g.edBusy.filter fun x => x.req != req },
        match s.lbtOf (s.planFreq e.port e.channel) (s.passband e.port mode') with
        | some lbt => onlyIf (s.channelBusy e.port e.channel lbt power) (ccaBusy e)
        | none => .skip]

/-- ED_DETECTOR_FREE (R163): the next request waiting at the port measures from now, or is judged busy. -/
def edFree (p : Nat) : Act := .read fun s =>
  match s.eng.lane.edWait.find? fun e => e.port == p with
  | none => .skip
  | some e =>
    if 16 ≤ (s.eng.lane.edBusy.filter fun b => b.port == p).length then .skip
    else acts [setLaneEng fun g => { g with edWait := g.edWait.erase e },
      if e.due < s.now + e.len then ccaBusy e
      else setLaneEng fun g => { g with edBusy := g.edBusy ++ [{ e with start := s.now }] }]

/-! ## Running (R193 to R195, R204, R220) -/

/-- EB_PERIOD (R220): the period of the port has elapsed; an EB still due is replaced, one in hand goes on and a new one is due behind it.
DESIGN CHOICE: log 180. -/
def ebPeriod (p : Nat) : Act := .read fun s =>
  let fin := s.eng.tsch.ebFrom.at p 0 + s.rd (R.EB_PERIOD p) * 1000000
  let other := s.eng.tsch.ebDue.filter (· != p)
  onlyIf (s.rd (R.EB_PERIOD p) != 0 && decide (fin ≤ s.now)) (acts [
    setTsch fun g => { g with ebFrom := g.ebFrom.set p fin },
    if s.ebInHand p then setTsch fun g => { g with ebDue := p :: p :: other }
    else setTsch fun g => { g with ebDue := p :: other, ebKept := g.ebKept.clear p, withheld := g.withheld.filter (· != (true, p)) }])

/-- EB_PERIOD has been written: the period begins. DESIGN CHOICE: log 180. -/
def ebBegins (p : Nat) : Act := .read fun s => setTsch fun g => { g with ebFrom := g.ebFrom.set p s.now }

/-- TS_RUN becomes 1. -/
def tsStart : Act := .read fun s => acts [
  setTsch fun g => { g with
    runFrom := (match s.asnAt s.devTime with
      | some a => a + 1
      | none => s.rd R.EP_ASN)
    decided := [] },
  snPlanAll]

/-- The last ASN served by device time `u` (R195): no slot before the first one after TS_RUN became 1, none that a step passed over, and
after a step backward none until the last one served is over (R193, R194). -/
def State.lastServed (s : State) (u : Nat) : Option Nat :=
  match s.asnAt u with
  | none => if s.eng.tsch.idleUntil = 0 then none else s.asnAt (s.eng.tsch.idleUntil - 1)
  | some a =>
    if s.slotStart a < s.eng.tsch.idleUntil then s.asnAt (s.eng.tsch.idleUntil - 1)
    else
      let b := match s.eng.tsch.passed.find? fun x => decide (x.1 ≤ a ∧ a ≤ x.2) with
        | some x => x.1 - 1
        | none => a
      if s.eng.tsch.runFrom ≤ b then some b else none

/-- TS_RUN becomes 0 (R195): attempts not yet KEYED return, ACKs before their retune instant are not sent. -/
def tsStop (asn : Nat) : Act := .read fun s => acts [
  setTsch fun g => { g with tail := some (g.runFrom, asn) },
  forAll s.eng.tsch.atts fun x =>
    if x.state = 1 then acts [resvReturn x.resv, dropAtt x]
    else onlyIf (x.state == 2) (acts [cancelReq x.port x.req 17, dropAtt x, resvReturn x.resv]),
  forAll (s.eng.tsch.acks.filter fun x => x.state == 0) fun x =>
    acts [setAcks fun l => l.filter (· != x), resvReturn x.resv],
  dropPlanned, wr R.TS_ASN (asn % 2 ^ 40), raise 0x0707 0 (asn % 2 ^ 40)]

/-- The epoch or the slot length is written: slots are numbered afresh, and what was kept by the old numbers counts no more. -/
def epochApplied : Act := setTsch fun g => { g with tail := none, passed := [], tplPast := [], swapAsn := 0, runFrom := 0 }

/-- A template field has changed: cells whose first slot has started keep its old value (R198). DEDUCED: log 143. -/
def tplChanged (s0 : State) (k m : Nat) : Act := .read fun s =>
  match s.asnAt s.devTime with
  | none => .skip
  | some a => onlyIf (s0.rd ⟨0x2030, k, m⟩ != s.rd ⟨0x2030, k, m⟩) (setTsch fun g => { g with
      tplPast := (g.tplPast.filter fun x => decide (a < x.asn + 128)) ++ [⟨k, m, a, s0.rd ⟨0x2030, k, m⟩⟩] })

/-- Device time steps from `old` to its present value (R194): also while the engine is stopped, no slot served is served again.
DEDUCED: log 137. -/
def tsTimeStep (old : Nat) : Act := .read fun s =>
  if old < s.devTime then if s.rd R.TS_RUN = 0 then .skip else match s.asnAt s.devTime with
    | none => .skip
    | some b =>
      let lo := match s.asnAt old with
        | some a => a + 1
        | none => s.rd R.EP_ASN
      let hi := if s.slotStart b < s.devTime then b + 1 else b
      onlyIf (decide (lo < hi)) (acts [raise 0x0706 0 ((hi - lo) % 2 ^ 32),
        setTsch fun g => { g with passed := ((lo, hi - 1) :: g.passed).take 64 }])
  else acts [
    setTsch fun g => { g with tplPast := g.tplPast.map fun x => { x with asn := min x.asn s.asnNow } },
    match if s.rd R.TS_RUN = 1 then s.lastServed old else s.eng.tsch.tail.map (·.2) with
    | some a => setTsch fun g => { g with idleUntil := max g.idleUntil (s.slotStart (a + 1)) }
    | none => .skip]

/-- A bank swap applied (R204, R205). -/
def swapApplied (s0 : State) : Act := .read fun s =>
  if s0.rd R.ST_ACTIVE = s.rd R.ST_ACTIVE then .skip
  else acts [setTsch fun g => { g with swapAsn := s.asnNow, oldBank := s0.rd R.ST_ACTIVE },
    raise 0x0701 (s.rd R.ST_ACTIVE) (s.rd R.ST_ACTIVE + s.asnNow % 2 ^ 40 * 256)]

/-- R204: the first object of a bank that fails a swap to it, judged over `s`. -/
def State.bankFault (s : State) (bank : Nat) : Option Ref :=
  let sfs := (s.objs.filter fun e => e.1.idx == 0x2010 + bank && e.1.mem == 0).map fun e => e.1
  match sfs.find? fun r => s.rd r != 0 && s.rd R.TS_REF_LEN % s.rd r != 0 with
  | some r => some r
  | none => ((s.cells bank).find? fun c =>
      let w := c.2.1
      let l := s.sfLen bank (16 * cellPort w + cellSf w)
      decide (23 < cellPort w) || l == 0 || decide (l < cellOffset w + cellSpan w + 1) || (!(cellTx w) && !(cellRx w)) ||
        (cellAdv w && (!(cellTx w) || cellNode c.2.2 != 0)) ||
        !(modeValid (cellMode c.2.2)) || !(modeInBand (s.rd (R.P_BAND (cellPort w))) (cellMode c.2.2)) ||
        (cellTx w && !(oneRate (cellMode c.2.2)))).map fun c => ⟨0x2100 + bank, c.1, 0⟩

end Sys2Proof.Machine
end

