-- ==== Sys2Proof/Machine/Rx.lean ====
section
/-! DEFINITION. Receive records at the TSCH engine (08_tsch_engine.md R196, R213, R215 to R219; 09_sleepy_nodes.md R226;
13_keys_crypto.md R330). -/

namespace Sys2Proof.Machine

open Sys2Proof

/-- The end of a received frame's last symbol at the antenna plane (R215, R219). -/
def recordEnd (r : RxRecord) : Nat :=
  match r.copy with
  | some c => c.1
  | none => r.tSof + (frameTime r.mode r.len - shrTime r.mode)

/-! ## Acknowledgements received (R213) -/

/-- The frame authenticates with a key of node `n` (R330, R216): by its counter, or by the ASN of its slot. -/
def State.opens (s : State) (key : List Nat) (n : Nat) (f : MacFrame) (tSof : Nat) : Option (List Nat) :=
  let e := s.rd (R.NT_EUI64 n)
  let nonce := match f.fc with
    | some c => nonceFc e c f.level
    | none => beOctets 8 e ++ beOctets 5 ((s.asnAt tSof).getD 0)
  Config.ccmOpen key nonce f.auth f.body (micLen f.level)

/-- An ACK's security, if any, verifies. -/
def verifyAck (n : Nat) (f : MacFrame) (tSof : Nat) (ok no : Act) : Act :=
  if f.level = 0 then ok
  else withLinkKey n (fun k => .read fun s => acts [quickJob 0,
    match s.opens k n f tSof with
    | some _ => ok
    | none => no]) no

/-- R213: the frame is an Enhanced ACK of the node with the sequence number sent; one without source address is the node's when it is
secured, for the node's link key must then open it. DEDUCED: log 65. -/
def State.ackMatches (s : State) (n seq : Nat) (f : MacFrame) : Bool :=
  f.type == 2 && f.ver == 2 && f.seq == seq && (s.isNodeAddr n f.src || (f.src == .absent && f.level != 0))

/-- The value of a Time Correction IE goes, negated, into TCORR; its NACK bit says the frame was not taken. -/
def ackNode (n : Nat) (f : MacFrame) (ok nack : Act) : Act :=
  match f.corr with
  | some (c, true) => acts [setTcorr n (-c), nack]
  | some (c, false) => acts [setTcorr n (-c), ok]
  | none => ok

/-- A record of the lane that waits for an ACK (R212, R213); once its node is removed, no ACK is the node's (R270). -/
def rxAck (r : RxRecord) (req : Nat) (f : Option MacFrame) : Act := .read fun s =>
  let free := forAll (s.boundLanes (.ack req)) unbindLane
  match (s.att? req).filter fun x => x.state == 4 with
  | some x =>
    let n := ((x.pkt.bind s.pkt?).map fun q => q.node).getD 0
    let known := (x.pkt.bind s.pkt?).any fun q => q.node == 0 || s.isEntry q.node q.gen
    let bad := acts [free, attRetry x]
    match f with
    | some g =>
      if r.status = 0 ∧ x.sof ∧ known ∧ s.ackMatches n x.frame.seq g then
        verifyAck n g r.tSof (ackNode n g (acts [free, attAcked x]) bad) bad
      else bad
    | none => bad
  | none =>
    match s.eng.sn.exs.find? fun x => x.req == req && x.step == 3 with
    | none => free
    | some x =>
      let bad := acts [free, onlyIf (x.sent == x.copies) (missEx x)]
      let seq := (((s.pkt? x.pkt).bind fun q => q.mac).map fun m => m.seq).getD 0
      match f with
      | some g =>
        if r.status = 0 ∧ x.sof ∧ s.ackMatches x.node seq g then
          verifyAck x.node g r.tSof (ackNode x.node g
            (acts [free, snAnswered x, snHeard x.node r.tSof r.mode g.csl g.rit, snGoOn x (recordEnd r)]) bad) bad
        else bad
      | none => bad

/-! ## Data and command frames (R217, R218) -/

/-- R217: version, PAN ID and destination. -/
def State.accepts (s : State) (f : MacFrame) : Bool :=
  (f.type == 1 || f.type == 3) && f.ver == 2 &&
    (match f.pan with
      | some p => p == s.rd R.TS_PAN_ID
      | none => true) &&
    (match f.dst with
      | .short a => a == 0xFFFF || (a == s.rd R.TS_SHORT && a != 0xFFFE)
      | .ext e => e == uidOf
      | .absent => false)

/-- The first symbol's slot of a frame on a FIXED lane (R226): the slot whose expected RMARKER lies nearest. -/
def State.nearestSlot (s : State) (r : RxRecord) : Nat :=
  (s.asnAt (r.tSof + s.slotLen / 2 - s.tpl0 tTxOffset - shrTime r.mode)).getD 0

/-- The slot and template a frame is measured against (R196, R226). -/
def State.rxSlot (s : State) (r : RxRecord) : Nat × Nat :=
  match r.bind with
  | .cell id => match s.eng.tsch.wins.find? fun w => w.id == id with
    | some w => (w.asn, w.tmpl)
    | none => (s.nearestSlot r, 0)
  | _ => (s.nearestSlot r, 0)

/-- The frame was received in a cell. -/
def State.inCell (s : State) (r : RxRecord) : Bool :=
  match r.bind with
  | .cell _ => true
  | _ => false

/-- The time correction for the sender, in µs (R196). -/
def State.correction (s : State) (r : RxRecord) : Int :=
  let (a, k) := s.rxSlot r
  let expected : Int := ((s.slotStart a + s.tplAt a k tTxOffset + shrTime r.mode : Nat) : Int)
  max (-2047) (min 2047 (roundDiv (expected - r.tSof) uUs))

/-- The Enhanced ACK of a frame (R215, R216, R226, R227). -/
def State.ackFor (s : State) (r : RxRecord) (f : MacFrame) (node fin : Nat) (fresh : Bool) : AckReq :=
  let delay := if s.inCell r then s.tplAt (s.rxSlot r).1 (s.rxSlot r).2 tTxAckDelay else s.rd R.SN_ACK_DELAY * uUs
  let pend := node != 0 && s.snService node != 0 && !(s.snFrames node).isEmpty
  let a : MacFrame := { blankFrame with
    type := 2
    seq := f.seq
    pend := pend
    pan := some (s.rd R.TS_PAN_ID)
    dst := f.src
    src := .ext uidOf
    level := f.level
    kidx := f.kidx
    corr := some (s.correction r, false) }
  ⟨r.port, r.lane, r.channel, r.mode, node, a, frameTime r.mode (psduLen r.mode a), fin + delay, 0, 0, 0, pend,
    r.copy.map (·.2), fresh⟩

/-- An ACK to the node is already scheduled in the same timeslot (R218). -/
def State.ackScheduled (s : State) (x : AckReq) : Bool :=
  s.eng.tsch.acks.any fun y => y.node == x.node && s.asnAt y.t0 == s.asnAt x.t0

/-- A frame is acknowledged, a Deep Link frame when its instant can still be met; until that ACK has been sent, a surplus copy may be
acknowledged in its place (R215, R219). -/
def acknowledge (r : RxRecord) (f : MacFrame) (node : Nat) (dup : Bool) : Act := .read fun s =>
  let x := s.ackFor r f node (recordEnd r) (!dup)
  if s.rd R.TS_RUN = 0 ∨ ¬ f.ackReq ∨ (dup ∧ s.ackScheduled x) then .skip
  else match r.copy with
    | some (_, tag) => acts [dlAcked r.port tag,
        setTsch fun g => { g with dlAcks := g.dlAcks ++ [⟨r.port, tag, x, x.t0 - recordEnd r⟩] },
        onlyIf (decide (s.devTime + s.keyLead r.port * uNs ≤ x.t0 + 50000 * uNs)) (askAck x)]
    | none => askAck x

/-- The interface identifier of a link-layer address (RFC 6282). -/
def linkIid : Addr → Nat
  | .short a => shortIid a
  | .ext e => iidOf e
  | .absent => 0

/-- A delivered frame goes to its pipeline, with the header IEs that the engine does not handle (R279, R221). -/
def toPipeline (r : RxRecord) (f : MacFrame) (n src : Nat) (payload : List Nat) : Act := .read fun s =>
  let k := r.port / 6
  let m : MeshIn := ⟨n, s.rd (R.NT_GEN n), src, payload, r.port, r.channel, r.rssi, r.lqi, r.tSof, f.ies, linkIid f.src, linkIid f.dst, r.len⟩
  setNodes fun g => { g with input := g.input.set k (g.input.at k [] ++ [m]) }

/-- R218: an authenticated frame from node `n`. -/
def judgeCounter (r : RxRecord) (f : MacFrame) (n fc : Nat) (payload : List Nat) : Act := .read fun s =>
  let stored := s.rd (R.NT_FC n) % 2 ^ 32
  let tag := be ((f.body.drop (f.body.length - micLen f.level)).take 4)
  let p := r.port
  if stored < fc then acts [
    wrFld (R.NT_FC n) 31 0 fc, wr (R.NT_MIC_TAG n) tag, inc (R.RX_DELIVERED p),
    snHeard n r.tSof r.mode f.csl f.rit, toPipeline r f n (s.rd (R.NT_EUI64 n)) payload, acknowledge r f n false]
  else if fc = stored ∧ tag = s.rd (R.NT_MIC_TAG n) then acts [
    inc (R.RX_DUPLICATE p), heardAgain n, snHeard n r.tSof r.mode f.csl f.rit, acknowledge r f n true]
  else acts [inc (R.RX_REPLAY p), raise 0x0705 p (p + n * 256)]

/-- A frame is rejected; a failure of its security counts besides (R217, R330). -/
def reject (p : Nat) : Act := inc (R.RX_REJECTED p)
def rejectSec (p : Nat) : Act := acts [secFail, reject p]

/-- Whether a value opens a frame of node `n`. -/
def State.rollWins (s : State) (n : Nat) (f : MacFrame) (tSof : Nat) : List (Bool × List Nat) → Option (Bool × List Nat)
  | [] => none
  | (staged, v) :: rest => match s.opens v n f tSof with
    | some pl => some (staged, pl)
    | none => s.rollWins n f tSof rest

/-- R330: a secured frame from a node of this device. -/
def rxSecured (r : RxRecord) (f : MacFrame) (n : Nat) : Act := .read fun s =>
  let p := r.port
  match f.fc with
  | none => rejectSec p
  | some fc =>
    if f.level < s.rd R.LS_MIN_LEVEL ∨ f.level < 5 then rejectSec p
    else match f.kidx with
      | none => withLinkKey n (fun k => .read fun s => acts [quickJob 0,
          match s.opens k n f r.tSof with
          | some pl => judgeCounter r f n fc pl
          | none => rejectSec p]) (rejectSec p)
      | some i => match s.netSlot, s.netValues opVerifyCcm i with
        | some slot, v :: vs => acts [quickJob 0, keyStarts slot,
            match s.rollWins n f r.tSof (v :: vs) with
            | some (staged, pl) => acts [onlyIf staged (rollVerified slot n s.asnNow), judgeCounter r f n fc pl]
            | none => rejectSec p]
        | _, _ => rejectSec p

/-! ## Addresses (R287) -/

def ipv6 (hi lo : Nat) : Nat := hi * 2 ^ 64 + lo

/-- The prefix of the mesh, its upper 64 bits. -/
def State.prefix64 (s : State) : Nat := s.rd (R.FW_PREFIX 0)

/-- The IPHC contexts in use: context 0 is FW_PREFIX, 1 to 15 those of Table NODE-9; number, prefix and length. -/
def State.contexts (s : State) : List (Nat × Nat × Nat) :=
  (0, s.prefix64 * 2 ^ 64, 64) :: ((List.range 15).map fun k =>
    (k + 1, s.rd (R.CTX_PREFIX (k + 1) 0) * 2 ^ 64 + s.rd (R.CTX_PREFIX (k + 1) 1), s.rd (R.CTX_LEN (k + 1)))).filter fun x => x.2.2 != 0

/-- The interface identifiers of the device (R287). -/
def State.ownIids (s : State) : List Nat :=
  iidOf uidOf :: (if s.rd R.TS_SHORT = 0xFFFE then [] else [shortIid (s.rd R.TS_SHORT)])

/-- The device's link-local addresses, and all its mesh addresses (R287). -/
def State.ownLocals (s : State) : List Nat := s.ownIids.map (ipv6 0xFE80000000000000)
def State.ownAddrs (s : State) : List Nat := s.ownLocals ++ (if s.prefix64 = 0 then [] else s.ownIids.map (ipv6 s.prefix64))

/-! ## Records -/

/-- The join message that an unsecured data frame carries: its IPv6 packet (R339). DEDUCED: log 83. -/
def State.joinPacket (s : State) (f : MacFrame) : Option (List Nat) :=
  match f.type, f.src, lowpanRead ⟨s.contexts, linkIid f.src, linkIid f.dst⟩ f.body with
  | 1, .ext e, .packet o =>
    if ipSrc o = ipv6 0xFE80000000000000 (iidOf e) ∧ s.ownLocals.contains (ipDst o) ∧ udpPort o = some (s.rd R.J_PORT) then some o else none
  | _, _, _ => none

/-- RX_RECORD: the oldest record of a tile reaches the engine, with the frame the standard reads in its octets, and whether a peer's partition holds a source that this device does not know (R283). -/
def rxRecord (tile : Nat) (f : Option MacFrame) (foreign : Bool) : Act := .read fun s =>
  match s.eng.lane.queues.at tile [] with
  | [] => .skip
  | r :: rest => .seq (setLaneEng fun g => { g with queues := if rest.isEmpty then g.queues.clear tile else g.queues.set tile rest })
    (match r.bind with
    | .ack req => rxAck r req f
    | _ =>
      if r.status ≠ 0 then .skip
      else match f with
        | none => reject r.port
        | some g =>
          if g.type = 2 then
            match s.eng.sn.exs.find? fun x => x.port == r.port && x.chan == r.channel && x.step == 3 &&
                decide (r.tSof + 8000 * uNs ≤ x.edge) with
            | some x => acts [setEx { x with sof := true }, rxAck r x.req f]
            | none => reject r.port
          else if !(s.accepts g) then reject r.port
          else if g.level = 0 then
            match s.joinPacket g with
            | some o => acts [note (.joinRx r g o), acknowledge r g 0 false]
            | none => rejectSec r.port
          else match g.src with
            | .ext e => find (r.port / 6) 0 e fun found => match found with
                | .here n => rxSecured r g n
                | .there _ _ _ => inc (R.PL_FOREIGN (r.port / 6))
                | .miss => if foreign then inc (R.PL_FOREIGN (r.port / 6)) else rejectSec r.port
            | _ => reject r.port)

/-- DL_SURPLUS_REPORT (R219): the first surplus copy of a frame not yet acknowledged is acknowledged, not while TS_RUN is 0 (R195). -/
def surplusReport : Act := .read fun s =>
  match s.eng.dl.surplus with
  | [] => .skip
  | (_, c) :: rest => acts [setDl fun d => { d with surplus := rest },
      match s.eng.tsch.dlAcks.find? fun y => y.port == c.port && y.tag == dlTag c.hdr with
      | none => .skip
      | some y =>
        let waits := s.eng.tsch.acks.any fun x => x.port == y.port && x.dl == some y.tag
        onlyIf (s.rd R.TS_RUN == 1 && !waits) (askAck { y.ack with t0 := dlCopyEnd c + y.delay })]

end Sys2Proof.Machine
end

