-- ==== Sys2Proof/Machine/HostFifo.lean ====
section
/-! DEFINITION. The host FIFOs and rings (19_processors_memory.md R442 to R448). -/

namespace Sys2Proof.Machine

open Sys2Proof

def setHost (f : HostEng → HostEng) : Act := eng fun e => { e with host := f e.host }

def toHostRest : ToHost := ⟨[], 0, 0, 0⟩
def fromHostRest : FromHost := ⟨[], none, none, []⟩

def State.toHost (s : State) (f : Nat) : ToHost := s.eng.host.out.at f toHostRest
def State.fromHost (s : State) (f : Nat) : FromHost := s.eng.host.inp.at f fromHostRest

/-! ## The packet form (R442, Tables CPU-7 and CPU-9) -/

/-- The idle item. -/
def idleItem : Nat := 0xFFFF000000000000

/-- The items of a to-host packet. -/
def hostItems (p : Pkt) : List Nat :=
  let t := t112 p.time
  [(4 + cdiv p.octets.length 8 - 1) * 65536 + p.octets.length,
    p.source * 2 ^ 60 + p.port * 2 ^ 55 + p.srcNode * 2 ^ 32] ++ (if p.time = 0 then [0, 0] else t) ++
    (octetsToWords p.octets).map BitVec.toNat

/-- The items of a packet, its length word included. -/
def itemCount (p : Pkt) : Nat := 4 + cdiv p.octets.length 8

/-- The packet at the head of a to-host FIFO. -/
def State.headItems (s : State) (f : Nat) : List Nat :=
  match (s.toHost f).pkts.head?.bind s.pkt? with
  | some p => hostItems p
  | none => []

/-- HF_ITEMS and HF_PKTS of a to-host FIFO. -/
def countOut (f : Nat) : Act := .read fun s =>
  let x := s.toHost f
  let n := ((x.pkts.filterMap s.pkt?).map itemCount).foldl (· + ·) 0
  acts [wr (R.HF_ITEMS f) (n - x.pos), wr (R.HF_PKTS f) x.pkts.length]

/-- The items a from-host FIFO holds, the open packet and its length slot included. -/
def State.heldItems (s : State) (f : Nat) : Nat :=
  let x := s.fromHost f
  ((x.pkts.map fun p => p.2.length + 1).foldl (· + ·) 0) + match x.cur with
    | some l => l.length + 1
    | none => 0

/-- The packet-buffer cells a from-host FIFO holds: 32 items to a cell, each packet in cells of its own. -/
def fromCells (x : FromHost) : Nat :=
  ((x.pkts.map fun p => cdiv (p.2.length + 1) 32).foldl (· + ·) 0) + match x.cur with
    | some l => cdiv (l.length + 1) 32
    | none => 0

/-- A from-host FIFO takes a new content: its cells and HF_ITEMS follow. -/
def setFrom (f : Nat) (x : FromHost) : Act := .read fun s => acts [
  wr R.TM_FREE (s.rd R.TM_FREE + fromCells (s.fromHost f) - fromCells x),
  setHost fun g => { g with inp := if x = fromHostRest then g.inp.clear f else g.inp.set f x },
  .read fun s => wr (R.HF_ITEMS (32 + f)) (s.heldItems f)]

def setOut (f : Nat) (x : ToHost) : Act := acts [
  setHost fun g => { g with out := if x = toHostRest then g.out.clear f else g.out.set f x }, countOut f]

/-! ## To the host (R444, R447) -/

/-- The FIFO notice fires. -/
def hostNotice (f : Nat) : Act := .read fun s => acts [setOut f { s.toHost f with fresh := 0 }, edge (128 + f)]

/-- A packet has become complete: the notice is coalesced. In RING mode the packets count that have not been signalled yet.
DEDUCED: log 187. -/
def noticeOne (f : Nat) : Act := .read fun s =>
  let x := s.toHost f
  let n := x.fresh + 1
  acts [setOut f { x with fresh := n, since := if x.fresh = 0 then s.now else x.since },
    if s.rd (R.HF_NOTICE_PKTS f) ≤ (if s.rd (R.HF_MODE f) = 1 then x.pkts.length else n) ∨ s.rd (R.HF_NOTICE_NS f) = 0 then hostNotice f else .skip]

/-- HF_NOTICE_TIMER. -/
def noticeTimer (f : Nat) : Act := .read fun s =>
  let x := s.toHost f
  onlyIf (decide (0 < x.fresh) && decide (x.since + s.rd (R.HF_NOTICE_NS f) ≤ s.now)) (hostNotice f)

/-- The bus address of the slot of a ring index (R447). -/
def State.ringSlot (s : State) (i idx : Nat) : Nat := s.rd (R.HR_BASE i) + 8 * (idx % s.rd (R.HR_ITEMS i))

/-- The writes of a packet's items at a ring index: the descriptor and data items, then the length word into the first slot. -/
def State.ringWrites (s : State) (i idx : Nat) (items : List Nat) : List (Nat × Nat) :=
  let l := items.zipIdx.map fun x => (s.ringSlot i (idx + x.2), x.1)
  l.drop 1 ++ l.take 1

/-- A to-host ring in host memory takes every packet it has room for (R447). -/
def ringOut (f : Nat) : Nat → Act
  | 0 => .skip
  | fuel + 1 => .read fun s =>
    let x := s.toHost f
    match x.pkts with
    | [] => .skip
    | i :: rest =>
      let items := s.headItems f
      let dev := s.rd (R.HR_DEV_IDX f)
      let used := (dev + 2 ^ 32 - s.rd (R.HR_HOST_IDX f)) % 2 ^ 32
      if s.rd (R.HF_MODE f) = 2 ∧ s.rd (R.HR_STATE f) = 1 ∧ used + items.length ≤ s.rd (R.HR_ITEMS f) then
        let new := (dev + items.length) % 2 ^ 32
        acts [emit (.ring f (s.ringWrites f dev items)), wr (R.HR_DEV_IDX f) new, emit (.ringIdx f (s.rd (R.HR_IDX_ADDR f)) new),
          setOut f { x with pkts := rest }, freePkt i, countOut f, noticeOne f, ringOut f fuel]
      else .skip

def pumpOut (f : Nat) : Act := .read fun s => ringOut f (s.toHost f).pkts.length

/-- A packet released to a to-host FIFO (R301, R444). -/
def toFifo (f i : Nat) : Act := .read fun s =>
  if s.rd (R.HF_MODE f) = 0 then acts [freePkt i, inc (R.HF_DISCARD f), raiseMs 0 0x0387 f f]
  else acts [setOut f { s.toHost f with pkts := (s.toHost f).pkts ++ [i] },
    if s.rd (R.HF_MODE f) = 1 then noticeOne f else pumpOut f]

/-- A FIFO has room for the whole packet. -/
def State.fifoRoom (s : State) (f i : Nat) : Bool :=
  match s.pkt? i with
  | some p => s.rd (R.HF_MODE f) == 0 || decide (s.rd (R.HF_ITEMS f) + itemCount p ≤ s.rd (R.HF_DEPTH f))
  | none => false

/-- HOST_RELEASE: the head of a queue of KIND HOST goes to FIFO TARGET once that has room for it (R301). -/
def hostRelease (q : Nat) : Act := .seq refillsDue <| .read fun s =>
  let f := s.qTarget q
  match s.queue q with
  | [] => .skip
  | i :: _ => onlyIf (s.qKind q == 3 && s.shaperOk q && s.fifoRoom f i)
      (acts [popHead q (((s.pkt? i).map fun p => p.octets.length).getD 0), toFifo f i])

/-- A read of HF_POP (R444): the item, and the read's effect. -/
def State.popItem (s : State) (f : Nat) : Nat := ((s.headItems f)[(s.toHost f).pos]?).getD idleItem

def popFifo (f : Nat) : Act := .read fun s =>
  let x := s.toHost f
  match x.pkts with
  | [] => .skip
  | i :: rest =>
    if (s.headItems f).length ≤ x.pos + 1 then acts [setOut f { x with pkts := rest, pos := 0 }, freePkt i, countOut f]
    else setOut f { x with pos := x.pos + 1 }

/-! ## From the host (R445, R446) -/

/-- A protocol error: counted, with its event. -/
def protoError (f : Nat) : Act := acts [inc (R.HF_PROTO (32 + f)), raiseMs 0 0x0384 (32 + f) (32 + f)]

/-- The FIFO has room for one more item, in a cell it has or can take (R446). -/
def State.roomForItem (s : State) (f : Nat) : Bool :=
  let n := match (s.fromHost f).cur with
    | some l => l.length + 1
    | none => 0
  decide (s.heldItems f < s.rd (R.HF_DEPTH (32 + f))) && (n % 32 != 0 || decide (0 < s.rd R.TM_FREE))

/-- One item enters the open packet, or opens one. -/
def takeItem (f mem v : Nat) : Act := .read fun s =>
  let x := s.fromHost f
  if mem = 0 then setFrom f { x with cur := some [] }
  else match x.cur with
    | some l => setFrom f { x with cur := some (l ++ [v]) }
    | none => .skip

/-- The outcome of an access is sent to its maker. -/
def answer (w : Who) (status : Nat) (vals : List Word) : Act :=
  match w with
  | .dev => .skip
  | _ => emit (.acc w status vals)

/-- A write to HF_START or HF_DATA: its effect, a protocol error, or a held handshake. -/
def pushItem (w : Who) (f mem v : Nat) : Act := .read fun s =>
  let x := s.fromHost f
  if s.rd (R.HF_MODE (32 + f)) ≠ 1 then answer w 0x04 []
  else if (mem = 0 ∧ x.cur.isSome) ∨ (mem = 1 ∧ x.cur.isNone) then acts [protoError f, answer w 0x06 []]
  else if s.roomForItem f ∧ x.held.isNone then acts [takeItem f mem v, answer w 0 []]
  else setFrom f { x with held := some ⟨w, mem, v, s.now⟩ }

/-- A push whose handshake has been withheld for 2^20 SCLK cycles ends with an error response (R446). -/
def pushStalls (f : Nat) (h : HeldWrite) : Act := .read fun s =>
  acts [setFrom f { s.fromHost f with held := none }, inc (R.HF_STALL_TO (32 + f)), raiseMs 0 0x0383 (32 + f) (32 + f),
    answer h.who 0x08 []]

/-- HF_HELD_WRITE_DONE (R446); too late for a push that has been held for 2^20 cycles. -/
def heldDone (f : Nat) : Act := .read fun s =>
  let x := s.fromHost f
  match x.held with
  | none => .skip
  | some h =>
    if h.since + 2 ^ 20 ≤ s.now then pushStalls f h
    else onlyIf (s.roomForItem f) (acts [setFrom f { x with held := none }, takeItem f h.mem h.val, answer h.who 0 []])

/-- HF_STALL_TIMEOUT (R446). -/
def stallTimeout (f : Nat) : Act := .read fun s =>
  match (s.fromHost f).held with
  | none => .skip
  | some h => onlyIf (decide (h.since + 2 ^ 20 ≤ s.now) && !(s.roomForItem f)) (pushStalls f h)

/-- The length word agrees with the items (R442, R445). -/
def lengthWordOk (w : Nat) (items : Nat) : Bool :=
  fld w 63 32 == 0 && decide (fld w 15 0 ≤ 9216) && fld w 31 16 == items && items == 2 + cdiv (fld w 15 0) 8

/-- A write to HF_END (R445). -/
def endPacket (w : Who) (f v : Nat) : Act := .read fun s =>
  let x := s.fromHost f
  if s.rd (R.HF_MODE (32 + f)) ≠ 1 then answer w 0x04 []
  else match x.cur with
    | none => acts [protoError f, answer w 0x06 []]
    | some l =>
      if lengthWordOk v l.length then
        acts [setFrom f { x with cur := none, pkts := x.pkts ++ [(fld v 15 0, l)] }, answer w 0 []]
      else acts [setFrom f { x with cur := none }, protoError f, answer w 0x06 []]

/-- A write to HF_ABORT. -/
def abortPacket (f : Nat) : Act := .read fun s => setFrom f { s.fromHost f with cur := none }

/-- What a from-host ring has read of packets it has not taken is dropped: HR_CMD 1 reads it again from the indexes (R447). -/
def dropRead (i : Nat) : Act := .read fun s =>
  onlyIf (decide (32 ≤ i) && !(s.fromHost (i - 32)).ring.isEmpty) (setFrom (i - 32) { s.fromHost (i - 32) with ring := [] })

/-- A ring of a FIFO stops with an error (R447): 0 protocol, 1 bus error. -/
def ringError (i bus : Nat) : Act := acts [wr (R.HR_STATE i) 2, dropRead i, raise 0x0385 i (i + bus * 256)]

/-- A from-host ring: packets whose slots are exposed are read while the FIFO has room. -/
def ringIn (f : Nat) : Nat → Act
  | 0 => .skip
  | fuel + 1 => .read fun s =>
    let x := s.fromHost f
    match x.ring with
    | [] => .skip
    | w :: rest =>
      let n := fld w 31 16
      if s.rd (R.HF_MODE (32 + f)) ≠ 2 ∨ s.rd (R.HR_STATE (32 + f)) ≠ 1 then .skip
      else if rest.length < n ∨ ¬ lengthWordOk w n then
        acts [inc (R.HF_PROTO (32 + f)), ringError (32 + f) 0]
      else if s.rd (R.HF_DEPTH (32 + f)) < s.heldItems f + n + 1 ∨ s.rd R.TM_FREE < cdiv (n + 1) 32 then .skip
      else acts [setFrom f { x with ring := rest.drop n, pkts := x.pkts ++ [(fld w 15 0, rest.take n)] }, ringIn f fuel]

/-- Open values, as many as are asked for. -/
def takeFrees : Nat → (List Nat → Act) → Act
  | 0, k => k []
  | n + 1, k => takeFree fun v => takeFrees n fun l => k (v :: l)

/-- The device reads words of host memory: those the outside has placed, and open values where it has said nothing.
DESIGN CHOICE: log 28. -/
def hostWords (n : Nat) (k : List Nat → Act) : Act := .read fun s =>
  let got := (s.eng.host.bus.take n).map BitVec.toNat
  acts [setHost fun g => { g with bus := g.bus.drop n }, takeFrees (n - got.length) fun l => k (got ++ l)]

/-- The index of the next word of a from-host ring to read: past the packets and words the device holds. -/
def State.ringNext (s : State) (f : Nat) : Nat :=
  let x := s.fromHost f
  (s.rd (R.HR_DEV_IDX (32 + f)) + (x.pkts.map fun p => p.2.length + 1).sum + x.ring.length) % 2 ^ 32

/-- The exposed words of a from-host ring that the device has not read: those below HR_HOST_IDX. -/
def State.ringUnread (s : State) (f : Nat) : Nat :=
  min (s.rd (R.HR_ITEMS (32 + f))) ((s.rd (R.HR_HOST_IDX (32 + f)) + 2 ^ 32 - s.ringNext f) % 2 ^ 32)

/-- A running ring goes on: a to-host ring writes what fits, a from-host ring reads the words that are exposed, or meets a bus error
(R447). -/
def ringRuns (i : Nat) : Act := .read fun s =>
  if s.rd (R.HF_MODE i) ≠ 2 ∨ s.rd (R.HR_STATE i) ≠ 1 then .skip
  else if i < 32 then pumpOut i
  else if s.eng.host.busBad then acts [setHost fun g => { g with busBad := false }, ringError i 1]
  else .seq (emit (.ringRead i ((List.range (s.ringUnread (i - 32))).map fun k => s.ringSlot i (s.ringNext (i - 32) + k)))) <|
    hostWords (s.ringUnread (i - 32)) fun words => .read fun s => acts [
    setFrom (i - 32) { s.fromHost (i - 32) with ring := (s.fromHost (i - 32)).ring ++ words },
    ringIn (i - 32) ((s.fromHost (i - 32)).ring.length + words.length + 1)]

/-- The pipeline has taken the oldest packet of a from-host FIFO. -/
def fromTaken (f : Nat) : Act := .read fun s =>
  let x := s.fromHost f
  match x.pkts with
  | [] => .skip
  | p :: rest => acts [setFrom f { x with pkts := rest },
      onlyIf (s.rd (R.HF_MODE (32 + f)) == 2) (.read fun s =>
        let new := (s.rd (R.HR_DEV_IDX (32 + f)) + p.2.length + 1) % 2 ^ 32
        acts [wr (R.HR_DEV_IDX (32 + f)) new, emit (.ringIdx (32 + f) (s.rd (R.HR_IDX_ADDR (32 + f))) new)]),
      ringIn f (x.ring.length + 1)]

/-- HR_CMD 1 (R447). -/
def ringStart (i : Nat) : Act := .read fun s =>
  onlyIf (s.rd (R.HF_MODE i) == 2) (acts [wr (R.HR_STATE i) 1, ringRuns i])

/-- RING_BUS_ERROR (R447). -/
def ringBusError (i : Nat) : Act := .read fun s => onlyIf (s.rd (R.HR_STATE i) == 1) (ringError i 1)

/-- Every ring stops (R447, R450). -/
def stopRings : Act := .read fun s =>
  forAll ((List.range 64).filter fun i => s.rd (R.HR_STATE i) != 0) fun i => acts [wr (R.HR_STATE i) 0, dropRead i]

/-- A FIFO is emptied and its cells return (R448); a write that holds its handshake ends. DEDUCED: log 105. -/
def emptyFifo (i : Nat) : Act := .read fun s =>
  if i < 32 then acts [freeAll (s.toHost i).pkts, setOut i toHostRest]
  else acts [setFrom (i - 32) fromHostRest, match (s.fromHost (i - 32)).held with
    | some h => answer h.who 0x04 []
    | none => .skip]

def emptyFifos : Act := .read fun s => acts [forAll (s.eng.host.out.map (·.1)) emptyFifo,
  forAll (s.eng.host.inp.map (·.1)) fun f => emptyFifo (32 + f)]

/-- HF_MODE takes a value (R448). DEDUCED: log 105. -/
def fifoMode (i : Nat) : Act := .read fun s => onlyIf (s.rd (R.HF_MODE i) == 0) (acts [emptyFifo i, wr (R.HR_STATE i) 0])

end Sys2Proof.Machine
end

