-- ==== Sys2Proof/Machine/Forward.lean ====
section
/-! DEFINITION. The forwarding pipelines and the releases to the mesh and the fabric (11_node_table_forwarding.md R279,
R283 to R292; 12_queues_shaping_policing.md R296, R301, R310; 19_processors_memory.md R442). -/

namespace Sys2Proof.Machine

open Sys2Proof

/-! ## Addresses (R287) -/

def State.inPrefix (s : State) (a : Nat) : Bool := s.prefix64 != 0 && a / 2 ^ 64 == s.prefix64

/-! ## To the host -/

/-- A packet goes to host FIFO `f` with its descriptor fields (R296, Table CPU-9). -/
def sendHost (f source port node time : Nat) (octets : List Nat) : Act :=
  allocPkt { blankPkt with form := .host, octets := octets, source := source, port := port, srcNode := node, time := time }
    (fun i => toQueue (4064 + f) 3 [i]) .skip

/-- A frame for the device belongs to no node group (R296): a charge of its reassembly is released. -/
def leaveGroup (i : Nat) : Act := .read fun s =>
  match s.pkt? i with
  | none => .skip
  | some p => acts [
      match p.charged, p.group with
      | true, some g => acts [subFrom (R.NG_BUF_HELD g) p.cells, judgeNodeBuf g]
      | _, _ => .skip,
      updPkt i fun p => { p with group := none, charged := false }]

/-- A stored packet goes to host FIFO `f`. -/
def moveHost (f source i : Nat) : Act :=
  acts [leaveGroup i, updPkt i fun p => { p with form := .host, source := source }, toQueue (4064 + f) 3 [i]]

/-! ## Downlink (R289 to R292) -/

/-- The SRH-6LoRH headers of the hops after the first (R291): the type of a hop's encoding and its octets. -/
def State.hopCode (s : State) (n : Nat) : Nat × List Nat :=
  let iid := s.rd (R.NT_IID n)
  if s.prefix64 ≠ 0 ∧ iid / 2 ^ 16 = 0x000000FFFE00 then (1, beOctets 2 (iid % 2 ^ 16))
  else if s.prefix64 ≠ 0 then (3, beOctets 8 iid)
  else (4, beOctets 16 (ipv6 s.prefix64 iid))

/-- Consecutive hops of one type share a header, up to 16 hops. -/
def srhHeaders : Nat → List (Nat × List Nat) → List (List Nat)
  | 0, _ => []
  | _, [] => []
  | fuel + 1, (t, o) :: rest =>
    let same := ((t, o) :: rest).takeWhile fun h => h.1 == t
    let hdr := same.take 16
    ([0x80 + (hdr.length - 1), t] ++ hdr.flatMap (·.2)) :: srhHeaders fuel (((t, o) :: rest).drop hdr.length)

/-- The 6LoRH headers of a route: RPI and source route (R291). -/
def State.routeHeaders (s : State) (hops : List Nat) : List Nat :=
  Config.rpi (s.rd R.FW_INSTANCE) (s.rd R.FW_ROOT_RANK) ++
    (srhHeaders 64 ((hops.drop 1).map s.hopCode)).flatten

/-- The mode of the link to a neighbour: that of its SN_LINK, or of the first TX cell that serves it. -/
def State.linkMode (s : State) (n : Nat) : Nat :=
  if s.snService n ≠ 0 then s.snMode n
  else
    let cs := (s.cells (s.rd R.ST_ACTIVE)).filter fun c => cellTx c.2.1
    match cs.find? fun c => cellNode c.2.2 == n with
    | some c => cellMode c.2.2
    | none => match cs.find? fun c => cellShared c.2.1 with
      | some c => cellMode c.2.2
      | none => 4 * 2 ^ 60

/-- The largest PSDU of a mode (R174, R558). -/
def largestPsdu (mode : Nat) : Nat := familyMaximum mode

/-- Frames are stored one after the other, or none when the buffer has no cells for one of them. -/
def allocAll : List Pkt → List Nat → (List Nat → Act) → Act
  | [], ids, ok => ok ids
  | p :: rest, ids, ok => allocPkt p (fun i => allocAll rest (ids ++ [i]) ok) (freeAll ids)

/-- The address of a node under the prefix of the mesh. -/
def State.nodeIp (s : State) (n : Nat) : Nat := ipv6 s.prefix64 (s.rd (R.NT_IID n))

/-- An IPv6 packet with another destination: the first hop's (R291). -/
def withDst (a : Nat) (o : List Nat) : List Nat := o.take 24 ++ beOctets 16 a ++ o.drop 40

/-- A packet of pipeline `k` is sent to node `n` by its route (R290 to R292), into queue `q`. DEDUCED: log 76. -/
def sendVia (k n q i : Nat) : Act := .read fun s =>
  match s.pkt? i, s.route n with
  | none, _ => .skip
  | some p, none => acts [freePkt i, inc (R.PL_NO_ROUTE k), raiseMs 0 0x0A03 n (n * 256)]
  | some p, some hops =>
    let h := hops.headD n
    let mode := s.linkMode h
    let o := withDst (s.nodeIp h) p.octets
    let packed := Config.iphc s.contexts (s.routeHeaders hops) o
    let room := largestPsdu mode - psduLen mode (s.unicastFrame h [])
    let bodies := if packed.length ≤ room then [packed] else Config.fragments o packed s.eng.nodes.dgram room
    let frame (k : Nat) (b : List Nat) : Pkt := { blankPkt with
      form := .mesh, octets := b, mac := some { s.unicastFrame h b with seq := (s.eng.q.nextPkt + k) % 256 }
      node := h, gen := s.rd (R.NT_GEN h), group := some (s.nodeGroup n), colour := p.colour
      tsId := if k = 0 then p.tsId else none, dgram := s.eng.nodes.dgram, camp := p.camp }
    acts [freePkt i, setNodes fun g => { g with dgram := (g.dgram + 1) % 65536 },
      allocAll (bodies.zipIdx.map fun b => frame b.2 b.1) [] fun ids => toQueue q 2 ids]

/-- A packet is sent to node `n` in its flow class (R296). -/
def sendNode (k n fc i : Nat) : Act := .read fun s => sendVia k n (s.rd (R.FC_QUEUE fc)) i

/-- A packet for a node of a peer enters the queue of its link (R284, R296); one whose owner is unreachable is dropped (R427).
DEDUCED: log 73. -/
def sendPeer (dev n gen i : Nat) : Act := .read fun s =>
  let path := s.rd (R.FR_PATH dev)
  acts [updPkt i fun p => { p with node := n, gen := gen, port := p.port, srcNode := dev },
    if bit? path 15 then toQueue (4056 + fld path 2 0) 4 [i] else acts [inc R.FB_UNREACH, freePkt i]]

/-- A packet that resolves to no node (R289). -/
def noNode (k i : Nat) : Act := acts [inc (R.PL_NO_NODE k), freePkt i]

/-- A lookup goes to every peer (R284). -/
def askPeers (k key fc i : Nat) : Act := .read fun s =>
  let id := s.eng.nodes.nextRemote
  acts [inc (R.PL_REMOTE k),
    setNodes fun g => { g with remotes := g.remotes ++ [⟨id, k, key, i, fc, s.peers, s.now⟩], nextRemote := id + 1 },
    forAll s.peers fun d => fabAsk d 0x12 1 [key] id]

/-- A stored packet is a downlink packet of pipeline `k` (R289). DEDUCED: log 73. -/
def downlink (k fc i : Nat) : Act := .read fun s =>
  match s.pkt? i with
  | none => .skip
  | some p =>
    let dst := ipDst p.octets
    acts [inc (R.PL_DOWN k),
      if ipVer p.octets ≠ 6 ∨ ¬ s.inPrefix dst ∨ 1280 < p.octets.length then
        acts [inc (R.PL_EXCEPTION k), moveHost (s.rd R.FW_EXC_FIFO) 1 i]
      else find k 1 (dst % 2 ^ 64) fun found => .read fun s => match found with
        | .here n => if s.joined n then sendNode k n fc i else noNode k i
        | .there dev n gen => sendPeer dev n gen i
        | .miss => if s.peers.isEmpty then noNode k i else askPeers k (dst % 2 ^ 64) fc i]

/-- A frame from a peer names its node (R281, R284). -/
def fromPeer (k fc n gen i : Nat) : Act := .read fun s =>
  match s.pkt? i with
  | none => .skip
  | some p =>
    let key := ipDst p.octets % 2 ^ 64
    if s.nodeState n ≠ 0 ∧ s.rd (R.NT_GEN n) = gen ∧ s.rd (R.NT_IID n) = key then
      acts [inc (R.PL_DOWN k), if s.joined n then sendNode k n fc i else noNode k i]
    else acts [inc (R.PL_STALE_CACHE k), invalidate [(1, key)], freePkt i]

/-- Frames leave a pipeline in order: while one waits for the answers of peers, those behind it wait too (R279).
DEDUCED: log 203. -/
def State.pipeFree (s : State) (k : Nat) : Bool := !(s.eng.nodes.remotes.any fun r => r.pipe == k)

/-- PIPELINE_DOWNLINK: the next packet that waits for the pipeline. -/
def pipelineDown (k : Nat) : Act := .read fun s => onlyIf (s.pipeFree k) <|
  match s.eng.nodes.down.at k [] with
  | [] => .skip
  | x :: rest => acts [
      setNodes fun g => { g with down := if rest.isEmpty then g.down.clear k else g.down.set k rest },
      match x.peer with
      | some (n, gen) => fromPeer k x.fc n gen x.pkt
      | none => downlink k x.fc x.pkt]

/-- The pipeline of a packet by its destination (R279). -/
def pipeOf (o : List Nat) : Nat := if ipVer o = 6 then o.getD 39 0 % 4 else 0

/-- A packet waits for its pipeline. -/
def toPipe (fc : Nat) (peer : Option (Nat × Nat)) (o : List Nat) (i : Nat) : Act := setNodes fun g =>
  { g with down := g.down.set (pipeOf o) (g.down.at (pipeOf o) [] ++ [⟨i, fc, peer⟩]) }

/-! ## Remote lookups (R284) -/

def dropRemote (id : Nat) : Act := setNodes fun g => { g with remotes := g.remotes.filter fun r => r.id != id }

/-- A peer's answer to LOOKUP. -/
def lookupAnswered (id dev arg : Nat) : Act := .read fun s =>
  match s.eng.nodes.remotes.find? fun r => r.id == id with
  | none => .skip
  | some r =>
    if bit? arg 63 then acts [dropRemote id, learn r.pipe ⟨1, r.key, fld arg 22 0, fld arg 30 23, dev⟩,
      sendPeer dev (fld arg 22 0) (fld arg 30 23) r.pkt]
    else
      let w := r.waiting.filter (· != dev)
      if w.isEmpty then acts [dropRemote id, noNode r.pipe r.pkt]
      else setNodes fun g => { g with remotes := g.remotes.map fun x => if x.id = id then { x with waiting := w } else x }

/-- NT_REMOTE_TIMEOUT (R284): the oldest lookup of pipeline `k` passes NT_REMOTE_WAIT. -/
def remoteTimeout (k : Nat) : Act := .read fun s =>
  match s.eng.nodes.remotes.find? fun r => r.pipe == k && decide (r.since + s.rd R.NT_REMOTE_WAIT * 1000 ≤ s.now) with
  | none => .skip
  | some r => acts [dropRemote r.id, inc (R.PL_REMOTE_TIMEOUT k), raise 0x0A05 k k, noNode k r.pkt]

/-- What this device answers a LOOKUP (Table FAB-4). -/
def State.lookupReply (s : State) (t key : Nat) : Nat :=
  match s.lookup t key with
  | some n => if s.nodeState n = 0 then 0 else 2 ^ 63 + s.rd (R.NT_GEN n) * 2 ^ 23 + n
  | none => 0

/-! ## Uplink (R286, R288) -/

/-- A packet of a mesh node goes to the backhaul: meter and queue of its group (R296, R305). -/
def uplinkOut (n i : Nat) : Act := .read fun s =>
  let g := s.nodeGroup n
  match s.pkt? i with
  | none => .skip
  | some p => meterPkt (s.rd (R.NG_METER g)) p.octets.length 0 i (toQueue (s.rd (R.NG_QUEUE g)) 1 [i])

/-- The octets of the UDP datagram an IPv6 packet carries. -/
def udpBody (o : List Nat) : List Nat := o.drop 48

/-- A datagram for the device that a service of its own takes (R71; 14_join_attestation.md R339; 15_node_image_campaigns.md
R364): a RELAY goes to the join queue; the DDP agent and the campaign service take theirs here, and their commands carry it. -/
def toService (n i len : Nat) (o : List Nat) : Act := .read fun s =>
  match udpPort o with
  | some p =>
    if p = s.rd R.J_PORT then
      if s.rd R.J_RELAY_EN = 1 ∧ (udpBody o).getD 1 0 = 0x10 then
        acts [leaveGroup i, updPkt i fun x => { x with form := .join, source := 5, srcNode := n },
          meterPkt (s.rd R.JQ_METER) len 0 i (toQueue (s.rd R.JQ_QUEUE) 3 [i])]
      else freePkt i
    else if (p = s.rd R.UDP_PORT ∧ s.rd R.MESH_EN = 1) ∨ p = s.rd R.CA_UDP then freePkt i
    else moveHost (s.rd R.FW_CTRL_FIFO) 0 i
  | none => moveHost (s.rd R.FW_CTRL_FIFO) 0 i

/-- A stored packet belongs to a node group: the charge that its reassembly made to another one is released (R286, R298). -/
def regroup (i g : Nat) : Act := .read fun s =>
  acts [onlyIf ((s.pkt? i).any fun p => p.group != some g) (leaveGroup i), updPkt i fun p => { p with group := some g }]

/-- The inner packet of a mesh source is judged (R286). Its flow class is that of eth 0, as it came through no Ethernet port (R296).
DESIGN CHOICE: log 204. -/
def judgeUplink (k : Nat) (m : MeshIn) (whole : List Nat) (i : Nat) : Act := .read fun s =>
  let o := innerPacket s.ownAddrs 8 whole
  let src := ipSrc o
  let dst := ipDst o
  if ¬ s.inPrefix src then noNode k i
  else find k 1 (src % 2 ^ 64) fun found => .read fun s => match found with
    | .here n =>
      if ¬ s.joined n then noNode k i
      else acts [onlyIf (n != m.node) (heardAgain n),
        regroup i (s.nodeGroup n),
        updPkt i fun p => { p with octets := o, source := 0, port := m.port, srcNode := n, time := m.time },
        if s.ownAddrs.contains dst then
          toService n i m.len o
        else if s.inPrefix dst then downlink k (s.flowClass 0 o) i
        else uplinkOut n i]
    | _ => noNode k i

/-- A whole packet of a mesh frame is stored and judged. -/
def uplinkPacket (k : Nat) (m : MeshIn) (o : List Nat) : Act := .read fun s =>
  allocPkt { blankPkt with octets := o, group := some (s.nodeGroup m.node) } (fun i => judgeUplink k m o i) .skip

def reasmKey (src tag size : Nat) (r : Reasm) : Bool := r.src == src && r.tag == tag && r.size == size

def setReasms (f : List Reasm → List Reasm) : Act := setNodes fun g => { g with reasms := f g.reasms }

/-- A fragment joins its reassembly, whichever pipeline opened it, opens one, or is dropped (R286). DEDUCED: log 184. -/
def addFragment (k : Nat) (m : MeshIn) (tag size off : Nat) (data : List Nat) : Act := .read fun s =>
  let judge (m : MeshIn) (parts : List (Nat × List Nat)) (i : Nat) : Act :=
    acts [updPkt i fun p => { p with octets := assembled size parts }, judgeUplink k m (assembled size parts) i]
  match s.eng.nodes.reasms.find? (reasmKey m.src tag size) with
  | some r =>
    let parts := r.parts.filter (fun p => p.1 != off) ++ [(off, data)]
    let first := { r.first with len := r.first.len + m.len }
    if covered size parts then acts [setReasms fun l => l.erase r, judge first parts r.pkt]
    else setReasms fun l => l.map fun x => if x = r then { r with parts := parts, first := first } else x
  | none =>
    if s.rd R.FW_REASM_MAX ≤ s.eng.nodes.reasms.length then .skip
    else allocPkt { blankPkt with octets := List.replicate size 0, group := some (s.nodeGroup m.node) }
      (fun i => chargeNode i (if covered size [(off, data)] then judge m [(off, data)] i
        else setReasms fun l => l ++ [⟨k, m.src, tag, size, s.now, [(off, data)], i, m⟩]) .skip) .skip

/-- PIPELINE_UPLINK: the next delivered frame of the pipeline (R285, R286, R288). -/
def pipelineUp (k : Nat) : Act := .read fun s => onlyIf (s.pipeFree k) <|
  match s.eng.nodes.input.at k [] with
  | [] => .skip
  | m :: rest => acts [
      setNodes fun g => { g with input := if rest.isEmpty then g.input.clear k else g.input.set k rest },
      inc (R.PL_UP k),
      onlyIf (s.nodeState m.node != 0 && s.rd (R.NT_GEN m.node) == m.gen) (hearNode m.node m.rssi m.lqi),
      match lowpanRead ⟨s.contexts, m.srcIid, m.dstIid⟩ m.payload with
      | .unsupported => inc (R.PL_UNSUPPORTED k)
      | .packet o => uplinkPacket k m o
      | .frag tag size off data => addFragment k m tag size off data]

/-- REASM_TIMEOUT (R286): reassemblies of pipeline `k` older than FW_REASM_MS. -/
def reasmTimeout (k : Nat) : Act := .read fun s =>
  let old := s.eng.nodes.reasms.filter fun r => r.pipe == k && decide (r.since + s.rd R.FW_REASM_MS * 1000000 ≤ s.now)
  forAll old fun r => acts [setReasms fun l => l.erase r, freePkt r.pkt, inc (R.PL_REASM_TIMEOUT k),
    raiseMs 0 0x0A06 r.first.node (r.first.node * 256)]

/-! ## From the host (R442, Table CPU-8) -/

/-- The octets of the data items of a from-host packet. -/
def hostOctets (n : Nat) (items : List Nat) : List Nat := (natOctets (items.drop 2)).take n

/-- PIPELINE_HOST_PACKET: the oldest complete packet of from-host FIFO `f`; a mesh PSDU is read as `mf`.
DEDUCED: log 73. DESIGN CHOICE: log 204. -/
def pipelineHost (f : Nat) (mf : Option MacFrame) : Act := .read fun s => onlyIf (s.pipeFree (f % 4)) <|
  match (s.fromHost f).pkts with
  | [] => .skip
  | (n, items) :: _ =>
    let k := f % 4
    let w1 := items.getD 0 0
    let w2 := items.getD 1 0
    let o := hostOctets n items
    let ts := if bit? w1 59 then some (fld w2 63 48) else none
    let q := fld w1 57 46
    let node := fld w1 30 8
    acts [fromTaken f,
      match fld w1 63 60 with
      | 0 => allocPkt { blankPkt with octets := o, tsId := ts } (fun i => .read fun s =>
          if ipVer o = 6 ∧ s.inPrefix (ipDst o) then downlink k (s.flowClass 0 o) i
          else toQueue (s.rd (R.FC_QUEUE (s.flowClass 0 o))) 1 [i]) .skip
      | 1 => allocPkt { blankPkt with form := .eth, octets := o, tsId := ts } (fun i => toQueue q 1 [i]) .skip
      | 2 => match mf with
        | none => inc (R.PL_UNSUPPORTED k)
        | some g => allocPkt { blankPkt with
            form := .mesh, octets := o, tsId := ts, node := node, gen := fld w2 47 40
            mac := some (if bit? w1 58 then { g with src := .ext uidOf, fc := some 0 } else { g with level := 0 })
            group := if node = 0 then none else some (s.nodeGroup node)
            port := fld w1 45 41
            chan := if fld w1 40 31 = 1023 then none else some (fld w1 40 31) } (fun i => toQueue q 2 [i]) .skip
      | _ => inc (R.PL_UNSUPPORTED k)]

/-! ## Releases (R301, R310) -/

/-- The PSDU length a MESH shaper counts (R302). -/
def State.meshLen (s : State) (p : Pkt) : Nat :=
  match p.mac with
  | some f => psduLen (s.linkMode p.node) f
  | none => p.octets.length

/-- MESH_RELEASE (R301, R310). -/
def meshRelease (q : Nat) : Act := .seq refillsDue <| .read fun s =>
  match s.queue q with
  | [] => .skip
  | i :: _ => match s.pkt? i with
    | none => .skip
    | some p => onlyIf (s.qKind q == 2 && s.shaperOk q) (acts [popHead q (s.meshLen p),
        onlyIf p.camp.isSome (note (.campLeft i)),
        if p.node ≠ 0 then
          if s.snService p.node ≠ 0 then enterPending p.node i (frameEntered p.node) else offerUnicast p.node i
        else offerBroadcast p.port i])

/-- The FRAME packet that carries a packet to a peer: length word, to-host descriptor and octets (Table FAB-4). -/
def frameWords (p : Pkt) : List Nat :=
  [(3 + cdiv p.octets.length 8) * 65536 + p.octets.length, p.source * 2 ^ 60 + p.port * 2 ^ 55] ++ t112 p.time ++
    (octetsToWords p.octets).map BitVec.toNat

/-- FABRIC_RELEASE: the head of a queue of KIND FABRIC, once link TARGET has credit for it (R301, R422). DEDUCED: log 74. -/
def fabricRelease (q : Nat) : Act := .seq refillsDue <| .read fun s =>
  let l := s.qTarget q
  match s.queue q with
  | [] => .skip
  | i :: _ => match s.pkt? i with
    | none => .skip
    | some p =>
      let dev := p.srcNode
      let fp : FabPkt := ⟨0x20, dev, s.rd R.DEVNUM, s.rd (R.FB_PEER l) != dev, 0, p.gen * 2 ^ 23 + p.node, frameWords p⟩
      onlyIf (s.qKind q == 4 && s.shaperOk q && s.linkUp l && hasCredit (s.flink l) fp) (acts [popHead q p.octets.length,
        enqueueFab l ⟨fp, s.now, none⟩, freePkt i])

/-- A FRAME arrives from a peer (R284). DEDUCED: log 74. -/
def frameRx (p : FabPkt) : Act := .read fun s =>
  let n := fld (p.payload.getD 0 0) 15 0
  let o := (natOctets (p.payload.drop 4)).take n
  let port := fld (p.payload.getD 1 0) 59 55
  allocPkt { blankPkt with octets := o, port := port }
    (fun i => toPipe (s.flowClass port o) (some (fld p.arg 22 0, fld p.arg 30 23)) o i) .skip

/-! ## Requests of peers (R271, R284) -/

/-- A peer's CLAIM, LOOKUP or INVALIDATE. -/
def nodeRequest (link : Nat) (p : FabPkt) : Act := .read fun s =>
  match p.type with
  | 0x10 => fabAnswer link p 0x90 (s.claimReply p.src (p.payload.getD 0 0) (p.payload.getD 1 0)) []
  | 0x12 => fabAnswer link p 0x92 (s.lookupReply (p.arg % 2) (p.payload.getD 0 0)) []
  | 0x13 => forget (p.arg % 2) (p.payload.getD 0 0)
  | _ => .skip

end Sys2Proof.Machine
end

