-- ==== Sys2Proof/Machine/Join.lean ====
section
/-! DEFINITION. The join service (14_join_attestation.md R338 to R355). -/

namespace Sys2Proof.Machine

open Sys2Proof

def setJoin (f : JoinEng → JoinEng) : Act := eng fun e => { e with join := f e.join }

/-! ## UDP datagrams -/

/-- A UDP datagram in an IPv6 packet. -/
def udp6 (src dst port : Nat) (body : List Nat) : List Nat :=
  let n := 8 + body.length
  let head (sum : Nat) : List Nat := beOctets 2 port ++ beOctets 2 port ++ beOctets 2 n ++ beOctets 2 sum
  let pseudo := beOctets 16 src ++ beOctets 16 dst ++ beOctets 4 n ++ [0, 0, 0, 17]
  let c := inetSum (pseudo ++ head 0 ++ body)
  [0x60, 0, 0, 0] ++ beOctets 2 n ++ [17, 64] ++ beOctets 16 src ++ beOctets 16 dst ++
    head (if c = 0 then 0xFFFF else c) ++ body

/-- The link-local and the global address of an interface identifier (R287). -/
def linkLocal (iid : Nat) : Nat := ipv6 0xFE80000000000000 iid

/-- An unsecured frame straight to a joiner, offered for NODE 0 cells of its port and channel (R339, R208).
DEDUCED: log 84. -/
def sendDirect (eui : Nat) (path : JoinPath) (body : List Nat) : Act := .read fun s =>
  let o := udp6 (linkLocal (iidOf uidOf)) (linkLocal (iidOf eui)) (s.rd R.J_PORT) body
  let f (b : List Nat) : MacFrame := { blankFrame with
    pan := some (s.rd R.TS_PAN_ID)
    dst := .ext eui
    src := .ext uidOf
    body := b }
  let packed := Config.iphc s.contexts [] o
  let room := largestPsdu path.mode - psduLen path.mode (f [])
  let bodies := if packed.length ≤ room then [packed] else Config.fragments o packed s.eng.nodes.dgram room
  let pkt (k : Nat) (b : List Nat) : Pkt := { blankPkt with
    form := .mesh, octets := b, mac := some { f b with seq := (s.eng.q.nextPkt + k) % 256 }
    port := path.port, chan := some path.chan, dgram := s.eng.nodes.dgram, mode := path.mode }
  acts [setNodes fun g => { g with dgram := (g.dgram + 1) % 65536 },
    allocAll (bodies.zipIdx.map fun b => pkt b.2 b.1) [] fun ids => forAll ids (offerBroadcast path.port)]

/-- A datagram for a node of this device joins the downlink (R339, R364). -/
def sendDatagram (n port : Nat) (body : List Nat) : Act := .read fun s =>
  let o := udp6 (ipv6 s.prefix64 (iidOf uidOf)) (ipv6 s.prefix64 (s.rd (R.NT_IID n))) port body
  allocPkt { blankPkt with octets := o } (fun i => toPipe (s.flowClass 0 o) none o i) .skip

/-! ## Segments (R340, R341, Table JOIN-1) -/

def tHello := 1
def tOffer := 2
def tRequest := 3
def tAccept := 4
def tResume := 5
def tResumed := 6
def tReject := 7
def tRelay := 16

/-- A body cut into segments. -/
def chunks (n : Nat) : Nat → List Nat → List (List Nat)
  | 0, _ => []
  | fuel + 1, l => if l.length ≤ n then [l] else l.take n :: chunks n fuel (l.drop n)

def segments (type session seg : Nat) (body : List Nat) : List (List Nat) :=
  let cs := chunks seg 256 body
  cs.zipIdx.map fun c => [0x20, type] ++ leOctets 2 session ++ [c.2, cs.length - 1] ++ leOctets 2 c.1.length ++ c.1

/-- A message goes to a joiner by its path (R339, R340). DEDUCED: log 84. -/
def sendJoin (eui : Nat) (path : JoinPath) (type session seg : Nat) (body : List Nat) : Act := .read fun s =>
  forAll (segments type session seg body) fun g =>
    match path.proxy with
    | none => sendDirect eui path g
    | some n =>
      let inner := beOctets 8 eui ++ [0, 0, 0, 0, 0, 0, 0, 0] ++ g
      sendDatagram n (s.rd R.J_PORT) ([0x20, tRelay] ++ leOctets 2 session ++ [0, 0] ++ leOctets 2 inner.length ++ inner)

/-! ## Sessions (R350, Table JOIN-6) -/

def State.joinSess (s : State) (id : Nat) : Option JoinSess := s.eng.join.sessions.find? fun x => x.id == id
def State.joinOf (s : State) (eui : Nat) : Option JoinSess := s.eng.join.sessions.find? fun x => x.eui == eui

def setSessions (f : List JoinSess → List JoinSess) : Act := acts [
  setJoin fun g => { g with sessions := f g.sessions },
  .read fun s => wr R.J_SESSIONS s.eng.join.sessions.length]

def putJoin (x : JoinSess) : Act := setSessions fun l => l.map fun y => if y.id = x.id then x else y
def dropJoin (id : Nat) : Act := setSessions fun l => l.filter fun y => y.id != id

/-- The codes of Table JOIN-5. -/
abbrev rjBusy := 1
abbrev rjVersion := 2
abbrev rjBadMessage := 3
abbrev rjUnknownIssuer := 4
abbrev rjExpired := 5
abbrev rjCredential := 6
abbrev rjPossession := 7
abbrev rjTableFull := 8
abbrev rjElsewhere := 9
abbrev rjToken := 10
abbrev rjSkew := 11
abbrev rjReplay := 12
abbrev rjLifecycle := 13
abbrev rjNotReady := 14

/-- A REJECT with its counter and event (R354). -/
def rejectJoin (eui : Nat) (path : JoinPath) (session code retry : Nat) : Act := acts [
  inc (R.J_REJECTS (code - 1)), raiseMs 0 0x0D03 0 code,
  sendJoin eui path tReject session 64 ([code, 0] ++ leOctets 2 retry ++ [0, 0, 0, 0])]

/-- A session ends with a REJECT. -/
def failSession (x : JoinSess) (code retry : Nat) : Act :=
  acts [dropJoin x.id, rejectJoin x.eui x.path x.id code retry]

/-- A nonce of 16 octets. -/
def takeNonce (k : List Nat → Act) : Act := takeRandom fun o => k ((o ++ List.replicate 16 0).take 16)

/-- A session ID that no session uses (R350). -/
def State.freeSession (s : State) : Nat :=
  let used (i : Nat) : Bool := s.eng.join.sessions.any fun x => x.id == i
  ((List.range (s.eng.join.sessions.length + 1)).map fun k => (s.eng.join.nextId - 1 + k) % 65535 + 1).find? (fun i => !(used i))
    |>.getD s.eng.join.nextId

/-- OFFER of a session (R344, Table JOIN-2). -/
def State.offerBody (s : State) (hello nonce : List Nat) : List Nat :=
  let st := s.eng.join.statement
  let known := (hello.drop 24).take 8 == (Config.shake256 st).take 8
  nonce ++ leOctets 2 (if known then 0 else 6461) ++ List.replicate 6 0 ++ (if known then [] else st)

def sendOffer (x : JoinSess) : Act := sendJoin x.eui x.path tOffer x.id x.seg x.offer

/-- SEG of a HELLO (R341). -/
def helloSeg (hello : List Nat) : Nat := max 64 (min 1024 (le ((hello.drop 32).take 2)))

/-- A new session: in place of the joiner's old one, if any. -/
def openJoin (eui : Nat) (path : JoinPath) (hello : List Nat) : Act := takeNonce fun nonce => .read fun s =>
  let id := s.freeSession
  let x : JoinSess := ⟨id, eui, 1, hello, s.offerBody hello nonce, [], [], s.now, helloSeg hello, path⟩
  acts [setJoin fun g => { g with nextId := id % 65535 + 1 },
    setSessions fun l => l.filter (fun y => y.eui != eui) ++ [x], sendOffer x]

/-- HELLO (Table JOIN-6). DESIGN CHOICE: log 31. DEDUCED: log 83. -/
def hello (eui : Nat) (path : JoinPath) (b : List Nat) : Act := .read fun s =>
  let open_ : Act :=
    if s.rd R.J_SESSIONS_MAX ≤ s.eng.join.sessions.length ∨ (s.rd R.JQ_STORM = 1 ∧ s.rd R.J_STORM_REFUSE = 1) then
      rejectJoin eui path 0 rjBusy (s.rd R.J_RETRY_AFTER)
    else openJoin eui path b
  if be (b.take 8) ≠ eui then rejectJoin eui path 0 rjBadMessage 0
  else match s.joinOf eui with
    | none => open_
    | some x =>
      if x.state = 2 then .skip
      else if x.state = 1 ∧ (x.hello.drop 8).take 16 = (b.drop 8).take 16 then sendOffer x
      else open_

/-- JOIN_STEP_TIMEOUT (Table JOIN-6). -/
def joinStepTimeout (id : Nat) : Act := .read fun s =>
  match s.joinSess id with
  | some x => onlyIf (x.state == 1 && decide (x.since + s.rd R.J_STEP_WAIT * 1000000 ≤ s.now))
      (acts [dropJoin id, inc R.J_TIMEOUTS])
  | none => .skip

/-- JOIN_LINGER_EXPIRY (Table JOIN-6). -/
def joinLinger (id : Nat) : Act := .read fun s =>
  match s.joinSess id with
  | some x => onlyIf (x.state == 3 && decide (x.since + s.rd R.J_LINGER * 1000000 ≤ s.now)) (dropJoin id)
  | none => .skip

/-- REQUEST (Table JOIN-6). -/
def request (eui session : Nat) (path : JoinPath) (b : List Nat) : Act := .read fun s =>
  match s.joinSess session with
  | none => .skip
  | some x =>
    if x.eui ≠ eui then .skip
    else if x.state = 1 then
      postJob 3 (.join x.id) (putJoin { x with state := 2, req := b }) (failSession x rjBusy 1)
    else if x.state = 3 ∧ x.req = b then sendJoin eui path tAccept x.id x.seg x.accept
    else .skip

/-! ## Issuers and the root statement (R343, R346) -/

def State.issuerUsable (s : State) (i : Nat) : Bool :=
  s.rd (R.IS_EN i) == 1 && s.rd (R.IS_STATE i) == 1 && s.keyHeld (s.rd (R.IS_SLOT i))

/-- The issuer a credential names: the lowest usable one with its ISSUER_ID. -/
def State.issuerOf (s : State) (id : Nat) : Option Nat :=
  (List.range 16).find? fun i => s.issuerUsable i && s.rd (R.IS_ID i) == id

/-- A block of `n` octets of WO data is stored at an offset. -/
def patch (old : List Nat) (off : Nat) (data : List Nat) : List Nat :=
  let b := old ++ List.replicate (off + data.length - old.length) 0
  b.take off ++ data ++ b.drop (off + data.length)

/-- The first `n` octets of the data members of a family. -/
def State.dataOctets (s : State) (data : Nat → Ref) (n : Nat) : List Nat :=
  wordsToOctets ((List.range (n / 8)).map fun k => s.word (data k))

/-- J_EN_WRITE of `n` octets. -/
def statementWrite (n : Nat) : Act := .read fun s =>
  let off := s.rd R.J_EN_OFFSET
  acts [setJoin fun g => { g with statement := patch g.statement off (s.dataOctets R.J_EN_DATA n) },
    wr R.J_EN_OFFSET ((off + n) % 65536), wr R.J_EN_STATE 0]

/-- J_EN_SEAL (R343). -/
def statementSeal (n : Nat) : Act := .read fun s =>
  let st := (s.eng.join.statement ++ List.replicate 6461 0).take 6461
  let k := s.rd R.J_KEM_SLOT
  let owner := (st.drop 1200).take 1952
  let ok := n == 6461 && le ((st.drop 8).take 8) == s.rd R.J_NETWORK_ID &&
    s.keyHeld k && kType (s.rd (R.K_ATTR k)) == 9 && (st.drop 16).take 1184 == Config.publicOf (s.kslot k).val &&
    Config.shake256 owner == (s.kslot 4).val && s.keyServes 4 opVerify
  let signed := Config.mldsaVerify owner (st.take 3152) (st.drop 3152) "FOLORI ROOT2"
  acts [setJoin fun g => { g with statement := st },
    onlyIf ok (keyStarts 4),
    wr R.J_EN_STATE (if ok && signed then 1 else 2), wr R.J_RS_DIGEST (le ((Config.shake256 st).take 8))]

/-- The statement no longer fits its network or its slots (R343). DEDUCED: log 86. -/
def statementStale : Act := .read fun s =>
  onlyIf (s.rd R.J_EN_STATE == 1) (acts [wr R.J_EN_STATE 3, raise 0x0D04 0 0])

/-- A key slot took another value. -/
def statementKey (k : Nat) : Act := .read fun s => onlyIf (k == 4 || k == s.rd R.J_KEM_SLOT) statementStale

/-- IS_WRITE of `n` octets. -/
def issuerWrite (i n : Nat) : Act := .read fun s =>
  let off := s.rd (R.IS_OFFSET i)
  acts [setJoin fun g => { g with
      issuers := g.issuers.set i (patch (g.issuers.at i []) off (s.dataOctets (R.IS_DATA i) n)) },
    wr (R.IS_OFFSET i) ((off + n) % 65536), wr (R.IS_STATE i) 0]

/-- IS_SEAL (R346). -/
def issuerSeal (i : Nat) : Act := .read fun s =>
  let pk := ((s.eng.join.issuers.at i []) ++ List.replicate 1952 0).take 1952
  let d := Config.shake256 pk
  let k := s.rd (R.IS_SLOT i)
  let ok := s.keyHeld k && kType (s.rd (R.K_ATTR k)) == 8 && (s.kslot k).val == d
  acts [setJoin fun g => { g with issuers := g.issuers.set i pk },
    wr (R.IS_STATE i) (if ok then 1 else 2), onlyIf ok (wr (R.IS_ID i) (le (d.take 8)))]

/-! ## What both exchanges answer (R347, R351, R353) -/

def kmac (key data : List Nat) (bits : Nat) (label : String) : List Nat :=
  ((Config.kmac256 key data bits label) ++ List.replicate (bits / 8) 0).take (bits / 8)

/-- KEY_INDEX, KEY_INDEX2, NK and NK2. -/
def State.netFields (s : State) (kek : List Nat) : List Nat × List Nat :=
  let k := s.rd R.LS_NET_SLOT
  let sl := s.kslot k
  let two := decide (3 ≤ s.rd (R.K_STATE k))
  let wrap (v : List Nat) : List Nat := ((Config.aesWrap kek v) ++ List.replicate 24 0).take 24
  ([kIndex (s.rd (R.K_ATTR k)), if two then kIndex sl.attr else 0],
    wrap sl.val ++ if two then wrap sl.staged else List.replicate 24 0)

/-- Run with the value of J_TOKEN_SLOT, which is an ACTIVE TOKEN slot with MAC (R351, R352). -/
def withTokenKey (use : List Nat → Act) (other : Act) : Act := .read fun s =>
  if kType (s.rd (R.K_ATTR (s.rd R.J_TOKEN_SLOT))) = 6 then withKey (s.rd R.J_TOKEN_SLOT) opMac use other else other

/-- A token for a node (R351, Table JOIN-8), or zeros. `cap` is the end of the token it renews, which no NOT_AFTER lies before: it stands
in where the device does not know the credential. DEDUCED: log 85. -/
def makeToken (n eui cap issuer : Nat) (rs : List Nat) (k : List Nat → Act) : Act := .read fun s =>
  let sec := s.devTime / uSec
  let life := sec + s.rd R.J_TOKEN_LIFE
  let expiry := match aget s.eng.join.limits eui with
    | some l => min life l
    | none => min life cap
  withTokenKey
    (fun key =>
      let h := [1, issuer] ++ leOctets 2 (s.rd R.J_TOKEN_GEN) ++ leOctets 4 n ++ beOctets 8 eui ++ leOctets 8 expiry
      let enc := ((Config.aesWrap (kmac key h 256 "FOLORI TOKEN ENC") rs) ++ List.replicate 40 0).take 40
      .seq (quickJob 3) (k (h ++ enc ++ kmac key (h ++ enc) 128 "FOLORI TOKEN")))
    (k (List.replicate 80 0))

/-! ## The full join (R347 to R349) -/

def credOf (x : JoinSess) : List Nat := x.req.take 5297

/-- The transcript (R347). -/
def transcript (x : JoinSess) : List Nat :=
  Config.shake256 ([1] ++ x.hello ++ [2] ++ x.offer ++ [3] ++ x.req.take 6385)

/-- The first failure of R348 steps 1 to 3, 0 for none. -/
def State.credFault (s : State) (x : JoinSess) : Nat :=
  let c := credOf x
  let sec := s.devTime / uSec
  if (s.issuerOf (le ((c.drop 12).take 8))).isNone then rjUnknownIssuer
  else if be ((c.drop 4).take 8) ≠ x.eui ∨ c.getD 0 0 ≠ 2 ∨ 2 ≤ c.getD 1 0 then rjBadMessage
  else if sec < le ((c.drop 20).take 8) ∨ le ((c.drop 28).take 8) < sec then rjExpired
  else 0

/-- The create in progress of the join service. -/
def startWant (eui index : Nat) : Act := acts [
  wr (R.CR_EUI64 15) eui, wr (R.CR_IID 15) 0, wr (R.CR_INDEX 15) index, startCreate 15 eui 0 index]

/-- CR_INDEX of a want (R352 step 6). -/
def State.wantIndex (s : State) : JoinWant → Nat × Nat
  | .full id => (((s.joinSess id).map (·.eui)).getD 0, 0)
  | .resume eui _ body _ _ =>
    let n := le ((body.drop 4).take 4)
    (eui, if s.ownIndex n && s.nodeState n == 0 then n else 0)

/-- A create is asked of slot 15, at once or when the slot is free. -/
def want (w : JoinWant) : Act := .read fun s => acts [
  setJoin fun g => { g with wants := g.wants ++ [w] },
  if s.eng.join.wants.isEmpty then startWant (s.wantIndex w).1 (s.wantIndex w).2 else .skip]

/-- JOIN_VERIFY_DONE: R348 steps 1 to 5 of a VERIFYING session; step 6 follows. The engine holds the issuer's key to the
digest in its slot (R316). -/
def verifyDone (id : Nat) : Act := .read fun s =>
  match s.joinSess id with
  | none => .skip
  | some x =>
    if x.state ≠ 2 ∨ !((s.jobs 3).contains (.join id)) then .skip
    else
      let c := credOf x
      let f := s.credFault x
      acts [endJob 3 (.join id),
        if f ≠ 0 then failSession x f 0
        else match s.issuerOf (le ((c.drop 12).take 8)) with
          | none => failSession x rjUnknownIssuer 0
          | some i =>
            withKey (s.rd (R.IS_SLOT i)) opVerify (fun d =>
              let pk := s.eng.join.issuers.at i []
              if Config.shake256 pk ≠ d ∨ ¬ Config.mldsaVerify pk (c.take 1988) (c.drop 1988) "FOLORI CRED2" then
                failSession x rjCredential 0
              else .seq (quickJob 3) <| if !(Config.mldsaVerify ((c.drop 36).take 1952) (transcript x) (x.req.drop 6385) "FOLORI JOIN2") then
                failSession x rjPossession 0
              else want (.full id)) (failSession x rjCredential 0)]

/-- The link key is installed and the ACCEPT sent (R347, R349); `fresh` for a newly created entry. -/
def acceptSession (x : JoinSess) (n : Nat) (fresh : Bool) : Act := .read fun s =>
  let c := credOf x
  let th := transcript x
  withKey (s.rd R.J_KEM_SLOT) opDecaps (fun dk =>
    let ss := Config.mlkemDecaps dk ((x.req.drop 5297).take 1088)
    acts [
      onlyIf fresh (wr (R.NT_GROUPS n) (le ((c.drop 2).take 2))),
      setJoin fun g => { g with limits := g.limits.set x.eui (le ((c.drop 28).take 8)) },
      installLinkKey n (kmac ss th 128 "FOLORI LINK") .skip,
      makeToken n x.eui (le ((c.drop 28).take 8)) ((s.issuerOf (le ((c.drop 12).take 8))).getD 0) (kmac ss th 256 "FOLORI RESUME SECRET") fun token =>
        .read fun s =>
          let nf := s.netFields (kmac ss th 256 "FOLORI NETKEY")
          let body := leOctets 2 (s.rd (R.NT_SHORT n)) ++ nf.1 ++ [0, 0, 0, 0] ++ nf.2 ++ token ++ kmac ss th 128 "FOLORI CONFIRM"
          acts [putJoin { x with state := 3, accept := body, since := s.now },
            sendJoin x.eui x.path tAccept x.id x.seg body, inc R.J_ACCEPTED,
            raise 0x0D01 n (n * 256 + b2n x.path.proxy.isSome)]])
    (failSession x rjNotReady 0)

/-- The session whose node has its entry is answered. -/
def acceptJoin (id n : Nat) (fresh : Bool) : Act := .read fun s =>
  match s.joinSess id with
  | none => .skip
  | some x => acceptSession x n fresh

/-! ## Resumption (R352, R353) -/

/-- The RESUME passes: link key, RESUMED and the replay cache (R353). -/
def acceptResume (eui seg : Nat) (b rs : List Nat) (path : JoinPath) (n : Nat) : Act := takeNonce fun nonce => .read fun s =>
  let nn := (b.drop 80).take 16 ++ nonce
  acts [
    setJoin fun g => { g with replay := (((b.drop 104).take 16, s.now) :: g.replay).take 4096 },
    installLinkKey n (kmac rs nn 128 "FOLORI RELINK") .skip,
    makeToken n eui (le ((b.drop 16).take 8)) (b.getD 1 0) (kmac rs nn 256 "FOLORI RESUME SECRET") fun token => .read fun s =>
      let nf := s.netFields (kmac rs nn 256 "FOLORI NETKEY")
      let body := nonce ++ leOctets 2 (s.rd (R.NT_SHORT n)) ++ nf.1 ++ [0, 0, 0, 0] ++ nf.2 ++ token ++
        kmac rs nn 128 "FOLORI RESUME CONFIRM"
      acts [sendJoin eui path tResumed 0 seg body, inc R.J_RESUMED, raise 0x0D02 n (n * 256)]]

/-- The RESUME's ASN lies too far from TS_ASN, or before the device served (R352 step 3). -/
def State.skewed (s : State) (asn : Nat) : Bool :=
  let bound := s.rd R.J_SKEW * 1000 / max 1 (s.rd R.TS_SLOT_LEN)
  decide (asn + bound < s.tsAsn) || decide (s.tsAsn + bound < asn) || decide (asn < s.rd R.J_SERVE_ASN)

/-- A RESUME with this MAC_N has passed lately, or waits for its entry (R352 step 4, R353). DEDUCED: log 83. -/
def State.replayed (s : State) (macN : List Nat) : Bool :=
  (s.eng.join.replay.any fun r => r.1 == macN && decide (s.now < r.2 + s.rd R.J_SKEW * 1000000)) ||
  (s.eng.join.wants.any fun
    | .resume _ _ b _ _ => (b.drop 104).take 16 == macN
    | _ => false) ||
  (s.jobs 3).any fun
    | .resumed _ _ b _ _ _ => (b.drop 104).take 16 == macN
    | _ => false

/-- A complete RESUME is judged (R352). -/
def judgeResume (eui seg : Nat) (path : JoinPath) (b : List Nat) : Act := .read fun s =>
  let t := b.take 80
  let no (c : Nat) : Act := rejectJoin eui path 0 c 0
  let sec := s.devTime / uSec
  let n := le ((t.drop 4).take 4)
  let macN := (b.drop 104).take 16
  withTokenKey (fun key =>
    if kmac key (t.take 64) 128 "FOLORI TOKEN" ≠ t.drop 64 then no rjToken
    else if t.getD 0 0 ≠ 1 ∨ be ((t.drop 8).take 8) ≠ eui ∨ le ((t.drop 16).take 8) < sec ∨
        le ((t.drop 2).take 2) ≠ s.rd R.J_TOKEN_GEN ∨ 16 ≤ t.getD 1 0 ∨ ¬ s.issuerUsable (t.getD 1 0) then no rjToken
    else if s.skewed (le ((b.drop 96).take 8) % 2 ^ 40) then no rjSkew
    else if s.replayed macN then acts [raise 0x0D05 0 0, no rjReplay]
    else match Config.aesUnwrap (kmac key (t.take 24) 256 "FOLORI TOKEN ENC") ((t.drop 24).take 40) with
      | none => no rjToken
      | some rs =>
        if kmac rs (b.take 104) 128 "FOLORI RESUME" ≠ macN then no rjToken
        else if s.ownIndex n ∧ s.nodeState n ≠ 0 ∧ s.rd (R.NT_EUI64 n) = eui then acceptResume eui seg b rs path n
        else want (.resume eui seg b rs path)) (no rjToken)

/-- RESUME (Table JOIN-6, R352): its token MACs are a request of crypto queue 3. -/
def resume (eui seg : Nat) (path : JoinPath) (b : List Nat) : Act := .read fun s =>
  let busy := rejectJoin eui path 0 rjBusy 1
  if ((s.joinOf eui).map (·.state)) = some 2 then rejectJoin eui path 0 rjBusy 0
  else askJob 3 (.resume eui seg path b) (judgeResume eui seg path b) busy

/-! ## Creates (R348 step 6, R352 step 6) -/

/-- The code a create result rejects with, and RETRY_AFTER. -/
def createReject (status : Nat) : Nat × Nat :=
  if status = 2 then (rjElsewhere, 0) else if status = 3 then (rjTableFull, 0) else (rjBusy, 1)

/-- The first want has its create's result; the next one starts. -/
def joinCreated (result : Nat) : Act := .read fun s =>
  match s.eng.join.wants with
  | [] => .skip
  | w :: rest =>
    let st := fld result 63 56
    let n := fld result 52 30
    let ok := st == 0 || st == 1
    acts [setJoin fun g => { g with wants := rest },
      match w with
      | .full id => match s.joinSess id with
        | none => .skip
        | some x =>
          if ok then askJob 3 (.accept id n (st == 0)) (acceptJoin id n (st == 0)) (failSession x rjBusy 1)
          else failSession x (createReject st).1 (createReject st).2
      | .resume eui seg b rs path =>
        if ok then askJob 3 (.resumed eui seg b rs path n) (acceptResume eui seg b rs path n) (rejectJoin eui path 0 rjBusy 1)
        else rejectJoin eui path 0 (createReject st).1 (createReject st).2,
      match rest with
      | [] => .skip
      | v :: _ => .read fun s => startWant (s.wantIndex v).1 (s.wantIndex v).2]

/-! ## Messages (R339, R342, R354) -/

/-- The body octets of a message that a node sends. -/
def bodyLen (type : Nat) : Nat := if type = tHello then 36 else if type = tRequest then 9694 else if type = tResume then 120 else 0

/-- The REJECT of a message, which ends the session that its SESSION names (R342, R354, Table JOIN-1). -/
def refuseMessage (eui session type code : Nat) (path : JoinPath) : Act := .read fun s =>
  let sess := if type = tHello ∨ type = tResume then 0 else session
  acts [onlyIf (sess != 0) (match s.joinSess sess with
      | some x => onlyIf (x.eui == eui) (dropJoin x.id)
      | none => .skip), rejectJoin eui path sess code 0]

/-- A complete message of a joiner (R339, R342, R354). DEDUCED: log 83. -/
def joinMessage (eui session type seg : Nat) (path : JoinPath) (b : List Nat) : Act := .read fun s =>
  let no (c : Nat) : Act := refuseMessage eui session type c path
  onlyIf ([tHello, tRequest, tResume].contains type) (acts [onlyIf (type == tHello) (inc R.J_HELLOS),
    if s.rd R.J_EN = 0 ∨ ¬ (s.rd R.LC_STATE = 2 ∨ s.rd R.LC_STATE = 3) then no rjLifecycle
    else if s.rd R.J_EN_STATE ≠ 1 ∨ s.netSlot.isNone then no rjNotReady
    else if b.length ≠ bodyLen type then no rjBadMessage
    else if type = tHello then hello eui path b
    else if type = tRequest then request eui session path b
    else resume eui seg path b])

def setAsms (f : List JoinAsm → List JoinAsm) : Act := setJoin fun g => { g with asms := f g.asms }

/-- The bodies of all segments, in order, when none is missing. -/
def wholeBody (a : JoinAsm) : Option (List Nat) :=
  let parts := (List.range (a.last + 1)).map fun k => (a.segs.find? fun x => x.1 == k).map (·.2)
  if parts.all Option.isSome then some (parts.flatMap fun p => p.getD []) else none

/-- A segment joins its message (R342); `whole` takes the complete message with the length of its first segment. -/
def addSegment (eui : Nat) (g : List Nat) (whole : Nat → Nat → Nat → List Nat → Act) : Act := .read fun s =>
  let major := g.getD 0 0 / 16
  let type := g.getD 1 0
  let session := le ((g.drop 2).take 2)
  let idx := g.getD 4 0
  let last := g.getD 5 0
  let data := g.drop 8
  let same (a : JoinAsm) : Bool := a.eui == eui && a.major == major && a.session == session && a.type == type
  let drop_ := acts [setAsms fun l => l.filter fun a => !(same a), inc R.J_SEG_DROP]
  let store (a : JoinAsm) : Act := match wholeBody a with
    | some b => acts [setAsms fun l => l.filter fun x => !(same x), whole session type a.first b]
    | none => setAsms fun l => l.filter (fun x => !(same x)) ++ [a]
  if g.length < 8 ∨ le ((g.drop 6).take 2) ≠ data.length ∨ last < idx then drop_
  else match s.eng.join.asms.find? same with
    | none => store ⟨eui, major, session, type, last, s.now, [(idx, data)], data.length⟩
    | some a =>
      if a.last ≠ last then drop_
      else match a.segs.find? fun x => x.1 == idx with
        | some x => if x.2 = data then .skip else drop_
        | none => store { a with segs := a.segs ++ [(idx, data)], first := if idx = 0 then data.length else a.first }

/-- Replies to a joiner follow its last frame (R339): its session, and what of it waits, take the path on which it was heard. -/
def heardFrom (eui : Nat) (path : JoinPath) : Act := acts [
  setJoin fun g => { g with
    sessions := g.sessions.map fun x => if x.eui = eui then { x with path := path } else x
    wants := g.wants.map fun
      | .resume e seg b rs p => .resume e seg b rs (if e = eui then path else p)
      | w => w },
  setKeys fun g => { g with jobs := g.jobs.map fun e => (e.1, e.2.map fun
    | .resume x seg p b => .resume x seg (if x = eui then path else p) b
    | .resumed x seg b rs p n => .resumed x seg b rs (if x = eui then path else p) n
    | j => j) }]

/-- A segment of a joiner (R342); a complete message of another major version draws VERSION. DEDUCED: log 83. -/
def joinSegment (eui : Nat) (path : JoinPath) (g : List Nat) : Act := .seq (heardFrom eui path) <|
  if g.getD 0 0 / 16 = 2 ∧ g.getD 1 0 = tRelay then .skip
  else addSegment eui g fun session type first b =>
    if g.getD 0 0 / 16 ≠ 2 then refuseMessage eui session type rjVersion path else joinMessage eui session type (max 64 first) path b

/-- A RELAY draws a REJECT itself: it goes to the proxy that sent it (R342). DEDUCED: log 84. -/
def rejectRelay (n session code : Nat) : Act := acts [
  inc (R.J_REJECTS (code - 1)), raiseMs 0 0x0D03 0 code,
  .read fun s => forAll (segments tReject session 64 ([code, 0] ++ List.replicate 6 0)) fun g => sendDatagram n (s.rd R.J_PORT) g]

/-- A RELAY of a JOINED proxy (R340). -/
def joinRelay (n : Nat) (g : List Nat) : Act := .read fun s =>
  addSegment (s.rd (R.NT_EUI64 n)) g fun session type _ b =>
    if type ≠ tRelay then .skip
    else if g.getD 0 0 / 16 ≠ 2 then rejectRelay n session rjVersion
    else if b.length < 24 then rejectRelay n session rjBadMessage
    else joinSegment (be (b.take 8)) ⟨some n, 0, 0, 0⟩ (b.drop 16)

/-- The FIFO of JQ_QUEUE, and the join message at its head (R338). -/
def State.joinFifo (s : State) : Nat := s.qTarget (s.rd R.JQ_QUEUE)

def State.joinHead (s : State) : Option (Nat × Pkt) :=
  match (s.toHost s.joinFifo).pkts with
  | [] => none
  | i :: _ => match s.pkt? i with
    | some p => if p.source = 5 then some (i, p) else none
    | none => none

/-- The service takes the message from the FIFO. -/
def takeJoin (i : Nat) : Act := .read fun s =>
  let x := s.toHost s.joinFifo
  acts [setOut s.joinFifo { x with pkts := x.pkts.filter (· != i), pos := 0 }, freePkt i, countOut s.joinFifo]

/-- JOIN_REASM_TIMEOUT (R342): assemblies not complete J_STEP_WAIT after their first segment. -/
def joinReasmTimeout : Act := .read fun s =>
  let old := s.eng.join.asms.filter fun a => decide (a.since + s.rd R.J_STEP_WAIT * 1000000 ≤ s.now)
  forAll old fun a => acts [setAsms fun l => l.erase a, inc R.J_SEG_DROP]

/-- What has waited its time out ends before a message is judged: assemblies and sessions (R342, Table JOIN-6). -/
def joinTimes : Act := .read fun s => acts [joinReasmTimeout,
  forAll s.eng.join.sessions fun x => acts [joinStepTimeout x.id, joinLinger x.id]]

/-- JOIN_SEGMENT: the service takes a direct message (R339). -/
def serveSegment : Act := .read fun s =>
  match s.joinHead with
  | none => .skip
  | some (i, p) => match p.mac.map (·.src) with
    | some (Addr.ext e) => acts [takeJoin i, joinTimes, joinSegment e ⟨none, p.port, p.chan.getD 0, p.mode⟩ (udpBody p.octets)]
    | some _ => takeJoin i
    | none => .skip

/-- JOIN_RELAY: the service takes a relayed message (R340). -/
def serveRelay : Act := .read fun s =>
  match s.joinHead with
  | none => .skip
  | some (i, p) => if p.mac.isSome then .skip
    else acts [takeJoin i, joinTimes, onlyIf (s.joined p.srcNode) (joinRelay p.srcNode (udpBody p.octets))]

/-- The packet of a received join frame enters the join queue (R311). -/
def joinRx (r : RxRecord) (f : MacFrame) (o : List Nat) : Act := .read fun s =>
  allocPkt { blankPkt with
      form := .join, octets := o, mac := some f, source := 5, port := r.port, chan := some r.channel, time := r.tSof
      mode := r.mode }
    (fun i => meterPkt (s.rd R.JQ_METER) r.len 0 i (toQueue (s.rd R.JQ_QUEUE) 3 [i])) .skip

/-- Sessions and the replay cache are cleared (R350), with the requests of queue 3 that belong to them. -/
def joinClear : Act := acts [setJobs 3 [],
  setJoin fun g => { g with sessions := [], asms := [], replay := [], wants := [] }, wr R.J_SESSIONS 0]

end Sys2Proof.Machine
end

