-- ==== Sys2Proof/Machine/Campaign.lean ====
section
/-! DEFINITION. The library and the campaigns (15_node_image_campaigns.md R358 to R369). -/

namespace Sys2Proof.Machine

open Sys2Proof

def setCamp (f : CampEng → CampEng) : Act := eng fun e => { e with camp := f e.camp }

/-! ## The library (R358, R360) -/

def State.image (s : State) (k : Nat) : List Nat := s.eng.camp.images.at k []

/-- Fields of the image header (Table IMAGE-1). -/
def imgField (o : List Nat) (at_ n : Nat) : Nat := le ((o.drop at_).take n)
def imgVersion (o : List Nat) : Nat := imgField o 16 4
def imgMin (o : List Nat) : Nat := imgField o 20 4
def imgTarget (o : List Nat) : Nat := imgField o 8 8

/-- IM_WRITE of `n` octets. -/
def imageWrite (k n : Nat) : Act := .read fun s =>
  let off := s.rd (R.IM_OFFSET k)
  let o := patch (s.image k) off (s.dataOctets (R.IM_DATA k) n)
  acts [setCamp fun g => { g with images := g.images.set k o },
    wr (R.IM_OFFSET k) (off + n), wr (R.IM_STATE k) 1, wr (R.IM_LENGTH k) o.length]

/-- IM_WRITE stores 8 to 256 octets, a multiple of 8, inside the 4 MiB of the image. -/
def State.imageWriteOk (s : State) (k n : Nat) : Bool :=
  decide (8 ≤ n) && decide (n ≤ 256) && n % 8 == 0 && decide (s.rd (R.IM_OFFSET k) + n ≤ 4194304)

/-- IM_SEAL: the verification is queued with the public key of the import buffer. -/
def imageSeal (k : Nat) : Act := .read fun s =>
  postJob 4 (.image k) (setCamp fun g => { g with sealKeys := g.sealKeys.set k (s.importOctets 1952) }) .skip

/-- R360: what makes an image VALID, beside its signature. -/
def imageSound (o : List Nat) : Bool :=
  imgField o 0 4 == 0x464F4C49 && o.getD 4 0 == 1 && 3376 + imgField o 24 4 == o.length &&
    Config.shake256 (o.drop 3376) == (o.drop 32).take 32

/-- IM_SEAL_DONE. -/
def imageSealDone (k : Nat) : Act := .read fun s =>
  if !((s.jobs 4).contains (.image k)) then .skip
  else
    let o := s.image k
    let pk := s.eng.camp.sealKeys.at k []
    let show_ (st : Nat) : Act := acts [wr (R.IM_STATE k) st, wr (R.IM_VERSION k) (imgVersion o), wr (R.IM_TARGET k) (imgTarget o)]
    acts [endJob 4 (.image k), setCamp fun g => { g with sealKeys := g.sealKeys.clear k },
      withKey (s.rd (R.IM_SLOT k)) opVerify (fun d =>
        show_ (if imageSound o && Config.shake256 pk == d &&
          Config.mldsaVerify pk (o.take 64) ((o.drop 64).take 3309) "FOLORI IMAGE" then 2 else 3)) (show_ 3)]

/-- IM_ERASE. -/
def imageErase (k : Nat) : Act := acts [setCamp fun g => { g with images := g.images.clear k },
  forAll [R.IM_STATE k, R.IM_LENGTH k, R.IM_VERSION k, R.IM_TARGET k, R.IM_OFFSET k] fun r => wr r 0]

/-! ## Blocks and repair (R362, R363) -/

def blockCount (o : List Nat) : Nat := cdiv o.length 1024
def groupCount (o : List Nat) : Nat := cdiv (blockCount o) 32
/-- Data blocks of group `g`. -/
def groupSize (o : List Nat) (g : Nat) : Nat := min 32 (blockCount o - 32 * g)

def dataBlock (o : List Nat) (b : Nat) : List Nat :=
  let l := (o.drop (1024 * b)).take 1024
  l ++ List.replicate (1024 - l.length) 0

/-- GF(2^8) with polynomial x^8 + x^4 + x^3 + x^2 + 1. -/
def gfDouble (a : Nat) : Nat := if a < 128 then 2 * a else bxor (2 * a - 256) 0x1D

def gfMul (a b : Nat) : Nat :=
  ((List.range 8).foldl (fun (acc : Nat × Nat) i => (if bit? b i then bxor acc.1 acc.2 else acc.1, gfDouble acc.2)) (0, a)).1

/-- α^i. -/
def gfPow (i : Nat) : Nat := (List.range i).foldl (fun a _ => gfDouble a) 1

/-- A polynomial, highest coefficient first, times x − r. -/
def gfTimes (p : List Nat) (r : Nat) : List Nat :=
  List.zipWith (fun a b => bxor a (gfMul b r)) (p ++ [0]) (0 :: p)

/-- G(x), highest coefficient first: nine coefficients. -/
def gfGen : List Nat := (List.range 8).foldl (fun p i => gfTimes p (gfPow i)) [1]

/-- The remainder m(x) · x^8 mod G(x): eight coefficients p_0 to p_7 for the octets d_0, d_1, … -/
def rsRepair (d : List Nat) : List Nat :=
  d.foldl (fun p x =>
    let fb := bxor x (p.headD 0)
    List.zipWith (fun a g => bxor a (gfMul fb g)) (p.drop 1 ++ [0]) (gfGen.drop 1)) (List.replicate 8 0)

/-- Repair block `r` of group `g`. -/
def repairBlock (o : List Nat) (g r : Nat) : List Nat :=
  let blocks := (List.range (groupSize o g)).map fun i => dataBlock o (32 * g + i)
  (List.range 1024).map fun j => (rsRepair (blocks.map fun b => b.getD j 0)).getD r 0

/-- INDEX of the n-th block frame of a multicast with `rep` repair blocks a group (R366). -/
def blockIndex (o : List Nat) (rep n : Nat) : Nat :=
  let g := n / (32 + rep)
  let j := n % (32 + rep)
  let k := groupSize o g
  if j < k then 32 * g + j else 0x8000 + 8 * g + (j - k)

def blockTotal (o : List Nat) (rep : Nat) : Nat := blockCount o + groupCount o * rep

def blockData (o : List Nat) (index : Nat) : List Nat :=
  if index < 0x8000 then dataBlock o index else repairBlock o ((index - 0x8000) / 8) (index % 8)

/-! ## Messages (R364, Table IMAGE-2) -/

def State.camp (s : State) (c : Nat) : Camp := s.eng.camp.camps.at c ⟨0, [], []⟩

def putCamp (c : Nat) (x : Camp) : Act := setCamp fun g => { g with camps := g.camps.set c x }

def State.campImage (s : State) (c : Nat) : List Nat := s.image (s.rd (R.CA_IMAGE c))

def campHead (id type : Nat) : List Nat := [1, type] ++ leOctets 2 id

def State.announce (s : State) (c : Nat) : List Nat :=
  let o := s.campImage c
  campHead (s.rd (R.CA_ID c)) 1 ++ leOctets 4 o.length ++ leOctets 2 (blockCount o) ++ [groupCount o % 256, s.rd (R.CA_REPAIR c)] ++
    leOctets 4 (imgVersion o) ++ leOctets 4 (imgMin o) ++ leOctets 8 (imgTarget o) ++ leOctets 8 (s.rd (R.CA_START_ASN c) % 2 ^ 40)

def State.blockMsg (s : State) (c index : Nat) : List Nat :=
  campHead (s.rd (R.CA_ID c)) 2 ++ leOctets 2 index ++ [0, 0] ++ blockData (s.campImage c) index

/-- The all-nodes multicast address, to which broadcast frames carry the datagrams. -/
def allNodes : Nat := ipv6 0xFF02000000000000 1

/-- A broadcast frame of campaign `c` is offered on a port; `keep` takes its number (R208, R366). DEDUCED: log 87. -/
def campBroadcast (c p : Nat) (msg : List Nat) (keep : Nat → Act) : Act := .read fun s =>
  let body := Config.iphc s.contexts [] (udp6 (linkLocal (iidOf uidOf)) allNodes (s.rd R.CA_UDP) msg)
  allocPkt { blankPkt with
      form := .mesh, octets := body, mac := some { s.broadcastFrame body with seq := s.eng.q.nextPkt % 256 }
      port := p, camp := some c }
    (fun i => acts [offerBroadcast p i, keep i]) .skip

/-- A unicast datagram of campaign `c` for a node enters CA_QUEUE (R367). -/
def campUnicast (c n : Nat) (msg : List Nat) : Act := .read fun s =>
  let o := udp6 (ipv6 s.prefix64 (iidOf uidOf)) (ipv6 s.prefix64 (s.rd (R.NT_IID n))) (s.rd R.CA_UDP) msg
  allocPkt { blankPkt with octets := o, camp := some c } (fun i => sendVia (ipDst o % 4) n (s.rd (R.CA_QUEUE c)) i) .skip

/-! ## Targets (R365, R367) -/

/-- The node states of a campaign. -/
abbrev cnTarget := 1
abbrev cnAsked := 2
abbrev cnFilling := 3
abbrev cnComplete := 4
abbrev cnFailed := 5
abbrev cnUnreached := 6
abbrev cnRemoved := 7
abbrev cnExcluded := 8

/-- CA_NODES follows the node states. -/
def showNodes (c : Nat) : Act := .read fun s =>
  let l := (s.camp c).nodes.map fun e => e.2.state
  let n (ok : Nat → Bool) : Nat := (l.filter ok).length
  wrs (R.CA_NODES c 0) [l.length, n (· == cnComplete), n (· == cnFailed), n (· == cnUnreached), n (· == cnRemoved),
    n (· == cnExcluded), n fun x => x == cnTarget || x == cnAsked || x == cnFilling]

/-- A target changes. -/
def setTarget (c n : Nat) (x : CampNode) : Act := .read fun s => acts [
  putCamp c { s.camp c with nodes := (s.camp c).nodes.set n x }, wr (R.CN_STATE n c) x.state, showNodes c]

/-- The entries that a campaign targets (R365). -/
def State.campTargets (s : State) (c : Nat) : Tbl CampNode :=
  let o := s.campImage c
  (s.usedNodes.filter fun n => s.ownIndex n && s.joined n && band (s.rd (R.NT_GROUPS n)) (s.rd (R.CA_GROUPS c)) != 0 &&
      decide (imgMin o ≤ s.rd (R.NT_FW n)) && decide (s.rd (R.NT_FW n) < imgVersion o)).map fun n =>
    (n, ⟨if modeFamily (s.snMode n) = 5 then cnExcluded else cnTarget, 0, none, none, none⟩)

/-- The target set is fixed. -/
def fixTargets (c : Nat) : Act := .read fun s => acts [
  putCamp c { s.camp c with nodes := s.campTargets c },
  .read fun s => forAll (s.camp c).nodes fun e => wr (R.CN_STATE e.1 c) e.2.state,
  showNodes c]

def State.unfinished (s : State) (c : Nat) : Bool :=
  (s.camp c).nodes.any fun e => decide (1 ≤ e.2.state) && decide (e.2.state ≤ 3)

/-- A STATUS_REQ is queued for a node. -/
def askStatus (c n : Nat) (x : CampNode) (state : Nat) : Act := .read fun s =>
  let i := s.eng.q.nextPkt + 1
  acts [campUnicast c n (campHead (s.rd (R.CA_ID c)) 3),
    .read fun s' =>
      let sent := (s'.pkt? i).isSome
      setTarget c n { x with
        state := state
        req := if sent then some i else none
        left := if sent then none else some s'.now
        status := none }]

/-- R367: the data blocks a STATUS asks for. -/
def needBlocks (o status : List Nat) : List Nat :=
  (List.range (groupCount o)).flatMap fun g =>
    let f := (status.drop (12 + 5 * g)).take 5
    let k := groupSize o g
    let data := le (f.take 4)
    let lack := (List.range k).filter fun i => !(bit? data i)
    (lack.take (k - (k - lack.length) - popcount (f.getD 4 0))).map fun i => 32 * g + i

/-- FILL is over when no target is left (Table IMAGE-3). -/
def campFinish (c : Nat) : Act := .read fun s =>
  onlyIf (s.rd (R.CA_STATE c) == 3 && !(s.unfinished c)) (acts [wr (R.CA_STATE c) 5, raise 0x0E03 c c])

/-- A STATUS of a target is acted on (R367). -/
def actOnStatus (c n : Nat) (x : CampNode) (b : List Nat) : Act := .read fun s =>
  let st := b.getD 4 0
  if st = 0 then acts [
    setTarget c n { x with state := cnFilling, tries := 0 },
    forAll (needBlocks (s.campImage c) b) fun k => campUnicast c n (s.blockMsg c k),
    askStatus c n { x with tries := 0 } cnFilling]
  else acts [
    setTarget c n { x with state := if st ≤ 2 then cnComplete else cnFailed, status := none, req := none, left := none },
    onlyIf (st == 2) (wr (R.NT_FW n) (le ((b.drop 8).take 4))),
    onlyIf (decide (3 ≤ st)) (raiseMs 0 0x0E04 n (c + st * 16 + n * 256))]

/-- The next targets are served, up to CA_FILL_PAR at once, in ascending node index (R367). -/
def fillMore (c : Nat) : Nat → Act
  | 0 => campFinish c
  | fuel + 1 => .read fun s =>
    let nodes := (s.camp c).nodes
    let busy := (nodes.filter fun e => e.2.state == cnAsked || e.2.state == cnFilling).length
    if s.rd (R.CA_STATE c) ≠ 3 ∨ s.rd (R.CA_FILL_PAR c) ≤ busy then campFinish c
    else match nodes.find? fun e => e.2.state == cnTarget with
      | none => campFinish c
      | some (n, x) => acts [
          match x.status with
          | some b => actOnStatus c n x b
          | none => askStatus c n x cnAsked,
          fillMore c fuel]

def fill (c : Nat) : Act := .read fun s => fillMore c ((s.camp c).nodes.length + 1)

/-- When FILL begins, what was recorded in MULTICAST is acted on: outcomes at once; a target that lacks blocks is served when its turn among
the CA_FILL_PAR targets comes (R367). DEDUCED: log 87. -/
def actRecorded (c : Nat) : Act := .read fun s => forAll (s.camp c).nodes fun e => match e.2.status with
  | some b => onlyIf (b.getD 4 0 != 0) (actOnStatus c e.1 e.2 b)
  | none => .skip

/-- Every port has sent its last block frame: FILL begins (Table IMAGE-3). -/
def campFill (c : Nat) : Act := .read fun s =>
  let total := blockTotal (s.campImage c) (s.rd (R.CA_REPAIR c))
  let sent := (s.camp c).ports.all fun e => decide (total ≤ e.2.next) && e.2.frame.isNone
  onlyIf (s.rd (R.CA_STATE c) == 2 && sent) (acts [wr (R.CA_STATE c) 3, raise 0x0E02 c c, actRecorded c, fill c])

/-! ## Commands (R365, R368, Table IMAGE-3) -/

def campLast (c v : Nat) : Act := wr (R.CA_LAST c) v

/-- Another campaign has the TARGET and shares a group. -/
def State.campOverlap (s : State) (c : Nat) : Bool :=
  [0, 1, 2, 3].any fun d => d != c && s.rd (R.CA_STATE d) != 0 &&
    imgTarget (s.campImage d) == imgTarget (s.campImage c) && band (s.rd (R.CA_GROUPS d)) (s.rd (R.CA_GROUPS c)) != 0

/-- CA_START_ASN is at least 10 s ahead. -/
def State.campAhead (s : State) (c : Nat) : Bool :=
  decide (s.devTime + 10 * uSec ≤ s.slotStart (s.rd (R.CA_START_ASN c) % 2 ^ 40))

def addUsers (k : Nat) (up : Bool) : Act := .read fun s =>
  wr (R.IM_USERS k) (if up then s.rd (R.IM_USERS k) + 1 else s.rd (R.IM_USERS k) - 1)

/-- CA_CMD 1. -/
def campStart (c : Nat) : Act := .read fun s =>
  if s.rd (R.CA_STATE c) ≠ 0 then campLast c 4
  else if s.rd (R.IM_STATE (s.rd (R.CA_IMAGE c))) ≠ 2 then campLast c 1
  else if s.campOverlap c then campLast c 2
  else if !(s.campAhead c) then campLast c 3
  else
    let id := s.eng.camp.lastId % 65535 + 1
    let ports := onesOf 24 (s.rd (R.CA_PORTS c))
    acts [campLast c 0, setCamp fun g => { g with lastId := id }, wr (R.CA_ID c) id, addUsers (s.rd (R.CA_IMAGE c)) true,
      putCamp c ⟨0, [], ports.map fun p => (p, ⟨0, 0, none, none, false⟩)⟩, fixTargets c,
      wr (R.CA_STATE c) 1, raise 0x0E01 c (c + id * 256),
      .read fun s => forAll ports fun p => campBroadcast c p (s.announce c) fun _ => .skip]

/-- The frames of a campaign that the tally has not admitted are freed (R368), the follow-on of an exchange that still waits among them. -/
def dropCampFrames (c : Nat) : Act := .read fun s =>
  let ids := (s.eng.q.pkts.filter fun e => e.2.camp == some c).map (·.1)
  forAll ids fun i => .read fun s =>
    let air := (s.inHand i) || (s.eng.sn.exs.any fun x => x.pkt == i && x.step != 4)
    match s.pkt? i with
    | none => .skip
    | some p =>
      if air then .skip
      else if s.eng.sn.ages.any fun a => a.1 == i then
        match s.eng.sn.exs.find? fun x => x.pkt == i with
        | some x => acts [freePending p.node i, replanEx x none]
        | none => freePending p.node i
      else if p.released then finishFrame i
      else acts [
        match p.queue with
        | some q => acts [setQ fun g =>
              let l := (g.queues.at q []).filter (· != i)
              { g with queues := if l.isEmpty then g.queues.clear q else g.queues.set q l },
            subFrom (R.Q_FRAMES q) 1]
        | none => .skip,
        finishFrame i]

/-- CA_CMD 2 to 5. -/
def campPause (c : Nat) : Act := .read fun s =>
  let st := s.rd (R.CA_STATE c)
  if st = 2 ∨ st = 3 then acts [campLast c 0, putCamp c { s.camp c with phase := st }, wr (R.CA_STATE c) 4] else campLast c 4

def campResume (c : Nat) : Act := .read fun s =>
  if s.rd (R.CA_STATE c) = 4 then acts [campLast c 0, wr (R.CA_STATE c) (s.camp c).phase, campFill c, fill c] else campLast c 4

def campAbort (c : Nat) : Act := .read fun s =>
  if s.rd (R.CA_STATE c) = 0 then campLast c 4
  else acts [campLast c 0, dropCampFrames c, wr (R.CA_STATE c) 6, raise 0x0E06 c c]

def campRelease (c : Nat) : Act := .read fun s =>
  if s.rd (R.CA_STATE c) = 5 ∨ s.rd (R.CA_STATE c) = 6 then
    acts [campLast c 0, addUsers (s.rd (R.CA_IMAGE c)) false, forAll (s.camp c).nodes fun e => wr (R.CN_STATE e.1 c) 0,
      setCamp fun g => { g with camps := g.camps.clear c }, showNodes c, wr (R.CA_STATE c) 0]
  else campLast c 4

/-! ## Multicast (R366) -/

/-- CA_MULTICAST_START: START_ASN has come. -/
def campMulticast (c : Nat) : Act := .read fun s =>
  onlyIf (s.rd (R.CA_STATE c) == 1 && s.rd R.TS_RUN == 1 && decide (s.rd (R.CA_START_ASN c) % 2 ^ 40 ≤ s.asnNow))
    (acts [wr (R.CA_STATE c) 2, campFill c])

/-- CA_BLOCK_SEND: the port offers its next block frame once CA_GAP has passed since the last one started. -/
def campBlock (c p : Nat) : Act := .read fun s =>
  match aget (s.camp c).ports p with
  | none => .skip
  | some x =>
    let o := s.campImage c
    let rep := s.rd (R.CA_REPAIR c)
    let due := match x.last with
      | some t => t + s.rd (R.CA_GAP c) * 1000 * uUs
      | none => 0
    if s.rd (R.CA_STATE c) ≠ 2 ∨ x.frame.isSome ∨ blockTotal o rep ≤ x.next ∨ s.devTime < due then .skip
    else
      let ann := x.since + 1 = 64
      acts [campBroadcast c p (s.blockMsg c (blockIndex o rep x.next)) fun i => .read fun s =>
          putCamp c { s.camp c with
            ports := (s.camp c).ports.set p ⟨x.next + 1, if ann then 0 else x.since + 1, x.last, some i, false⟩ },
        .read fun s => onlyIf (ann && ((s.camp c).ports.at p x).next != x.next)
          (campBroadcast c p (s.announce c) fun _ => .skip)]

/-- The block frame on its way on a port, by its campaign. -/
def State.campOn (s : State) (p i : Nat) : Option (Nat × CampPort) :=
  s.eng.camp.camps.findSome? fun e => match aget e.2.ports p with
    | some x => if x.frame = some i then some (e.1, x) else none
    | none => none

/-- A block frame enters the air: CA_GAP runs from its start. -/
def campKeyed (p i t0 : Nat) : Act := .read fun s =>
  match s.campOn p i with
  | none => .skip
  | some (c, x) => putCamp c { s.camp c with ports := (s.camp c).ports.set p { x with last := some t0, aired := true } }

/-- The frames of the port that are no longer stored have been sent or dropped. -/
def campSettle (p : Nat) : Act := .read fun s =>
  forAll (s.eng.camp.camps.map (·.1)) fun c => .read fun s =>
    match aget (s.camp c).ports p with
    | none => .skip
    | some x => match x.frame with
      | none => .skip
      | some i => if (s.pkt? i).isSome then .skip
          else acts [putCamp c { s.camp c with ports := (s.camp c).ports.set p { x with frame := none, aired := false } },
            onlyIf x.aired (inc (R.CA_BLOCKS_SENT c)), campFill c]

/-! ## STATUS (R367) -/

/-- The campaign a message names. -/
def State.campById (s : State) (id : Nat) : Option Nat :=
  [0, 1, 2, 3].find? fun c => s.rd (R.CA_STATE c) != 0 && s.rd (R.CA_ID c) == id

/-- R364: the message is a well-formed STATUS of a campaign with `rep` repair blocks a group; its Reserved octets are zero, and so are the
bits of blocks that do not exist. DEDUCED: log 87. -/
def statusOk (o : List Nat) (rep : Nat) (b : List Nat) : Bool :=
  b.getD 0 0 == 1 && b.getD 1 0 == 4 && b.length == 12 + 5 * groupCount o && decide (b.getD 4 0 ≤ 5) &&
    ((b.drop 5).take 3).all (· == 0) && (List.range (groupCount o)).all fun g =>
      let f := (b.drop (12 + 5 * g)).take 5
      decide (le (f.take 4) < 2 ^ groupSize o g) && decide (f.getD 4 0 < 2 ^ rep)

/-- CA_STATUS: a datagram from node `n`. DEDUCED: log 87. -/
def campStatus (n : Nat) (b : List Nat) : Act := .read fun s =>
  let bad := inc R.CA_BAD_MSG
  match s.campById (le ((b.drop 2).take 2)) with
  | none => bad
  | some c =>
    if !(statusOk (s.campImage c) (s.rd (R.CA_REPAIR c)) b) then bad
    else match aget (s.camp c).nodes n with
      | none => .skip
      | some x =>
        let ph := if s.rd (R.CA_STATE c) = 4 then (s.camp c).phase else s.rd (R.CA_STATE c)
        if x.state < 1 ∨ 3 < x.state then .skip
        else if ph = 3 then
          if x.state = cnTarget ∧ b.getD 4 0 = 0 then acts [setTarget c n { x with status := some b }, fill c]
          else acts [actOnStatus c n x b, fill c]
        else if ph = 2 then setTarget c n { x with status := some b }
        else .skip

/-- A STATUS_REQ left its queue: CA_STATUS_WAIT runs from now. -/
def campLeft (i : Nat) : Act := .read fun s =>
  forAll s.eng.camp.camps fun e => forAll (e.2.nodes.filter fun x => x.2.req == some i) fun x =>
    setTarget e.1 x.1 { x.2 with left := some s.now }

/-- CA_STATUS_TIMEOUT: the request to a node is unanswered. -/
def campTimeout (c n : Nat) : Act := .read fun s =>
  match aget (s.camp c).nodes n with
  | none => .skip
  | some x => match x.left with
    | none => .skip
    | some t =>
      if s.rd (R.CA_STATE c) ≠ 3 ∨ ¬ (x.state = cnAsked ∨ x.state = cnFilling) ∨
          s.now < t + s.rd (R.CA_STATUS_WAIT c) * 1000000000 then .skip
      else if s.rd (R.CA_FILL_TRIES c) ≤ x.tries + 1 then
        acts [setTarget c n { x with state := cnUnreached, req := none, left := none },
          raiseMs 0 0x0E05 n (c + n * 256), fill c]
      else askStatus c n { x with tries := x.tries + 1 } x.state

/-- A node left the table (R367). DEDUCED: log 87. -/
def campForget (n : Nat) : Act := .read fun s =>
  forAll [0, 1, 2, 3] fun c => match aget (s.camp c).nodes n with
    | some x => onlyIf (x.state != cnRemoved)
        (acts [setTarget c n { x with state := cnRemoved, req := none, left := none, status := none }, fill c])
    | none => .skip

/-- The library empties and every campaign returns to FREE (R361). -/
def campClear : Act := acts [
  forAll [0, 1, 2, 3] fun c => .read fun s => acts [
    dropCampFrames c, forAll (s.camp c).nodes fun e => wr (R.CN_STATE e.1 c) 0, wr (R.CA_STATE c) 0, wr (R.CA_ID c) 0],
  forAll (List.range 64) fun k => acts [imageErase k, wr (R.IM_USERS k) 0],
  setCamp fun g => { g with images := [], sealKeys := [], camps := [] },
  .read fun s => setJobs 4 ((s.jobs 4).filter fun
    | .image _ => false
    | _ => true),
  forAll [0, 1, 2, 3] showNodes]

end Sys2Proof.Machine
end

