-- ==== Sys2Proof/Machine/TimeUnit.lean ====
section
/-! DEFINITION. The time unit, the PTP engine, the servo, timestamp queues, pulse and reference inputs, and the Ethernet ports
(16_backhaul_time.md R370 to R391). -/

namespace Sys2Proof.Machine

open Sys2Proof

def setTime (f : TimeEng → TimeEng) : Act := eng fun e => { e with time := f e.time }

/-! ## PPS_OUT (R389) -/

/-- Nothing keeps PPS_OUT low: it is taken, enabled and not muted (R389). -/
def State.ppsRuns (s : State) : Bool :=
  s.eng.time.ppsTaken && s.rd R.PPS_EN == 1 && !(s.rd R.PPS_HOLD_MUTE == 1 && (s.rd R.SV_STATE == 0 || s.rd R.SV_STATE == 3))

/-- The device time passed since the last whole second plus PPS_OUT_OFFSET. -/
def State.ppsPhase (s : State) : Nat := (((s.devTime : Int) - s.rdi R.PPS_OUT_OFFSET * uNs) % uSec).toNat

/-- The level PPS_OUT has now (R389): high for PPS_WIDTH from the instant on, which lies in the present run of the output; a pulse that was
high when device time stepped ends after what it had left. DEDUCED: log 212. -/
def State.ppsLevel (s : State) : Bool := s.ppsRuns &&
  (decide (s.now < s.eng.time.ppsTail) || (decide (s.ppsPhase < s.rd R.PPS_WIDTH * uNs) && (match s.eng.time.ppsFrom with
    | some u => decide (u + s.ppsPhase ≤ s.devTime)
    | none => true)))

/-- PPS_OUT_PULSE, and whatever else moves its level: the output follows, and a run of it begins or ends. -/
def ppsOut : Act := .read fun s => acts [
  setTime fun g => { g with
    ppsFrom := if s.ppsRuns then some (g.ppsFrom.getD s.devTime) else none
    ppsTail := if s.ppsRuns then g.ppsTail else 0 },
  .read fun s => setTime fun g => { g with ppsOut := s.ppsLevel }]

/-- Device time has stepped: a pulse that was high in `s0` keeps its width, and the next one waits for its instant.
DEDUCED: log 212. -/
def ppsStepped (s0 : State) : Act := .read fun s => acts [
  onlyIf s.ppsRuns (setTime fun g => { g with
    ppsFrom := some s.devTime
    ppsTail := if s0.ppsLevel then max g.ppsTail (s.now + (s.rd R.PPS_WIDTH * uNs - s0.ppsPhase) / uNs) else g.ppsTail }),
  ppsOut]

/-! ## Device time (R377, R378) -/

/-- Device time is `u` from this instant on. -/
def setDevTime (u : Nat) : Act := .read fun s => eng fun e => { e with tu := ⟨u, s.now⟩ }

/-- TU_RATE changes from this instant on. -/
def setRate (r : Int) : Act := .read fun s => acts [setDevTime s.devTime, wri R.TU_RATE r]

/-- A write of TU_RATE: what went before ran at the rate of `s0`. -/
def rateApplied (s0 : State) : Act := setDevTime s0.devTime

def satS64 (x : Int) : Int := max (-(2 ^ 63)) (min (2 ^ 63 - 1) x)

/-- A request that waits at a port for a keying instant that a step has passed is judged afresh (R211). DEDUCED: log 201. -/
def rearm (p : Nat) : Act := .read fun s =>
  match (s.port p).req with
  | some r => onlyIf (s.rd (R.P_STATE p) == 4 && decide (r.t0 < s.devTime + (s.feOf r).antLead * uNs)) (acts [armReq p r,
      .read fun s => onlyIf (s.rd (R.P_STATE p) == 2) (idleNow p)])
  | none => .skip

/-- Device time steps to `u` (R378): the slots of R194, the bins of R254 and the gates of R306 follow. The bin that is open takes what was
emitted before the step, and one more closes for each second passed. -/
def stepTo (u : Nat) : Act := .seq binsFirst <| .read fun s => acts [
  setDevTime u, ppsStepped s, wr R.TU_STEP_SEQ ((s.rd R.TU_STEP_SEQ + 1) % 2 ^ 32),
  raise 0x0F04 0 (unsgn 64 (satS64 (((u : Int) - s.devTime) / uNs))),
  .read fun s' => onlyIf (s'.rd (R.BL_STATE 9) == 0 && s'.secondsDue != 0) (closeSeconds s'.secondsDue s.devTime),
  shiftAir s.devTime u, tsTimeStep s.devTime, forAll (List.range 24) rearm, forAll [0, 1, 2, 3] showGate]

/-- A step by a signed number of ns. -/
def stepBy (ns : Int) : Act := .read fun s => stepTo ((s.devTime : Int) + ns * uNs).toNat

/-- TU_CMD 1 and 2. -/
def tuStep : Act := .read fun s => stepBy (s.rdi R.TU_STEP_NS)
def tuSet : Act := .read fun s => stepTo (s.rdTime (R.TU_SET 0))

/-! ## The servo (R384, R385, Table TIME-7: 0 FREE_RUN, 1 ACQUIRING, 2 LOCKED, 3 HOLDOVER) -/

def setServo (new : Nat) : Act := .read fun s =>
  let old := s.rd R.SV_STATE
  onlyIf (new != old) (acts [wr R.SV_STATE new, ppsOut, raise 0x0F03 0 (new + 16 * old)])

def servoOn (s : State) : Bool := s.rd R.SV_STATE == 1 || s.rd R.SV_STATE == 2

/-- SV_HOLD_AGE: milliseconds of true time since entry to HOLDOVER. -/
def State.holdAge (s : State) : Nat :=
  if s.rd R.SV_STATE = 3 then min (2 ^ 64 - 1) ((s.now - s.eng.time.holdFrom) / 1000000) else s.rd R.SV_HOLD_AGE

/-- The servo enters HOLDOVER from ACQUIRING or LOCKED. -/
def holdover : Act := .read fun s => onlyIf (servoOn s) (acts [
  setRate (s.rdi R.SV_FREQ), setTime fun g => { g with holdFrom := s.now, count := 0 }, wr R.SV_HOLD_AGE 0, setServo 3])

def clampRate (m x : Int) : Int := max (-m) (min m x)

/-- R384. DEDUCED: log 93. -/
def servo (o : Int) : Act := .read fun s =>
  let m : Int := s.rd R.SV_RATE_MAX
  if 0 < s.rd R.SV_STEP_NS ∧ s.rd R.SV_STEP_NS < o.natAbs then stepBy (-o)
  else
    let f := clampRate m (s.rdi R.SV_FREQ - (s.rd R.SV_KI : Int) * o)
    acts [wri R.SV_FREQ f, setRate (clampRate m (f - (s.rd R.SV_KP : Int) * o))]

/-- A measurement of the servo's source (R384, R385); a Standby is steered by its pair loop alone (R405). -/
def measure (o : Int) : Act := .read fun s => if s.rd R.PR_STATE = 2 ∨ s.rd R.PR_STATE = 3 then .skip else
  let st := s.rd R.SV_STATE
  let big := decide (s.rd R.SV_LOCK_NS < o.natAbs)
  let steps := decide (0 < s.rd R.SV_STEP_NS) && decide (s.rd R.SV_STEP_NS < o.natAbs)
  let n := if big ∨ steps then 0 else if servoOn s then s.eng.time.count + 1 else 1
  acts [wri R.SV_OFFSET o, onlyIf (st == 3) (wr R.SV_HOLD_AGE s.holdAge),
    setTime fun g => { g with lastMeas := s.now, count := n },
    if st = 2 ∧ ¬ big then .skip else setServo 1,
    servo o,
    .read fun s => onlyIf (s.rd R.SV_STATE == 1 && decide (s.rd R.SV_LOCK_COUNT ≤ n)) (setServo 2)]

/-- SV_LOSS_TIMEOUT. -/
def svLoss : Act := .read fun s =>
  onlyIf (decide (s.eng.time.lastMeas + s.rd R.SV_LOSS_MS * 1000000 ≤ s.now)) holdover

/-- A write of SV_SOURCE. -/
def svSource : Act := .read fun s => onlyIf (s.rd R.SV_SOURCE == 0) (acts [
  wr R.SV_HOLD_AGE s.holdAge, setTime fun g => { g with count := 0 }, setServo 0])

/-! ## PTP (R380 to R383) -/

def ptpRest : PtpPort := ⟨none, none, none, none, [], 0, 0, 0, none, []⟩

def State.ptp (s : State) (e : Nat) : PtpPort := s.eng.time.ptp.at e ptpRest

def setPtp (e : Nat) (f : PtpPort → PtpPort) : Act := setTime fun g => { g with ptp := g.ptp.set e (f (g.ptp.at e ptpRest)) }

/-- Message types. -/
def ptSync := 0
def ptDelayReq := 1
def ptPdelayReq := 2
def ptPdelayResp := 3
def ptFollowUp := 8
def ptDelayResp := 9
def ptPdelayFollow := 10

/-- A correctionField in units of device time. -/
def corrUnits (c : Int) : Int := c * uFrac

/-- A sub-nanosecond rest as a correctionField. -/
def fracCorr (u : Nat) : Int := (u % uNs / uFrac : Nat)

/-- The receipt time of a message now (R372). -/
def State.stampRx (s : State) (e : Nat) : Nat := s.devTime - s.rd (R.ETH_TS_DELAY_RX e) * uNs
def State.stampTx (s : State) (e : Nat) : Nat := s.devTime + s.rd (R.ETH_TS_DELAY_TX e) * uNs

def State.ownPtp (s : State) (e type seq : Nat) : PtpMsg :=
  ⟨type, s.rd R.PTP_DOMAIN, s.rd R.PTP_SDOID, uidOf, e + 1, seq % 65536, false, 0, 0, 0, 0⟩

/-- The address of PP_IF that a UDP transport of a port sends from. -/
def State.ptpFrom (s : State) (e : Nat) : Nat :=
  let i := s.rd (R.PP_IF e)
  match s.rd (R.PP_TRANSPORT e) with
  | 0 => 0
  | 1 => s.rd (R.IF_IPV4 i 1) % 2 ^ 32
  | _ => s.rd (R.IF_IPV6 i 0) * 2 ^ 64 + s.rd (R.IF_IPV6 i 1)

/-- The octets from destination address to FCS of a PTP message that a port sends: the message (44 or 54 octets) with its headers; the
UDP transports carry a VLAN tag where PP_IF has one, and over IPv6 two octets follow the message. DEDUCED: log 210. -/
def State.ptpLen (s : State) (e : Nat) (m : PtpMsg) : Nat :=
  let body := if [ptPdelayReq, ptPdelayResp, ptDelayResp, ptPdelayFollow].contains m.type then 54 else 44
  let tag := if s.rd (R.IF_VID (s.rd (R.PP_IF e))) = s.rd (R.ETH_PVID e) then 0 else 4
  max 64 (18 + body + match s.rd (R.PP_TRANSPORT e) with
    | 0 => 0
    | 1 => 28 + tag
    | _ => 50 + tag)

/-- A PTP message leaves a port whose link is up and that carries frames (R376, R392, Table TIME-3). -/
def sendPtp (e : Nat) (event : Bool) (m : PtpMsg) : Act := .read fun s =>
  onlyIf (s.rd (R.ETH_LINK e) == 1 && s.backhaulOn e) (acts [emit (.ptp e (s.rd (R.PP_TRANSPORT e)) (s.ptpFrom e) m), onlyIf event (inc (R.PP_EVENT_TX e)),
    inc (R.ETH_TX_FRAMES e), count128 (R.TX_OCTETS e 0) (s.ptpLen e m)])

/-- A received message: of the domain, in a state that takes it; every other one is dropped. On a port that carries no frames it is
filtered with the others (R392). -/
def ptpRx (e : Nat) (event : Bool) (m : PtpMsg) (ok : State → Bool) (go : Act) : Act := .read fun s =>
  if ¬ s.backhaulOn e then inc (R.RX_FILTERED e) else acts [
  onlyIf event (inc (R.PP_EVENT_RX e)),
  if m.domain = s.rd R.PTP_DOMAIN ∧ m.sdo = s.rd R.PTP_SDOID ∧ ok s then go else inc (R.PP_ERRORS e)]

/-- 2^log seconds in SCLK cycles. -/
def logPeriod (log : Int) : Nat := if 0 ≤ log then 2 ^ log.toNat * 1000000000 else 1000000000 / 2 ^ (-log).toNat

/-- A periodic message of kind `k` is due on a port: PP_LOG_SYNC or PP_LOG_DELAY has passed since the last. -/
def ptpDue (e k : Nat) (log : Int) (go : Act) : Act := .read fun s =>
  match aget (s.ptp e).sent k with
  | some t => if s.now < t + logPeriod log then .skip else acts [setPtp e fun p => { p with sent := p.sent.set k s.now }, go]
  | none => acts [setPtp e fun p => { p with sent := p.sent.set k s.now }, go]

/-- PTP_SYNC_TIMER (R382). -/
def ptpSyncTimer (e : Nat) : Act := .read fun s =>
  onlyIf (s.rd (R.PP_STATE e) == 3) (ptpDue e 0 (s.rdi (R.PP_LOG_SYNC e)) (.read fun s =>
    let q := (s.ptp e).seqSync
    let u := s.stampTx e
    let at_ (m : PtpMsg) : PtpMsg := { m with time := u / uNs, corr := fracCorr u }
    acts [setPtp e fun p => { p with seqSync := (q + 1) % 65536 },
      if s.rd (R.PP_ONE_STEP e) = 1 then sendPtp e true (at_ (s.ownPtp e ptSync q))
      else acts [sendPtp e true { s.ownPtp e ptSync q with twoStep := true }, sendPtp e false (at_ (s.ownPtp e ptFollowUp q))]]))

/-- PTP_DELAY_REQ_TIMER (R382). -/
def ptpDelayTimer (e : Nat) : Act := .read fun s =>
  onlyIf ((s.rd (R.PP_STATE e) == 4 || s.rd (R.PP_STATE e) == 5) && s.rd (R.PP_DELAY e) == 0)
    (ptpDue e 1 (s.rdi (R.PP_LOG_DELAY e)) (.read fun s =>
      let q := (s.ptp e).seqDelay
      acts [setPtp e fun p => { p with
          seqDelay := (q + 1) % 65536
          dreq := some ⟨q, 0, 0, s.stampTx e, 0, s.rd R.TU_STEP_SEQ⟩ },
        sendPtp e true (s.ownPtp e ptDelayReq q)]))

/-- PTP_PDELAY_REQ_TIMER (R382). -/
def ptpPdelayTimer (e : Nat) : Act := .read fun s =>
  onlyIf (s.rd (R.PP_STATE e) != 0 && s.rd (R.PP_DELAY e) == 1)
    (ptpDue e 2 (s.rdi (R.PP_LOG_DELAY e)) (.read fun s =>
      let q := (s.ptp e).seqPdelay
      acts [setPtp e fun p => { p with
          seqPdelay := (q + 1) % 65536
          preq := some ⟨q, 0, 0, s.stampTx e, 0, s.rd R.TU_STEP_SEQ⟩ },
        sendPtp e true (s.ownPtp e ptPdelayReq q)]))

/-- The mean of the last 2^PP_DELAY_AVG values of d, in ns. -/
def meanDelay (ds : List Int) : Int := roundDiv (ds.foldl (· + ·) 0) (max 1 (ds.length : Int) * uNs)

/-- A new value of d (R383). DEDUCED: log 90. -/
def newDelay (e : Nat) (d : Int) : Act := .read fun s =>
  let l := (d :: (s.ptp e).ds).take (2 ^ s.rd (R.PP_DELAY_AVG e))
  acts [setPtp e fun p => { p with ds := l }, wri (R.PP_MEAN_DELAY e) (meanDelay l)]

/-- A Sync with its origin time yields a measurement (R383). DEDUCED: log 90. -/
def syncDone (e : Nat) (w : PtpWait) (t1 : Int) : Act := .read fun s =>
  let o := (w.time : Int) - t1 - w.corr
  acts [setPtp e fun p => { p with sync := some (w, t1) },
    onlyIf (s.rd R.SV_SOURCE == 1)
      (measure (roundDiv o uNs - s.rdi (R.PP_MEAN_DELAY e) - s.rdi (R.PP_ASYM e)))]

/-- The sender is the parent of the port, or any sender is (R382). -/
def State.fromParent (s : State) (e : Nat) (m : PtpMsg) : Bool :=
  (s.rd (R.PP_PARENT_ID e) == 0 && s.rd (R.PP_PARENT_PORT e) == 0) ||
    (m.id == s.rd (R.PP_PARENT_ID e) && m.port == s.rd (R.PP_PARENT_PORT e))

def State.slaving (s : State) (e : Nat) : Bool := s.rd (R.PP_STATE e) == 4 || s.rd (R.PP_STATE e) == 5

/-- PTP_SYNC_RX (R383, R385). -/
def ptpSyncRx (e : Nat) (m : PtpMsg) : Act := ptpRx e true m (fun s => s.slaving e && s.fromParent e m) (.read fun s =>
  let w : PtpWait := ⟨m.seq, m.id, m.port, s.stampRx e, corrUnits m.corr, s.rd R.TU_STEP_SEQ⟩
  let other := match (s.ptp e).source with
    | some x => x != (m.id, m.port)
    | none => false
  acts [onlyIf (other && s.rd R.SV_SOURCE == 1 && s.rd (R.PP_PARENT_ID e) == 0 && s.rd (R.PP_PARENT_PORT e) == 0) holdover,
    setPtp e fun p => { p with source := some (m.id, m.port), open_ := if m.twoStep then some w else none },
    onlyIf (!m.twoStep) (syncDone e w (m.time * uNs : Nat))])

/-- PTP_FOLLOW_UP_RX (R383). -/
def ptpFollowUpRx (e : Nat) (m : PtpMsg) : Act := ptpRx e false m (fun s => s.slaving e && s.fromParent e m) (.read fun s =>
  match (s.ptp e).open_ with
  | none => inc (R.PP_ERRORS e)
  | some w =>
    if w.seq ≠ m.seq ∨ w.id ≠ m.id ∨ w.port ≠ m.port then inc (R.PP_ERRORS e)
    else acts [setPtp e fun p => { p with open_ := none },
      syncDone e { w with corr := w.corr + corrUnits m.corr } (m.time * uNs : Nat)])

/-- PTP_DELAY_REQ_RX (R382). -/
def ptpDelayReqRx (e : Nat) (m : PtpMsg) : Act := ptpRx e true m (fun s => s.rd (R.PP_STATE e) == 3) (.read fun s =>
  let u := s.stampRx e
  sendPtp e false { s.ownPtp e ptDelayResp m.seq with
    time := u / uNs
    corr := m.corr - fracCorr u
    reqId := m.id
    reqPort := m.port })

/-- PTP_DELAY_RESP_RX (R383); stamps of different TU_STEP_SEQ are not combined (R378). -/
def ptpDelayRespRx (e : Nat) (m : PtpMsg) : Act :=
  ptpRx e false m (fun s => s.slaving e && s.fromParent e m && m.reqId == uidOf && m.reqPort == e + 1) (.read fun s =>
    match (s.ptp e).dreq, (s.ptp e).sync with
    | some w, some (y, t1) =>
      if w.seq ≠ m.seq then inc (R.PP_ERRORS e)
      else acts [setPtp e fun p => { p with dreq := none },
        onlyIf (w.step == y.step)
          (newDelay e (((y.time : Int) - t1 - y.corr + ((m.time * uNs : Nat) - (w.time : Int) - corrUnits m.corr)) / 2))]
    | _, _ => inc (R.PP_ERRORS e))

/-- PTP_PDELAY_REQ_RX (R382). -/
def ptpPdelayReqRx (e : Nat) (m : PtpMsg) : Act :=
  ptpRx e true m (fun s => s.rd (R.PP_STATE e) != 0 && s.rd (R.PP_DELAY e) == 1) (.read fun s =>
    let u2 := s.stampRx e
    let u3 := s.stampTx e
    let r (type : Nat) : PtpMsg := { s.ownPtp e type m.seq with reqId := m.id, reqPort := m.port }
    if s.rd (R.PP_ONE_STEP e) = 1 then
      sendPtp e true { r ptPdelayResp with corr := m.corr + ((u3 - u2) / uFrac : Nat) }
    else acts [sendPtp e true { r ptPdelayResp with twoStep := true, time := u2 / uNs, corr := -(fracCorr u2) },
      sendPtp e false { r ptPdelayFollow with time := u3 / uNs, corr := m.corr + fracCorr u3 }])

/-- PTP_PDELAY_RESP_RX: the response with u2 as its timestamp and, from a two-step responder, u3; `corr` is the correction of both
messages (R383). -/
def ptpPdelayRespRx (e : Nat) (m : PtpMsg) (u3 : Nat) : Act :=
  ptpRx e true m (fun s => s.rd (R.PP_STATE e) != 0 && s.rd (R.PP_DELAY e) == 1 && m.reqId == uidOf && m.reqPort == e + 1)
    (.read fun s => match (s.ptp e).preq with
      | none => inc (R.PP_ERRORS e)
      | some w =>
        if w.seq ≠ m.seq then inc (R.PP_ERRORS e)
        else acts [setPtp e fun p => { p with preq := none },
          onlyIf (w.step == s.rd R.TU_STEP_SEQ)
            (newDelay e (((s.stampRx e : Int) - w.time - ((u3 : Int) - m.time) * uNs - corrUnits m.corr) / 2))])

/-- The port that serves the servo. -/
def State.sourcePort (s : State) : Option Nat := [0, 1, 2, 3].find? s.slaving

/-- A write of PP_STATE that would make a second UNCALIBRATED or SLAVE port (R381). -/
def State.secondSlave (s : State) (e v : Nat) : Bool :=
  (v == 4 || v == 5) && [0, 1, 2, 3].any fun d => d != e && s.slaving d

/-- PP_STATE written: the servo's port left its states (Table TIME-7). -/
def ppStateApplied (s0 : State) (e : Nat) : Act := .read fun s => acts [
  onlyIf (s0.slaving e && !(s.slaving e) && s.rd R.SV_SOURCE == 1) holdover,
  onlyIf (s0.slaving e != s.slaving e) (setPtp e fun p => { p with
    open_ := none
    sync := none
    dreq := none
    source := none })]

/-- PP_PARENT_ID or PP_PARENT_PORT written (R385). -/
def ppParentApplied (e : Nat) : Act := .read fun s =>
  onlyIf (s.slaving e && s.rd R.SV_SOURCE == 1) holdover

/-! ## Transmit timestamp queues (R386, R387) -/

def State.tq (s : State) (q : Nat) : List TqEntry := s.eng.time.tq.at q []

def setTq (q : Nat) (l : List TqEntry) : Act := acts [
  setTime fun g => { g with tq := if l.isEmpty then g.tq.clear q else g.tq.set q l }, wr (R.TQ_DEPTH q) l.length]

def pushTs (q : Nat) (x : TqEntry) : Act := .read fun s =>
  if (s.tq q).length < 64 then setTq q (s.tq q ++ [x])
  else acts [inc (R.TQ_OVERFLOW q), raiseMs q 0x0F05 q q]

/-- A frame with a wanted timestamp left on an Ethernet port (eth MGMT has no queue). -/
def ethStamp (e ts fin : Nat) : Act := .read fun s => onlyIf (decide (e < 4)) (acts [
  pushTs e ⟨e, 0, ts, s.stampTx e⟩, setTime fun g => { g with wire := g.wire.set e (fin, ts) }])

/-- A frame with a wanted timestamp was keyed: its entry follows when it ends. -/
def airStamp (req ts u : Nat) : Act := setTime fun g => { g with stamps := g.stamps.set req (ts, u) }

/-- A radio transmission ended. -/
def airEnded (r : TxReq) (st : Nat) : Act := .read fun s =>
  match aget s.eng.time.stamps r.id with
  | none => .skip
  | some (ts, u) => acts [setTime fun g => { g with stamps := g.stamps.clear r.id }, pushTs 4 ⟨r.port, st, ts, u⟩]

/-- A frame with a wanted timestamp was freed without being keyed: zero time, and a status that the spec leaves open.
DESIGN CHOICE: log 92. -/
def airLost (ts : Nat) : Act := takeFree fun v => pushTs 4 ⟨v / 16 % 24, v % 11, ts, 0⟩

/-- The word a read of TQ_ENTRY returns, and its time. -/
def State.tqWord (s : State) (q : Nat) : Nat × Nat :=
  match s.tq q with
  | [] => (0, 0)
  | x :: _ => (2 ^ 63 + x.source * 2 ^ 48 + x.status * 2 ^ 40 + x.id % 65536, x.time)

def tqPop (q : Nat) : Act := .read fun s => setTq q ((s.tq q).drop 1)

def clearTqs : Act := acts [forAll (List.range 5) fun q => setTq q [], setTime fun g => { g with stamps := [], wire := [] }]

/-! ## Pulse and reference inputs (R388 to R390) -/

/-- The distance of a device time from the nearest whole second, in ns. -/
def fromSecond (u : Int) : Int :=
  let r := u % (uSec : Int)
  let ns := roundDiv r uNs
  if (uSec : Int) ≤ 2 * r then ns - 1000000000 else ns

/-- PPS_IN_EDGE. -/
def ppsIn (rising : Bool) : Act := .read fun s =>
  if rising = (s.rd R.PPS_IN_EDGE == 0) then acts [
    setTime fun g => { g with ppsLast := some s.now },
    onlyIf (s.rd R.SV_SOURCE == 2) (measure (fromSecond ((s.devTime : Int) - s.rdi R.PPS_IN_DELAY * uNs)))]
  else .skip

/-- PPS_IN_LOST. -/
def ppsLost : Act := .read fun s =>
  match s.eng.time.ppsLast with
  | none => .skip
  | some t => onlyIf (decide (t + 1500000000 ≤ s.now)) (acts [
      setTime fun g => { g with ppsLast := none }, raise 0x0F07 0 0, onlyIf (s.rd R.SV_SOURCE == 2) holdover])

/-- PPS_EN written. -/
def ppsEn : Act := .read fun s => acts [onlyIf (s.rd R.PPS_EN == 1) (setTime fun g => { g with ppsTaken := true }), ppsOut]

/-- A frequency measured at TREF_IN, in Hz, lies within ±200 ppm of TR_FREQ (R390). -/
def State.trefFits (s : State) (hz : Nat) : Bool :=
  let f := if s.rd R.TR_FREQ = 0 then 10000000 else 38400000
  decide (((hz : Int) - (f : Nat)).natAbs * 1000000 ≤ 200 * f)

/-- The TCLK PLL takes its reference from TREF_IN, else from REFCLK_IN (R390). -/
def State.tclkFromTref (s : State) : Bool := s.rd R.TR_EN == 1 && s.rd R.TR_VALID == 1

/-- TREF_VALIDITY_CHANGE: a measurement of TREF_IN decides its validity. -/
def trefChange (hz : Nat) : Act := .read fun s =>
  let valid := s.trefFits hz
  if (s.rd R.TR_VALID == 1) = valid then .skip
  else acts [wr R.TR_VALID (b2n valid), raise (if valid then 0x0F09 else 0x0F08) 0 0]

/-! ## MDIO (R371) -/

/-- MD_CMD starts an operation; the first one takes MDC and MDIO (R38). DEDUCED: log 166. -/
def mdioStart (w : Nat) : Act := acts [eng fun e => { e with rst := { e.rst with mdTaken := true } }, setTime fun g => { g with mdio := some w }, wr R.MD_RESULT 0]

/-- MDIO_DONE: what the PHY answered. -/
def mdioDone (answer : Option Nat) : Act := .read fun s =>
  match s.eng.time.mdio with
  | none => .skip
  | some w => acts [setTime fun g => { g with mdio := none },
      wr R.MD_RESULT (2 ^ 63 + match answer with
        | some d => if bit? w 62 then 0 else d % 65536
        | none => 2 ^ 62)]

/-! ## Ethernet ports (R373, R374, R376) -/

/-- The speeds of a mode (Table TIME-1): 10GBASE-R, 1000BASE-X, SGMII, RGMII. -/
def modeSpeeds (mode : Nat) : List Nat := [[], [4], [3], [1, 2, 3], [1, 2, 3]].getD mode []

/-- ETH_LINK_UP and ETH_LINK_DOWN. -/
def ethUp (e speed : Nat) : Act := .read fun s =>
  onlyIf (s.rd (R.ETH_LINK e) == 0 && (modeSpeeds (s.rd (R.ETH_MODE e))).contains speed)
    (acts [wr (R.ETH_LINK e) 1, wr (R.ETH_SPEED e) speed, raise 0x0F01 e (e + speed * 256)])

/-- The last entry of a sent frame with an identifier says that the frame was lost (Table TIME-9). -/
def markLost (ts : Nat) : List TqEntry → List TqEntry
  | [] => []
  | x :: rest => if x.id = ts ∧ x.status = 0 ∧ ¬ (rest.any fun y => y.id == ts && y.status == 0) then { x with status := 1 } :: rest
    else x :: markLost ts rest

/-- A frame still on the wire when the link drops is lost: its timestamp entry says so (Table TIME-9). -/
def ethDown (e : Nat) : Act := .read fun s => onlyIf (s.rd (R.ETH_LINK e) == 1) (acts [
  match aget s.eng.time.wire e with
  | some (fin, ts) => onlyIf (decide (s.now < fin)) (setTq e (markLost ts (s.tq e)))
  | none => .skip,
  wr (R.ETH_LINK e) 0, wr (R.ETH_SPEED e) 0, raise 0x0F02 e e])

/-- A received frame: destination, VID when it has a tag, EtherType, and the octets after it. -/
structure EthIn where
  dst : Nat
  vid : Option Nat
  type : Nat
  body : List Nat
  stacked : Bool
  deriving DecidableEq, Repr

def ethParse (f : List Nat) : EthIn :=
  let t := be ((f.drop 12).take 2)
  let t2 := be ((f.drop 16).take 2)
  let tag (x : Nat) : Bool := x == 0x8100 || x == 0x88A8
  if t = 0x8100 then ⟨be (f.take 6), some (be ((f.drop 14).take 2) % 4096), t2, f.drop 18, tag t2⟩
  else ⟨be (f.take 6), none, t, f.drop 14, t == 0x88A8⟩

/-- The interface of a frame (R373): the lowest one of the port with its VID. -/
def State.ethIf (s : State) (e : Nat) (x : EthIn) : Option Nat :=
  let vid := x.vid.getD (s.rd (R.ETH_PVID e))
  (List.range 16).find? fun i => s.rd (R.IF_PORT i) == e && s.rd (R.IF_VID i) == vid

/-- R373: the destination addresses a port takes. -/
def State.ethForUs (s : State) (e d : Nat) : Bool :=
  d == s.rd (R.ETH_MAC e) % 2 ^ 48 || d == 0xFFFFFFFFFFFF || d / 2 ^ 32 == 0x3333 || d / 2 ^ 24 == 0x01005E ||
    d == 0x011B19000000 || d == 0x0180C200000E

/-- The address is one of the interface's own. -/
def State.ifOwns (s : State) (i a : Nat) : Bool :=
  (s.rd (R.IF_V6_LEN i) != 0 && a == s.rdIp (R.IF_IPV6 i 0)) || (s.rd (R.IF_V4_LEN i) != 0 && a == s.rdIp (R.IF_IPV4 i 0))

/-- The multicast addresses of PTP: 224.0.1.129, 224.0.0.107, ff0e::181 and ff02::6b. -/
def ptpGroup (a : Nat) : Bool :=
  a == 0xFFFFE0000181 || a == 0xFFFFE000006B || a == ipv6 0xFF0E000000000000 0x181 || a == ipv6 0xFF02000000000000 0x6B

/-- An IP packet without the padding of its frame. -/
def ipTrim (o : List Nat) : List Nat :=
  if ipVer o = 6 then o.take (40 + be ((o.drop 4).take 2)) else o.take (be ((o.drop 2).take 2))

/-- Where an accepted frame goes (Table TIME-2). The rows of PTP and DDP messages carry what those engines take. -/
inductive EthTo where
  | ptp (msg : List Nat)
  | ddp
  | ctrl
  | pipe (o : List Nat)
  | none
  deriving DecidableEq, Repr

def State.ethDest (s : State) (e i : Nat) (x : EthIn) : EthTo :=
  if x.type = 0x88F7 then if s.rd (R.PP_TRANSPORT e) = 0 ∧ e < 4 then .ptp x.body else .none
  else if x.type = 0x0806 then .ctrl
  else if x.type = 0x0800 ∨ x.type = 0x86DD then
    let o := ipTrim x.body
    let dst := ipDst o
    let v6 := x.type == 0x86DD
    let ours := s.ifOwns i dst
    let udp := udpPort o
    let ptp := (udp == some 319 || udp == some 320) && (ours || ptpGroup dst) && decide (e < 4) &&
      s.rd (R.PP_TRANSPORT e) == (if v6 then 2 else 1)
    if ptp then .ptp (if v6 then o.drop 48 else o.drop (4 * (o.getD 0 0 % 16) + 8))
    else if udp = some (s.rd R.UDP_PORT) ∧ ours ∧ bit? (s.rd R.UDP_EN) e then .ddp
    else if ours ∨ (v6 ∧ isMulticast dst) then .ctrl
    else .pipe o
  else .none

/-- A PAUSE frame: its quanta. -/
def pauseOf (f : List Nat) : Option Nat :=
  if be (f.take 6) = 0x0180C2000001 ∧ be ((f.drop 12).take 4) = 0x88080001 then some (be ((f.drop 16).take 2)) else none

/-- The flow class of a frame of port `e` (R296): by its DSCP if it carries an IP packet. -/
def State.ethClass (s : State) (e : Nat) (x : EthIn) : Nat :=
  if x.type = 0x0800 ∨ x.type = 0x86DD then s.flowClass e x.body else s.rd R.TM_DEFAULT_FC

/-- A frame of port `e` goes to host FIFO `fifo`, past the meter of its flow class (R305). DEDUCED: log 191. -/
def ingressHost (fifo source e : Nat) (f : List Nat) : Act := .read fun s =>
  let x := ethParse f
  allocPkt { blankPkt with form := .host, octets := f, source := source, port := e, time := s.stampRx e }
    (fun i => meterPkt (s.rd (R.FC_METER (s.ethClass e x))) (f.length + 4)
      (if x.type = 0x0800 ∨ x.type = 0x86DD then f.length - x.body.length else f.length) i (toQueue (4064 + fifo) 3 [i])) .skip

/-- ETH_RX_FRAME: a frame without its FCS, and whether that was right. PRESUMED: log 77, 91. DEDUCED: log 191. -/
def ethRx (e : Nat) (f : List Nat) (fcsOk : Bool) : Act := .read fun s =>
  let x := ethParse f
  if s.rd (R.ETH_LINK e) = 0 then .skip
  else if !fcsOk then inc (R.RX_FCS_ERR e)
  else match pauseOf f with
    | some q => acts [inc (R.RX_PAUSE e), onlyIf (s.rd (R.ETH_PAUSE e) == 1)
        (setTime fun g => { g with paused := g.paused.set e (s.now + s.wireTime e (q * 64) / uNs) })]
    | none =>
      if ¬ s.backhaulOn e then inc (R.RX_FILTERED e) else
      match s.ethIf e x with
      | none => inc (R.RX_FILTERED e)
      | some i =>
        if s.rd (R.ETH_MTU e) + 22 < f.length + 4 ∨ x.stacked ∨ ¬ s.ethForUs e x.dst then inc (R.RX_FILTERED e)
        else acts [inc (R.ETH_RX_FRAMES e), count128 (R.RX_OCTETS e 0) (f.length + 4),
          match s.ethDest e i x with
          | .ptp m => let t := m.getD 0 0 % 16
              if t < 11 ∨ 13 < t then .skip
              else if m.getD 4 0 ≠ s.rd R.PTP_DOMAIN ∨ m.getD 0 0 / 16 * 256 + m.getD 5 0 ≠ s.rd R.PTP_SDOID then inc (R.PP_ERRORS e)
              else ingressHost (s.rd R.PTP_FIFO) 3 e f
          | .ddp => .skip
          | .ctrl => ingressHost (s.rd R.ETH_CTRL_FIFO) 2 e f
          | .pipe o =>
            let fc := s.flowClass e o
            allocPkt { blankPkt with octets := o, port := e, time := s.stampRx e }
              (fun k => meterPkt (s.rd (R.FC_METER fc)) (f.length + 4) 0 k (toPipe fc none o k)) .skip
          | .none => inc (R.RX_FILTERED e)]

/-! ## Resets (R377, R385, R386) -/

/-- A release of System reach or wider starts device time from `u`. -/
def timeRestart (u : Nat) : Act := acts [wri R.TU_RATE 0, setDevTime u, clearTqs,
  setTime fun g => { g with
    ptp := []
    count := 0
    paused := []
    mdio := none
    ppsLast := none
    ppsTaken := false
    ppsOut := false
    ppsFrom := none
    ppsTail := 0 }]

end Sys2Proof.Machine
end

