-- ==== Sys2Proof/Machine/Txns.lean ====
section
/-! DEFINITION. Transactions and sessions as records: handles, staging, locks, aborts, responses and closing
(04_transactions_configurations.md R91 to R96, R99, R101, R103, R104; 03_object_dictionary.md R74, R84 to R86). -/

namespace Sys2Proof.Machine

open Sys2Proof

def setTxns (f : TxnEng → TxnEng) : Act := eng fun e => { e with txn := f e.txn }

/-! ## DDP messages toward a session (R74, R86) -/

/-- A device message: header words and payload (Table DICT-3); PROT is set in an open session on UDP or the mesh. -/
def ddpWords (type flags session seq status version txn : Nat) (payload : List Word) : List Word :=
  BitVec.ofNat 64 (type * 2 ^ 56 + flags * 2 ^ 48 + session * 2 ^ 32 + seq) ::
    BitVec.ofNat 64 (8 * payload.length * 2 ^ 48 + status * 2 ^ 40 + version * 2 ^ 32 + txn * 2 ^ 24) :: payload

/-- FLAGS of a device message on a slot. -/
def State.ddpFlags (s : State) (k : Nat) (rsp : Bool) : Nat :=
  (if rsp then 128 else 0) + (if 2 ≤ s.rd (R.S_STATE k) ∧ s.rd (R.S_TRANSPORT k) ≠ 1 ∧ s.rd (R.S_KEY k) ≠ 0xFFFF then 32 else 0)

/-- Change a session. -/
def updSess (k : Nat) (f : Sess → Sess) : Act := .read fun s =>
  match aget s.eng.sess k with
  | some q => setSess k (f q)
  | none => .skip

/-- The nonce of a message (R75); `dir` is 0 for a request, 1 for a response, 2 for an EVENT. DEDUCED: log 168. -/
def ddpNonce (session dir seq : Nat) : List Nat := leOctets 2 session ++ [dir] ++ leOctets 4 seq ++ List.replicate 6 0

/-- A device message as it leaves: where PROT is set its payload is encrypted and followed by the MIC (R75). -/
def sealDdp (key : List Nat) (dir : Nat) (ws : List Word) : List Word :=
  let w0 := (ws.headD 0).toNat
  if bit? w0 53 then
    ws.take 2 ++ octetsToWords (Config.ccmSeal key (ddpNonce (fld w0 47 32) dir (fld w0 31 0)) (wordsToOctets (ws.take 2))
      (wordsToOctets (ws.drop 2)) 16)
  else ws

/-- The key of a session (R82). -/
def State.sessKey (s : State) (k : Nat) : List Nat := ((aget s.eng.sess k).map fun q => q.key).getD []

/-- A mailbox exchange ends with a response of so many words, written to its buffer (R73). DEDUCED: log 39. -/
def mailboxDone (i : Nat) (ws : List Word) : Act := .read fun s => acts [
  forAll ws.zipIdx fun x => emit (.bus (s.rd (R.MBX_RSP_ADDR i) + 8 * x.2) (some x.1.toNat)),
  wr (R.MBX_RSP_LEN i) (8 * ws.length),
  if s.eng.host.rspBad then acts [wr (R.MBX_STATUS i) 3, eng fun e => { e with host := { e.host with rspBad := false } }]
  else acts [wr (R.MBX_STATUS i) 2, edge (192 + i)]]

/-- A device message leaves; its protection is a request of crypto queue 2 (Table KEYS-7). One that finds the queue full does not leave; a
response stays cached for the manager that asks again (R86). -/
def sendSealed (k : Nat) (ws : List Word) : Act :=
  if bit? (ws.headD 0).toNat 53 then askJob 2 (.ddpOut k ws) (emit (.ddp k ws)) .skip else emit (.ddp k ws)

/-- The response to a request leaves, and is cached among the last C (R86); a mailbox signals its completion (R73).
DEDUCED: log 142. -/
def respond (k seq type status txn : Nat) (payload : List Word) : Act := .read fun s =>
  let ws := sealDdp (s.sessKey k) 1
    (ddpWords type (s.ddpFlags k true) (s.rd (R.S_ID k)) seq status (s.rd (R.S_VERSION k)) txn payload)
  acts [updSess k fun q => { q with
      cache := (q.cache ++ [(seq, ws)]).drop ((q.cache.length + 1) - s.rd (R.S_CREDITS k))
      waiting := q.waiting.filter fun w => w.1 != seq },
    sendSealed k ws,
    if s.rd (R.S_TRANSPORT k) = 1 then mailboxDone (s.rd (R.S_BIND k)) ws else .skip]

/-! ## Records (R91, R92, Tables TXN-2, TXN-4 and TXN-5) -/

def State.txn? (s : State) (h : Nat) : Option Txn := aget s.eng.txn.txns h

def putTxn (h : Nat) (x : Txn) : Act := setTxns fun g => { g with txns := g.txns.set h x }

def State.ownerWord (s : State) (w : Who) : Nat :=
  match w with
  | .ddp k => 2 ^ 24 + s.rd (R.S_ID k)
  | .ap m => 2 * 2 ^ 24 + m
  | .dev => 3 * 2 ^ 24

/-- The handle a new transaction takes: one never used, else the one whose transaction finished longest ago.
DEDUCED: log 48. -/
def State.nextHandle (s : State) : Option Nat :=
  if 64 ≤ s.rd R.OPEN_COUNT then none
  else match ((List.range 64).map (· + 1)).find? fun h => s.rd (R.T_STATE h) == 0 with
    | some h => some h
    | none => s.eng.txn.finished.head?

/-- A transaction opens, or fails with RESOURCE (R92). -/
def openTxn (w : Who) (ok : Nat → Act) (no : Act) : Act := .read fun s =>
  match s.nextHandle with
  | none => no
  | some h => acts [
      forAll (List.range 13) fun m => wr ⟨0x0100, h, m⟩ 0,
      setTxns fun g => { g with finished := g.finished.filter (· != h) },
      putTxn h ⟨w, s.rd R.COMMIT_SEQ, [], s.now, [], .none, none, [], [], none, none⟩,
      wr (R.T_STATE h) 1, wr (R.T_OWNER h) (s.ownerWord w), inc R.OPEN_COUNT, ok h]

/-- The DDP status of an abort cause (Table TXN-4). DEDUCED: log 37. -/
def causeStatus (c : Nat) : Nat := [0, 9, 0xA, 0xB, 0, 6, 0, 0xB, 0xA, 9].getD c 0

/-- A ref word (Table DICT-5). DEDUCED: log 43. -/
def refWord (r : Ref) (count status : Nat) : Nat := r.idx * 2 ^ 48 + r.inst * 2 ^ 24 + r.mem * 2 ^ 16 + count % 256 * 2 ^ 8 + status

/-- The binding of every master bound to a handle ends (R93). -/
def unbindAll (h : Nat) : Act := .read fun s =>
  forAll ((List.range 18).filter fun m => s.rd (R.A_BIND m) == h) fun m => wr (R.A_BIND m) 0

/-- Who committed hears of the end. DEDUCED: log 37. -/
def answerTxn (h status : Nat) (x : Txn) : Act := .read fun s =>
  match x.resp with
  | .none => .skip
  | .commit k seq => respond k seq 0x23 status h
      (if status = 0 then [s.word (R.T_APPLIED h 0), s.word (R.T_APPLIED h 1)] else [0, 0])
  | .atomic k seq refs => respond k seq 0x13 0 0 (refs.map fun w => BitVec.ofNat 64 (setFld w.toNat 7 0 status))
  | .ap m => wr (R.A_COMMIT m) status
  | .mode => acts [onlyIf (status != 0) (raise 0x0104 h (h + s.rd (R.T_CAUSE h) * 256)),
      wr R.MODE_APPLY (status * 256 + h)]
  | .partition d gone =>
    if status ≠ 0 then raise 0x1105 0 (d + s.rd (R.T_CAUSE h) * 256)
    else match gone with
      | none => .skip
      | some v => eng fun e => { e with nodes := { e.nodes with cache :=
          (e.nodes.cache.map fun x => (x.1, x.2.filter fun c => c.owner != v)).filter fun x => !(x.2.isEmpty) } }

/-- A transaction is over: its handle names no live one. -/
def finishTxn (h state : Nat) : Act := .read fun s => acts [
  wr (R.T_STATE h) state, wr R.OPEN_COUNT (s.rd R.OPEN_COUNT - 1), unbindAll h,
  setTxns fun g => { g with
    txns := g.txns.clear h
    finished := g.finished.filter (· != h) ++ [h]
    waits := g.waits.filter fun w => w.what != .commit h }]

/-- What an abort tells the other devices (R107, R108): a coordinator its prepared branches, a branch that prepares its
coordinator. DEDUCED: log 44. -/
def tellPeers (h cause : Nat) (x : Txn) : Act := .read fun s => acts [
  forAll (x.prepared.filter fun d => d != s.rd R.DEVNUM) fun d =>
    fabPost d 0x03 0 (h + (if cause = 5 then 5 else 9) * 256) [],
  match x.asked with
  | some (l, p) => onlyIf (s.rd (R.T_STATE h) == 2) (fabAnswer l p 0x82 (p.arg % 256 + cause * 256) [])
  | none => .skip]

/-- Items after further ones of a transaction are staged: a plain write replaces what the member had before (R95). -/
def stageOver (old new : List Staged) : List Staged :=
  new.foldl (fun acc i => (if i.op = 0 then acc.filter fun j => j.ref != i.ref else acc) ++ [i]) old

/-- Every abort (R99, R104): locks are released with the record. DEDUCED: log 141. -/
def abortWith (h cause status : Nat) (fail : Option Ref) : Act := .read fun s =>
  match s.txn? h with
  | none => .skip
  | some x => acts [
      tellPeers h cause x,
      wr (R.T_CAUSE h) cause,
      match fail with
      | some r => wr (R.T_FAIL_REF h) (refWord { r with mem := 0 } 1 0)
      | none => .skip,
      onlyIf (cause == 3) (inc R.LOCK_TIMEOUTS),
      finishTxn h 6, inc R.ABORT_COUNT, raise 0x0102 h (h + cause * 256), answerTxn h status x]

def abortTxn (h cause : Nat) (fail : Option Ref) : Act := abortWith h cause (causeStatus cause) fail

/-! ## Locks (R99, R101) -/

/-- The order of object instances. -/
def pairLt (a b : Nat × Nat) : Bool := decide (a.1 < b.1) || (a.1 == b.1 && decide (a.2 < b.2))

/-- A set of object instances in ascending order. -/
def sortPairs (l : List (Nat × Nat)) : List (Nat × Nat) := (l.foldl (fun acc o => aput pairLt acc o ()) []).map (·.1)

/-- The objects of items, in ascending order of index and instance. -/
def objectsOf (items : List Staged) : List (Nat × Nat) := sortPairs (items.map fun i => (i.ref.idx, i.ref.inst))

/-- The further locks that chapters name: a write of a slot table takes the lock of ST_ACTIVE (R203), one of a gate bank that of
the port's GT_ACTIVE (R309). -/
def moreLocks (objs : List (Nat × Nat)) : List (Nat × Nat) :=
  objs.flatMap (fun o =>
    if o.1 = 0x2010 ∨ o.1 = 0x2011 ∨ o.1 = 0x2100 ∨ o.1 = 0x2101 then [(R.ST_ACTIVE.idx, R.ST_ACTIVE.inst)]
    else if o.1 = 0x3471 ∨ o.1 = 0x3472 then [(0x3470, o.2)] else [])

/-- Every lock that writes of some objects take, in ascending order. -/
def locksFor (objs : List (Nat × Nat)) : List (Nat × Nat) :=
  sortPairs (objs ++ moreLocks objs)

/-- Another transaction than `h` holds the lock of an object. -/
def State.locked (s : State) (h : Nat) (o : Nat × Nat) : Bool :=
  s.eng.txn.txns.any fun e => e.1 != h && e.2.held.contains o

/-- The outcome of staged items on the words of a state (R95). -/
def applyOne (s : State) (i : Staged) : State :=
  let old := s.word i.ref
  let v := if i.op = 1 then old ||| i.val else if i.op = 2 then old &&& ~~~i.val else i.val
  { s with objs := Store.write s.objs i.ref v }

def State.withItems (s : State) (items : List Staged) : State := items.foldl applyOne s

/-- The writes of items. -/
def writeItems (items : List Staged) : Act := forAll items fun i => .read fun s =>
  let old := s.word i.ref
  .eff (.wr i.ref (if i.op = 1 then old ||| i.val else if i.op = 2 then old &&& ~~~i.val else i.val))

/-- The commit sequence advances and marks the objects (R102). -/
def markCommit (objs : List (Nat × Nat)) : Act := .read fun s =>
  let n := s.rd R.COMMIT_SEQ + 1
  acts [wr R.COMMIT_SEQ n, setTxns fun g =>
    let l := objs.foldl (fun l o => aput pairLt l o n) g.lastCommit
    { g with lastCommit := l }]

/-- R99, R203: the first object committed since the transaction opened. -/
def State.conflictOf (s : State) (x : Txn) : Option (Nat × Nat) :=
  (locksFor (objectsOf x.items)).find? fun o => decide (x.openSeq < (aget s.eng.txn.lastCommit o).getD 0)

/-- Open transactions of a session or master whose owner is gone abort; those committed lose their answer (Table TXN-1). -/
def ownerGone (w : Who) : Act := .read fun s =>
  forAll (s.eng.txn.txns.filter fun e => e.2.who == w) fun e =>
    if s.rd (R.T_STATE e.1) = 1 then abortTxn e.1 6 none
    else putTxn e.1 { e.2 with resp := .none, who := .ap 255 }

/-- A Block reset of an agent aborts every transaction that staged an object of it (Table TXN-1). -/
def resetAborts (mine : Ref → Bool) : Act := .read fun s =>
  forAll (s.eng.txn.txns.filter fun e => e.2.items.any fun i => mine i.ref) fun e => abortTxn e.1 8 none

/-- TXN_IDLE_TIMEOUT. -/
def txnIdle : Act := .read fun s =>
  forAll (s.eng.txn.txns.filter fun e => s.rd (R.T_STATE e.1) == 1 &&
      decide (e.2.touched + s.rd R.IDLE_LIMIT * 1000000 ≤ s.now)) fun e => abortTxn e.1 7 none

/-- Every transaction and record is cleared (Table TXN-1, last row). -/
def clearTxns : Act := acts [
  forAll ((List.range 64).map (· + 1)) fun h => forAll (List.range 13) fun m => wr ⟨0x0100, h, m⟩ 0,
  forAll (List.range 18) fun m => wr (R.A_BIND m) 0,
  wr R.OPEN_COUNT 0,
  setTxns fun g => { g with txns := [], finished := [], waits := [], seqs := [], snaps := [], behind := [] }]

/-! ## Sessions (R84, R85, Table DICT-7) -/

/-- A slot is FREE. DEDUCED: log 26. -/
def freeSession (k : Nat) : Act := acts [
  setTxns fun g => { g with snaps := g.snaps.filter fun e => e.1.1 != .ddp k },
  forAll (List.range 11) fun m => wr ⟨0x0020, k, m⟩ (dflt ⟨0x0020, k, m⟩), eng fun e => { e with sess := e.sess.clear k }]

/-- An item of a READ, WRITE, SET_BITS or CLEAR_BITS of a session waits for a lock. -/
def State.itemWaits (s : State) (k : Nat) : Bool :=
  s.eng.txn.waits.any fun w => match w.what with
    | .run r => r.slot == k
    | _ => false

/-- A request of a session waits for a lock. -/
def State.waitsForLock (s : State) (k : Nat) : Bool :=
  s.itemWaits k || s.eng.txn.txns.any fun e => match e.2.resp with
    | .atomic j _ _ => j == k
    | _ => false

/-- Requests of a session that still execute: they wait for a lock, or are commits whose locks and tests are under way. A
commit that waits for its instant does not execute: it applies whether or not its owner is there (R85, Table TXN-1). -/
def State.executing (s : State) (k : Nat) : Bool :=
  s.waitsForLock k || s.eng.txn.txns.any fun e => s.rd (R.T_STATE e.1) == 2 && match e.2.resp with
    | .commit j _ => j == k
    | _ => false

/-- A session enters CLOSING: held requests are discarded, open transactions aborted (R85). -/
def closeSession (k cause : Nat) (seq : Option Nat) : Act := .read fun s =>
  onlyIf (s.rd (R.S_STATE k) == 2) (acts [wr (R.S_STATE k) 3,
    updSess k fun q => { q with held := [], cause := cause, closeSeq := seq },
    .read fun s => forAll (s.eng.txn.txns.filter fun e => e.2.who == .ddp k && s.rd (R.T_STATE e.1) == 1) fun e => abortTxn e.1 6 none])

/-- SESSION_CLOSE_COMPLETE. -/
def closeComplete (k : Nat) : Act := .read fun s =>
  match aget s.eng.sess k with
  | none => .skip
  | some q =>
    if s.rd (R.S_STATE k) ≠ 3 ∨ s.executing k then .skip
    else acts [
      match q.closeSeq with
      | some seq =>
        let ws := sealDdp q.key 1 (ddpWords 0x06 (s.ddpFlags k true) (s.rd (R.S_ID k)) seq 0 (s.rd (R.S_VERSION k)) 0 [])
        acts [sendSealed k ws, if s.rd (R.S_TRANSPORT k) = 1 then mailboxDone (s.rd (R.S_BIND k)) ws else .skip]
      | none => .skip,
      ownerGone (.ddp k), freeSession k, raise 0x0002 k (k + q.cause * 256)]

/-- Sessions end with nothing sent (Table DICT-7, last row). -/
def clearSessions : Act := acts [forAll (List.range 64) freeSession, eng fun e => { e with sess := [] }]

end Sys2Proof.Machine
end

