-- ==== Sys2Proof/Machine/Irq.lean ====
section
/-! DEFINITION. The interrupt controller's claims and completes, its modes, the processor event queue and the general timers
(20_interrupts_timers.md R452 to R472). -/

namespace Sys2Proof.Machine

open Sys2Proof

/-! ## Claims and completes (R455, R458, R459) -/

/-- The masters that may claim and complete in a context (Table IRQ-3). -/
def ctxMaster (x m : Nat) : Bool :=
  if x = 16 then m == 16
  else if 17 ≤ x then m == 17
  else m == x || (x % 2 == 1 && m + 1 == x)

/-- The eligible source a claim takes: highest priority, then lowest ID. -/
def State.claimSource (s : State) (x : Nat) : Option Nat :=
  (s.eligibleFor x).foldl (fun best src => match best with
    | none => some src
    | some b => if s.srcPrio b < s.srcPrio src then some src else some b) none

/-- What a read of CX_CLAIM returns. -/
def State.claimValue (s : State) (x : Nat) : Nat :=
  match s.claimSource x with
  | some src => src
  | none => if s.eng.irq.asserted.contains x then 2047 else 0

def wrBit (r : Ref) (i : Nat) (v : Bool) : Act := .read fun s => wr r (if v then setBit (s.rd r) i else clrBit (s.rd r) i)

/-- The context's request signal counts as asserted since its last claim only if it still is. -/
def claimed (x : Nat) : Act := .read fun s => setIrq fun q =>
  { q with asserted := (if s.rd (R.CX_REQUEST x) = 1 then [x] else []) ++ q.asserted.filter (· ≠ x) }

/-- CX_CLAIM. -/
def claim (x : Nat) : Act := .read fun s =>
  match s.claimSource x with
  | some src => acts [wrBit (R.IRQ_PENDING (src / 64)) (src % 64) false, wrBit (R.IRQ_ACTIVE (src / 64)) (src % 64) true,
      setIrq fun q => { q with claimant := q.claimant.set src x }, followRequest x, claimed x]
  | none => acts [onlyIf (s.eng.irq.asserted.contains x) (inc (R.CX_SPURIOUS x)), claimed x]

/-- An ACTIVE source is completed; a critical level is sampled again (R457, Table IRQ-4). -/
def completeSource (src : Nat) : Act := .read fun s => acts [
  wrBit (R.IRQ_ACTIVE (src / 64)) (src % 64) false,
  setIrq fun q => { q with claimant := q.claimant.clear src },
  onlyIf (decide (src ≤ 31) && bit? s.eng.irq.levels src) (setPending src),
  .read fun s' => followRequest (s'.srcCtx src)]

/-- CX_COMPLETE as it is stored: the source's state; the request signals follow once everything written with it stands (R22). -/
def complete (x src : Nat) : Act := .read fun s =>
  if s.srcActive src ∧ aget s.eng.irq.claimant src = some x then acts [
    wrBit (R.IRQ_ACTIVE (src / 64)) (src % 64) false,
    setIrq fun q => { q with claimant := q.claimant.clear src },
    onlyIf (src != 0 && decide (src ≤ 31) && bit? s.eng.irq.levels src) (wrBit (R.IRQ_PENDING (src / 64)) (src % 64) true)]
  else inc (R.CX_BAD_COMPLETE x)

/-- A complete that leaves an MSI-X request asserted sends a new message (R460); `s0` is the state before it. -/
def completeFollows (s0 : State) (x : Nat) : Act := .read fun s =>
  let ended := s0.eng.irq.claimant.any fun e => e.2 == x && (aget s.eng.irq.claimant e.1).isNone
  onlyIf (decide (17 ≤ x) && ended && s0.rd (R.CX_REQUEST x) == 1 && s.rd (R.CX_REQUEST x) == 1) (sendMsix (x - 17))

/-- MSIX_UNMASK (R460). -/
def msixUnmask (v : Nat) : Act := .read fun s => acts [
  setIrq fun q => { q with msixMask := clrBit q.msixMask v, pba := clrBit q.pba v },
  onlyIf (bit? s.eng.irq.pba v) (emit (.msix v))]

/-! ## Pending and enable words (R452, R462) -/

/-- The software clear: a critical source whose level is high is PENDING again (R457). -/
def softClear (src : Nat) : Act := .read fun s =>
  onlyIf (s.srcPending src && !(decide (src ≤ 31) && bit? s.eng.irq.levels src)) (clearPending src)

/-- The pending word after a software set of some bits and a software clear of others (Table IRQ-4): an ACTIVE critical source is not set,
and one whose level is high is not cleared. -/
def State.pendingAfter (s : State) (m set clear : Nat) : Nat :=
  let sets (b : Nat) : Bool := let src := 64 * m + b
    src != 0 && decide (src < 2047) && !(s.srcActive src && decide (src ≤ 31))
  let clears (b : Nat) : Bool := let src := 64 * m + b
    !(decide (src ≤ 31) && bit? s.eng.irq.levels src)
  let w := ((onesOf 64 clear).filter clears).foldl clrBit (s.rd (R.IRQ_PENDING m))
  ((onesOf 64 set).filter sets).foldl setBit w

/-- The pending word after a write: of a set or clear alias, or plain in DIRECT mode, where the bits that change are set or cleared by
software. -/
def State.pendingWord (s : State) (m op v : Nat) : Nat :=
  let old := s.rd (R.IRQ_PENDING m)
  if op = 1 then s.pendingAfter m v 0 else if op = 2 then s.pendingAfter m 0 v
  else s.pendingAfter m (bclr v old) (bclr old v)

/-- The bits of an enable word that sources 0 and 2,047 do not have read zero. DEDUCED: log 110. -/
def enableWord (m v : Nat) : Nat := if m = 0 then clrBit v 0 else if m = 31 then clrBit v 63 else v

/-- What a read of IRQ_SRC adds to the stored word (Table IRQ-2). -/
def State.srcWord (s : State) (src : Nat) : Nat :=
  s.srcPrio src + s.srcCtx src * 256 + b2n (s.srcFixed src) * 32768 +
    (if 1 ≤ src ∧ src ≤ 31 then b2n (bit? s.eng.irq.levels src) * 2 ^ 22 + 2 ^ 23 else 0)

/-- The stored word after a write of IRQ_SRC: read-only fields, and CONTEXT of a fixed source, are kept (R454).
DEDUCED: log 110. -/
def State.srcStored (s : State) (src v : Nat) : Nat :=
  if bit? (s.srcWord src) 15 then setFld (s.rd (R.IRQ_SRC src)) 3 0 v else fld v 14 8 * 256 + fld v 3 0

/-! ## Stops of the controller (R463, R464) -/

/-- A Block reset of the controller. -/
def irqBlockReset : Act := .read fun s => acts [
  forAll ((List.range 32).filter fun m => s.rd (R.IRQ_PENDING m) != 0) fun m => wr (R.IRQ_PENDING m) 0,
  forAll ((List.range 32).filter fun m => s.rd (R.IRQ_ACTIVE m) != 0) fun m => wr (R.IRQ_ACTIVE m) 0,
  forAll ((List.range 81).filter fun x => s.rd (R.CX_REQUEST x) != 0) fun x => wr (R.CX_REQUEST x) 0,
  setIrq fun q => { q with claimant := [], asserted := [], stopped := true }]

/-- The controller runs again: held edges become pending and levels are sampled. -/
def irqResume : Act := .read fun s => acts [
  setIrq fun q => { q with stopped := false, latched := [] },
  forAll s.eng.irq.latched.reverse setPending,
  forAll ((onesOf 32 s.eng.irq.levels).filter fun i => i != 0) setPending]

/-! ## The event queue (R465) -/

def evWords (e : EvEntry) : List Nat := [e.code * 2 ^ 48 + e.inst * 2 ^ 24 + e.lost] ++ t112 e.time ++ [e.detail]

/-- What a read of an EV_POP member returns. -/
def State.evWord (s : State) (m : Nat) : Nat :=
  if m = 0 then (match s.eng.irq.evq with
    | e :: _ => (evWords e).headD 0
    | [] => 0)
  else if s.eng.irq.evLatch.code = 0 then 0 else (evWords s.eng.irq.evLatch).getD m 0

/-- EV_POP: a queue that lost events raises event 0x0301 once it has room. -/
def evPop : Act := .read fun s =>
  match s.eng.irq.evq with
  | [] => setIrq fun q => { q with evLatch := ⟨0, 0, 0, 0, 0⟩ }
  | e :: rest => acts [
      setIrq fun q => { q with evq := rest, evLatch := e, evOverflow := false },
      wr R.EV_DEPTH rest.length,
      onlyIf s.eng.irq.evOverflow (raise 0x0301 0 s.eng.irq.evLost)]

/-! ## General timers (R466 to R471) -/

def timerRest : TimerSt := ⟨0, none, 0⟩
def State.timer (s : State) (k : Nat) : TimerSt := s.eng.timers.at k timerRest
def setTimer (k : Nat) (f : TimerSt → TimerSt) : Act := eng fun e => { e with timers := e.timers.set k (f (e.timers.at k timerRest)) }

/-- A tick in SCLK cycles. -/
def State.tickTime (s : State) (k : Nat) : Nat := s.rd (R.TM_PRESC k) * (1 + fld (s.rd (R.TM_CTRL k)) 1 1)

def State.timerFrozen (s : State) (k : Nat) : Bool :=
  bit? (s.rd (R.TM_CTRL k)) 11 && s.eng.flt.halted.contains (fld (s.rd (R.TM_CTRL k)) 15 12)

/-- The timer runs and is not frozen. -/
def State.ticking (s : State) (k : Nat) : Bool := bit? (s.rd (R.TM_CTRL k)) 0 && !(s.timerFrozen k)

/-- The prescaler phase is held, or goes on, as the timer stops or starts to tick. -/
def timerPhase (k : Nat) (was : Bool) : Act := .read fun s =>
  if was && !(s.ticking k) then setTimer k fun x => { x with left := some (x.due - s.now) }
  else if !was && s.ticking k then setTimer k fun x => { x with due := s.now + x.left.getD (s.tickTime k), left := none }
  else .skip

/-- A restart (R468). -/
def timerRestart (k : Nat) : Act := .read fun s => acts [
  wr (R.TM_COUNT k) (s.rd (R.TM_RELOAD k)), wr (R.TM_CMP k) (s.rd (R.TM_CMP_PRE k)),
  setTimer k fun x => { x with interval := s.rdi (R.TM_INTERVAL k) }]

/-- A write of TM_CTRL has been stored (R468, R471). -/
def timerCtrl (s0 : State) (k : Nat) : Act := .read fun s => acts [
  onlyIf (!(bit? (s0.rd (R.TM_CTRL k)) 0) && bit? (s.rd (R.TM_CTRL k)) 0) (timerRestart k),
  timerPhase k (s0.ticking k)]

/-- TM_CMD 1. -/
def timerCmd (k : Nat) : Act := timerRestart k

/-- Flags and the edge of a wrap, a match or both (R470). -/
def timerFlags (k : Nat) (wrap hit : Bool) : Act := .read fun s =>
  let old := s.rd (R.TM_FLAGS k)
  let ovr := (wrap && bit? old 0) || (hit && bit? old 1)
  let ctrl := s.rd (R.TM_CTRL k)
  acts [wr (R.TM_FLAGS k) (bor old (b2n wrap + 2 * b2n hit + 4 * b2n ovr)),
    onlyIf ovr (raiseMs k 0x0302 k k),
    onlyIf ((wrap && bit? ctrl 8) || (hit && bit? ctrl 9)) (edge (64 + k))]

/-- The count a tick leads to; none when the timer stops (R466). -/
def State.nextCount (s : State) (k : Nat) : Option Nat :=
  if 0 < s.rd (R.TM_COUNT k) then some (s.rd (R.TM_COUNT k) - 1)
  else if s.rd (R.TM_RELOAD k) = 0 then none else some (s.rd (R.TM_RELOAD k))

/-- The compare value a tick is judged against (R466, R469). -/
def State.nextCmp (s : State) (k : Nat) : Nat :=
  if 0 < s.rd (R.TM_COUNT k) then s.rd (R.TM_CMP k) else s.rd (R.TM_CMP_PRE k)

/-- The next tick makes a match. -/
def State.tickMatches (s : State) (k : Nat) : Bool := s.nextCount k == some (s.nextCmp k)

/-- A tick of a timer, once it is due. DEDUCED: log 109. -/
def timerTick (k : Nat) : Act := .read fun s =>
  let wrap := s.rd (R.TM_COUNT k) == 0
  let hit := s.tickMatches k
  let iv := if wrap then s.rdi (R.TM_INTERVAL k) else (s.timer k).interval
  if !(s.ticking k) || decide (s.now < (s.timer k).due) then .skip
  else acts [
    setTimer k fun x => { x with due := x.due + s.tickTime k },
    match s.nextCount k with
    | none => acts [wrFld (R.TM_CTRL k) 0 0 0, timerPhase k true]
    | some c => acts [wr (R.TM_COUNT k) c, setTimer k fun x => { x with interval := iv },
        wri (R.TM_CMP k) (if hit && bit? (s.rd (R.TM_CTRL k)) 10 then (s.nextCmp k : Int) + iv else (s.nextCmp k : Int))],
    timerFlags k wrap hit]

/-- TIMER_WRAP: the tick at count 0. DEDUCED: log 109. -/
def timerWrap (k : Nat) : Act := .read fun s => onlyIf (s.rd (R.TM_COUNT k) == 0) (timerTick k)
/-- TIMER_MATCH: a tick that makes a match. DEDUCED: log 109. -/
def timerMatch (k : Nat) : Act := .read fun s => onlyIf (s.tickMatches k) (timerTick k)

/-- Harts are halted or resumed: the timers they own freeze or go on. -/
def haltedBy (f : List Nat → List Nat) : Act := .read fun s => acts [
  eng fun e => { e with flt := { e.flt with halted := f e.flt.halted } },
  forAll (List.range 64) fun k => timerPhase k (s.ticking k)]

end Sys2Proof.Machine
end

