-- ==== Sys2Proof/Machine/Faults.lean ====
section
/-! DEFINITION. The ledger and its auditor, access violations, fatal errors, dumps, perturbation, the fuse and raw objects and the
debug transport (23_ledger_faults_debug.md R516 to R535). -/

namespace Sys2Proof.Machine

open Sys2Proof

def setFlt (f : FltEng → FltEng) : Act := eng fun e => { e with flt := f e.flt }

/-- A reset request asserts 1 ms after it is accepted (R479). DEDUCED: log 111. -/
def askReset (x : RstSrc) : Act := .read fun s => eng fun e => { e with rst := { e.rst with due := e.rst.due ++ [(s.now + 1000000, x)] } }

/-! ## The ledger (R516 to R519) -/

/-- An instance whose units do not travel: TOTAL and FREE. -/
def still (total free : Nat) : Nat × Nat × Nat × Nat := (total, min free total, total - free, 0)

/-- Credits granted to the sessions, and those of held and executing requests (R80, R86). -/
def State.sessionCredits (s : State) : Nat := ((List.range 64).map fun k => s.rd (R.S_CREDITS k)).foldl (· + ·) 0
def State.requestCredits (s : State) : Nat := (s.eng.sess.map fun e => e.2.held.length + e.2.waiting.length).foldl (· + ·) 0

/-- The packet-buffer cells on the way from one block to another: of packets that wait for a pipeline, and of frames that a queue has
released and the MAC has not yet sent (R23). DEDUCED: log 126. -/
def State.cellsInFlight (s : State) : Nat :=
  let down := s.eng.nodes.down.flatMap fun e => e.2.map (·.pkt)
  let inFifo := s.eng.host.out.flatMap fun e => e.2.pkts
  ((s.eng.q.pkts.filter fun e => down.contains e.1 || (e.2.released && e.2.form != .mesh && !(inFifo.contains e.1))).map fun e =>
    e.2.cells).foldl (· + ·) 0

/-- The counts TOTAL, FREE, HELD and INFLIGHT of instance `q` (Table FAULT-1). DEDUCED: log 126. -/
def State.ledger (s : State) (q : Nat) : Nat × Nat × Nat × Nat :=
  if q = 0 then
    let used := 131072 - s.rd R.TM_FREE
    let moving := min s.cellsInFlight used
    (131072, min (s.rd R.TM_FREE) 131072, used - moving, moving)
  else if q = 1 then still (s.rd R.SN_PS_CELLS) s.psFree
  else if q < 26 then (aget s.eng.flt.closed q).getD (s.fabCounts ((q - 2) / 4) ((q - 2) % 4))
  else if q = 26 then still 32 (32 - s.eng.dl.decoders.length)
  else if q = 27 then still 4096 (s.rd R.POOL_CTX_FREE)
  else if q = 28 then still 4096 (4096 - s.eng.dl.groups.length)
  else if q = 29 then still 262144 (s.rd R.WH_FREE)
  else if q = 30 then still 4096 (4096 - (s.objs.filter fun e => e.1.idx == 0x4000 && e.1.mem == 1 && e.2 != 0).length)
  else if q = 31 then
    let c := s.sessionCredits
    let r := min s.requestCredits c
    (1024, 1024 - c, c - r, r)
  else
    let a := q - 32
    let total := s.rd (R.SB_BUDGET (a % 32)) * 1000
    (total, total - s.rd (R.AC_USED a) - s.rd (R.AC_RESERVED a), s.rd (R.AC_USED a), s.rd (R.AC_RESERVED a))

/-- R526: a fatal error. A further one during the dump only counts in FOLLOW (R527). -/
def fatalError (cause detail : Nat) : Act := .read fun s =>
  match s.eng.flt.dump with
  | some d => setFlt fun g => { g with dump := some { d with follow := min 255 (d.follow + 1) } }
  | none => acts [
      setFlt fun g => { g with fatal := true, seq := g.seq + 1, dump := some ⟨0, cause, detail, 0, s.devTime, s.now⟩ },
      setLevel 4 true, muteFor 3, raise 0x1306 0 cause]

/-- A failed check of an instance (R520). -/
def mismatch (q : Nat) : Act := .read fun s =>
  if fld (s.rd R.LG_GUARANTEE) 1 0 ≠ 0 ∧ s.rd R.LG_LAPSED_FATAL = 0 then acts [inc (R.LG_MISMATCH q), raiseMs q 0x1302 q q]
  else acts [wr R.LG_FAULT_Q q, setLevel 1 true, raise 0x1301 q q, fatalError 1 q]

/-- The auditor is suspended while a reset of System reach or wider holds, and during a switch-over (R521); step 8 of the release
lets it run, where no boot follows too (R45). -/
def State.auditing (s : State) : Bool := s.eng.rst.stage != 1 && s.rd R.PR_STATE != 4

/-- 1,024 SCLK cycles have passed since the last audit. -/
def State.auditDue (s : State) : Bool := match s.eng.flt.auditAt with
  | none => true
  | some u => decide (u + 1024 ≤ s.now)

/-- LEDGER_AUDIT: the open instances whose identity fails are those of `upset`, disturbed from outside the model.
DEDUCED: log 126. -/
def ledgerAudit (upset : List Nat) : Act := .read fun s => onlyIf (s.auditing && s.auditDue) (acts [
  inc R.LG_AUDITS,
  setFlt fun g => { g with auditAt := some s.now, audit := (List.range 800).map fun q => (q, s.ledger q) },
  forAll (upset.filter fun q => decide (q < 800) && s.rd (R.LG_STATE q) == 0) mismatch])

def lapse (bit : Nat) : Act := .read fun s => wr R.LG_GUARANTEE (setBit (s.rd R.LG_GUARANTEE) bit)

/-! ## Access violations (R523 to R525) -/

def kindWindow := 1
def kindPrivilege := 2
def kindProtocol := 3

def State.frozen (s : State) (m : Nat) : Bool := (aget s.eng.flt.frozen m).isSome

/-- Write a violation record; `k` gets its number, or none when all are in use. -/
def violationRecord (m kind access addr : Nat) (k : Option Nat → Act) : Act := .read fun s =>
  match (List.range 16).find? fun v => !(bit? (s.rd (R.VR_WORD v)) 63) with
  | some v => acts [
      wr (R.VR_WORD v) (2 ^ 63 + m * 2 ^ 48 + kind * 2 ^ 44 + access * 2 ^ 40), wr (R.VR_ADDR v) addr,
      wrTime (R.VR_TIME v 0) s.devTime, raiseMs m 0x1303 m (v + m * 256 + kind * 65536), k (some v)]
  | none => acts [inc R.VR_LOST, raise 0x1305 m (m * 256), k none]

/-- A master steps outside its rights; the SM core is not frozen, its violation is fatal. DESIGN CHOICE: log 151. -/
def violate (m kind access addr : Nat) (ps : List FabPkt) : Act := .read fun s =>
  if m = 16 then violationRecord m kind access addr fun _ => fatalError 5 addr
  else if s.frozen m then .skip
  else violationRecord m kind access addr fun v => acts [
    setFlt fun g => { g with frozen := g.frozen.set m ⟨ps, v⟩ }, wrBit R.VR_FROZEN m true, setLevel 5 true]

/-- A violation record is freed. -/
def freeRecord (v : Nat) : Act := forAll (List.range 4) fun k => wr ⟨0x7010, v, k⟩ 0

/-- A master's port grants again; its record is freed. The access that waited ends with an error response (status
PRIVILEGE for a violation of that kind, else ACCESS), a fabric packet is discarded and those behind it are consumed (R525).
DEDUCED: log 130. -/
def unfreeze (m : Nat) (resume : List (Nat × Bool × Ref × Nat × Word) → Act) : Act := .read fun s =>
  match aget s.eng.flt.frozen m with
  | none => .skip
  | some z => acts [
      setFlt fun g => { g with
        frozen := g.frozen.clear m
        waiting := g.waiting.filter fun w => w.1 != m },
      wrBit R.VR_FROZEN m false,
      match z.rec_ with
      | some v => freeRecord v
      | none => .skip,
      if m < 19 then emit (.acc (.ap m) (if z.rec_.any fun v => fld (s.rd (R.VR_WORD v)) 47 44 == kindPrivilege then 5 else 4) [])
      else acts [forAll (z.link.take 1) fun p => acts [dropHold (m - 19) p, giveBack (m - 19) p],
        forAll (z.link.drop 1) fun p => acts [dropHold (m - 19) p, deliverFab (m - 19) p]],
      .read fun s => onlyIf s.eng.flt.frozen.isEmpty (setLevel 5 false),
      resume (s.eng.flt.waiting.filter fun w => w.1 == m)]

/-- VR_RELEASE of a record that has been seen (R525); the SM core is not frozen, so its record is freed alone. -/
def vrRelease (v : Nat) (resume : List (Nat × Bool × Ref × Nat × Word) → Act) : Act := .read fun s =>
  let m := fld (s.rd (R.VR_WORD v)) 55 48
  acts [if s.frozen m then unfreeze m resume else freeRecord v, raise 0x1304 m (m * 256)]

/-! ## Dumps (R526 to R529) -/

/-- The words of a dump section, filled with zero words to its length in octets. -/
def filled (octets : Nat) (ws : List Nat) : List Nat := (ws ++ List.replicate (octets / 8 - ws.length) 0).take (octets / 8)

def State.rds (s : State) (l : List Ref) : List Nat := l.map s.rd

/-- The sections of Table FAULT-6: identifier and words. The hart words and the SM SRAM come from outside the block. -/
def State.dumpSections (s : State) (harts sram : List Nat) : List (Nat × List Nat) :=
  let counts (q : Nat) : List Nat :=
    let c := (aget s.eng.flt.audit q).getD (s.ledger q)
    [c.1, c.2.1, c.2.2.1, c.2.2.2]
  [(1, (List.range 800).flatMap counts),
   (2, (List.range 16).flatMap fun v => s.rds ((List.range 4).map fun k => ⟨0x7010, v, k⟩)),
   (3, filled 2752 harts),
   (4, s.rds ((List.range 17).map R.BL_STATE ++ [R.RC_LAST, R.RC_REACH, R.RC_RAILS, R.RC_CLOCK] ++ (List.range 14).map R.CK_GOOD)),
   (5, filled 32768 (s.eng.irq.evq.flatMap evWords)),
   (6, (List.range 64).flatMap fun h => s.rds ((List.range 13).map fun m => ⟨0x0100, h + 1, m⟩)),
   (7, filled 524288 sram)]

/-- Words filled to a 4 KiB boundary. -/
def paged (ws : List Nat) : List Nat := ws ++ List.replicate ((512 - ws.length % 512) % 512) 0

/-- The header of Table FAULT-5 with a digest. -/
def State.dumpHeader (s : State) (d : Dump) (secs : List (Nat × List Nat)) (digest : List Nat) : List Nat :=
  [0x44554D50 * 2 ^ 32 + 0x10000 + d.cause * 256 + d.follow, s.eng.flt.seq] ++ t112 d.time ++
  [Config.uid.toNat, s.rd R.RC_HISTORY, s.rd R.UP_RUN_VER * 2 ^ 32 + s.rd R.SCHEMA, d.detail] ++ digest ++
  secs.map fun x => x.1 * 2 ^ 56 + 8 * x.2.length

/-- The words of the whole dump. -/
def State.dumpWords (s : State) (d : Dump) (harts sram : List Nat) : List Nat :=
  let secs := s.dumpSections harts sram
  let body := secs.flatMap fun x => paged x.2
  let digest := (octetsToWords (Config.shake256 (natOctets (paged (s.dumpHeader d secs [0, 0, 0, 0]) ++ body)))).map (·.toNat)
  paged (s.dumpHeader d secs (filled 32 digest)) ++ body

/-- The index entries that are not EMPTY, oldest first. -/
def State.dumpIndex (s : State) : List (List Nat) :=
  ((List.range 8).map fun e => (List.range 8).map fun k => s.rd (R.FD_ENTRY e k)).filter fun w => fld (w.headD 0) 63 62 != 0

/-- The slot a dump takes: one that no entry names, else that of the oldest entry. -/
def State.dumpSlot (s : State) : Nat :=
  let used := s.dumpIndex.filter fun w => fld (w.headD 0) 63 62 != 3
  match (List.range 4).find? fun k => !(used.any fun w => w.headD 0 % 4 == k) with
  | some k => k
  | none => (used.headD []).headD 0 % 4

/-- An entry whose slot is written over is LOST. DEDUCED: log 127. -/
def lostIn (slot : Nat) (w : List Nat) : List Nat :=
  if w.headD 0 % 4 = slot ∧ fld (w.headD 0) 63 62 ≠ 3 then setFld (w.headD 0) 63 62 3 :: w.drop 1 else w

def writeIndex (l : List (List Nat)) : Act := forAll ((List.range 8).zip (l ++ List.replicate 8 (List.replicate 8 0))) fun x =>
  wrs (R.FD_ENTRY x.1 0) x.2

/-- The dump ends, complete or abandoned. -/
def dumpEnds (abandoned : Bool) (ws : List Nat) : Act := .read fun s =>
  match s.eng.flt.dump with
  | none => .skip
  | some d =>
    let slot := s.dumpSlot
    let old := (s.dumpIndex.map (lostIn slot)).drop (s.dumpIndex.length - 7)
    let entry := [(if abandoned then 2 else 1) * 2 ^ 62 + slot, s.eng.flt.seq] ++ t112 d.time ++
      [d.cause * 256 + d.follow, 8 * ws.length, d.detail, ws.getD 8 0]
    acts [
      setFlt fun g => { g with dump := none, slots := g.slots.set slot ws },
      writeIndex (old ++ [entry]), raise 0x1307 0 (old.length + 256 * b2n abandoned),
      onlyIf (s.rd R.FT_RESET == 1) (askReset ⟨8, 2, 0, some 0, false⟩)]

/-- DUMP_COMPLETE: the words of the harts and of the SM SRAM come with it. A dump that has taken 500 ms is abandoned (R527).
DEDUCED: log 127. -/
def dumpComplete (abandoned : Bool) (harts sram : List Nat) : Act := .read fun s =>
  match s.eng.flt.dump with
  | none => .skip
  | some d =>
    let off := abandoned || decide (d.since + 500000000 < s.now)
    dumpEnds off (if off then [] else s.dumpWords d harts sram)

/-- FD_ERASE. -/
def fdErase (e : Nat) : Act := wrs (R.FD_ENTRY e 0) (List.replicate 8 0)

/-- FD_DATA: the words from FD_OFFSET of the slot, when an entry for it is COMPLETE. -/
def State.fdWord (s : State) (k : Nat) : Nat :=
  if s.dumpIndex.any fun w => w.headD 0 % 4 == s.rd R.FD_SLOT && fld (w.headD 0) 63 62 == 1 then
    ((s.eng.flt.slots.at (s.rd R.FD_SLOT) [])[s.rd R.FD_OFFSET / 8 + k]?).getD 0 else 0

/-- DRAM contents are lost: every COMPLETE entry becomes LOST (R528). -/
def dumpsLost : Act := .read fun s => acts [setFlt fun g => { g with slots := [] },
  forAll ((List.range 8).filter fun e => fld (s.rd (R.FD_ENTRY e 0)) 63 62 == 1) fun e => wrFld (R.FD_ENTRY e 0) 63 62 3]

/-! ## DRAM (R438, R439; Table CPU-3) -/

/-- End of the pending store, rounded up to 2 MiB: the free region begins. -/
def State.freeRegion (s : State) : Nat := cdiv (0x190000000 + s.rd R.SN_PS_CELLS * 256) 0x200000 * 0x200000

/-- An offset in the firmware region or the free region (area 1 belongs to it on a unit that is no pair member, R436). -/
def State.coreDram (s : State) (off : Nat) : Bool :=
  decide (off < 0x80000000) || decide (s.freeRegion ≤ off ∧ off < s.rd R.MC_CAPACITY) ||
    (decide (0x128000000 ≤ off ∧ off < 0x190000000) && !s.pairMember)

/-- DRAM_ECC_ERROR: a read at an offset of a channel met a single-bit or an uncorrectable error. -/
def dramError (chan off : Nat) (single : Bool) : Act := .read fun s =>
  let detail := chan + off / 256 * 256
  if single then acts [inc (R.MC_CE chan), raiseMax 1000000000 chan 0x0381 0 detail]
  else acts [inc (R.MC_UE chan), raise 0x0382 0 detail,
    if s.coreDram off then .skip
    else if s.eng.flt.dump.isSome ∧ 0x80000000 ≤ off ∧ off < 0x90000000 then dumpEnds true []
    else fatalError 2 detail]

/-! ## Perturbation (R530, R531, R561) -/

/-- The limit of PE_DELAY at a point of Table FAULT-8. -/
def perturbLimit (point : Nat) : Option Nat :=
  match point with
  | 1 | 2 => some (2 ^ 24)
  | 3 => some 500000
  | 4 => some (2 ^ 20)
  | 5 | 6 => some 1000000
  | _ => none

/-- R561: an enabled entry is one of Table FAULT-8 within its limit. DEDUCED: log 129. -/
def State.perturbOk (s : State) (k : Nat) : Bool := s.rd (R.PE_EN k) == 0 ||
  (match perturbLimit (fld (s.rd (R.PE_POINT k)) 63 56) with
  | some lim => decide (s.rd (R.PE_DELAY k) ≤ lim)
  | none => false)

/-- An entry has been enabled, or not. -/
def perturbApplied (s0 : State) (k : Nat) : Act := .read fun s =>
  onlyIf (s0.rd (R.PE_EN k) == 0 && s.rd (R.PE_EN k) == 1) (acts [lapse 0, setFlt fun g => { g with seen := g.seen.clear k },
    raise 0x1309 k k])

/-- One entry at an occurrence at its point and instance. -/
def perturbOne (k : Nat) : Act := .read fun s =>
  let n := s.eng.flt.seen.at k 0 + 1
  acts [setFlt fun g => { g with seen := g.seen.set k n },
    onlyIf (n % s.rd (R.PE_EVERY k) == 0) (acts [inc (R.PE_HITS k),
      onlyIf (s.rd (R.PE_COUNT k) != 0) (acts [wr (R.PE_COUNT k) (s.rd (R.PE_COUNT k) - 1),
        onlyIf (s.rd (R.PE_COUNT k) == 1) (wr (R.PE_EN k) 0)])])]

/-- PERTURBATION_APPLY: an occurrence at a point and instance; its delay shows in the instants of the commands that follow.
DEDUCED: log 129. -/
def perturbationApply (point inst : Nat) : Act := .read fun s =>
  forAll ((List.range 16).filter fun k => s.rd (R.PE_EN k) == 1 && fld (s.rd (R.PE_POINT k)) 63 56 == point &&
    fld (s.rd (R.PE_POINT k)) 15 0 == inst) perturbOne

def perturbClear : Act := acts [forAll (List.range 16) fun k => forAll (List.range 6) fun m => wr ⟨0x7030, k, m⟩ (dflt ⟨0x7030, k, m⟩),
  setFlt fun g => { g with seen := [] }]

/-! ## Factory objects (R43, R532) -/

def oddOnes (v : Nat) : Bool := popcount v % 2 == 1

/-- Why a burn of value `v` into entry `e` is refused (Table FAULT-11). -/
def State.fuseFault (s : State) (e v : Nat) : Nat :=
  let drive (c : Nat) : Bool := c == 3 || c == 4
  if bit? (s.rd (R.FX_FUSE_READ e)) 7 then 1
  else if 155 ≤ e ∨ (e < 96 ∧ e % 4 = 0) then 2
  else if 104 ≤ e ∧ e < 120 ∧ e % 4 = 3 ∧ (drive (fld v 6 4) ∨ drive (fld v 3 1)) then 3
  else if 4 < fld v 6 4 ∨ 4 < fld v 3 1 ∨ ¬ oddOnes v then 4
  else if 2 < s.rd R.LC_STATE then 5
  else 0

/-- FX_FUSE_BURN. -/
def fuseBurn : Act := .read fun s =>
  let e := s.rd R.FX_FUSE_ENTRY
  let c := s.fuseFault e (s.rd R.FX_FUSE_VALUE)
  acts [wr R.FX_FUSE_BURN c,
    if c = 0 then acts [wr (R.FX_FUSE_READ e) (s.rd R.FX_FUSE_VALUE), raise 0x1401 0 e] else raise 0x1402 0 (e + c * 256)]

/-- FX_RAW_READ: what a block's internal state reads as is left open. DESIGN CHOICE: log 128. -/
def rawRead : Act := takeFree fun v => wr R.FX_RAW_DATA v

/-- FX_RAW_WRITE. DESIGN CHOICE: log 128. -/
def rawWrite : Act := .read fun s => acts [lapse 1, raise 0x1403 0 (fld (s.rd R.FX_RAW_ADDR) 60 56)]

/-! ## Debug (R533, R534) -/

/-- The debug module reaches a hart, or the system bus (hart 0), in the present life-cycle state (Table FAULT-13). -/
def State.debugOpen (s : State) (hart : Nat) : Bool :=
  let lc := s.rd R.LC_STATE
  if hart < 8 then decide (lc < 2) || lc == 4 || (decide (lc < 4) && s.rd R.DB_OPEN == 1)
  else if hart = 8 then decide (lc < 2) || lc == 4
  else lc == 0

/-- A hart is halted. DEDUCED: log 131. -/
def debugHalt (hart : Nat) : Act := .read fun s =>
  onlyIf (s.debugOpen hart && decide (hart < 10)) (acts [
    onlyIf (decide (hart < 8) && s.rd (R.AC_STATE hart) != 3) (wr (R.AC_STATE hart) 2),
    haltedBy fun l => hart :: l.filter (· ≠ hart)])

/-- A hart goes on. DEDUCED: log 131. -/
def debugResume (hart : Nat) : Act := .read fun s =>
  onlyIf (s.debugOpen hart && s.eng.flt.halted.contains hart) (acts [
    onlyIf (decide (hart < 8) && s.rd (R.AC_STATE hart) == 2) (wr (R.AC_STATE hart) 0),
    haltedBy fun l => l.filter (· ≠ hart)])

/-- A TAP instruction is loaded (Table FAULT-12). -/
def tapLoad (code : Nat) : Act := .read fun s => acts [setFlt fun g => { g with tap := code },
  emit (.tap code (if code = 1 then [0x19624987] else if code = 2 ∨ code = 3 then s.eng.flt.cells else []))]

/-- SAMPLE/PRELOAD: the boundary-scan cells take new values. -/
def tapPreload (cells : List Nat) : Act := acts [tapLoad 2, setFlt fun g => { g with cells := cells }]

end Sys2Proof.Machine
end

