-- ==== Sys2Proof/Machine/Check.lean ====
section
/-! DEFINITION. The checks of an access in the order of R555: addressing, access class, privilege, life cycle, transaction, value
(03_object_dictionary.md R54 to R69, R554, R555, and the rules of other chapters that answer one of these statuses). -/

namespace Sys2Proof.Machine

open Sys2Proof

/-! ## Status codes (Table DICT-6) -/

abbrev stUnknown := 1
abbrev stInstance := 2
abbrev stMember := 3
abbrev stAccess := 4
abbrev stPrivilege := 5
abbrev stRange := 6
abbrev stNeedTxn := 7
abbrev stBusy := 8
abbrev stConflict := 9
abbrev stResource := 0xA
abbrev stTimeout := 0xB
abbrev stLifecycle := 0xC
abbrev stVersion := 0xD
abbrev stTooBig := 0xE
abbrev stBadMessage := 0xF
abbrev stNoSession := 0x10
abbrev stAuthFail := 0x11
abbrev stEmptyGroup := 0x12
abbrev stTxnUnknown := 0x13

/-- The first status that is not OK. -/
def firstOf (l : List Nat) : Nat := (l.find? (· != 0)).getD 0

/-- A status when a rule is broken. -/
def failIf (broken : Bool) (st : Nat) : Nat := if broken then st else 0

/-! ## Who accesses (R69, R83, Table FAULT-2) -/

/-- The privilege of an access. -/
def State.whoPriv (s : State) : Who → Nat
  | .ap 17 => s.rd R.PCIE_PRIV
  | .ap m => if m < 16 then 2 - m % 2 else 2
  | .ddp k => s.rd (R.S_PRIV k)
  | .dev => 3

/-- The session of an access speaks a 2.x version (R88, R89). -/
def State.legacy (s : State) : Who → Bool
  | .ddp k => s.rd (R.S_VERSION k) / 16 == 2
  | _ => false

/-- The access is a session's. -/
def isDdp : Who → Bool
  | .ddp _ => true
  | _ => false

/-- The aperture master of an access. -/
def masterOf : Who → Option Nat
  | .ap m => some m
  | _ => none

/-- R89: the index ranges a 2.x session reaches. -/
def legacyIndex (x : Nat) : Bool :=
  decide (x ≤ 0xFF) || decide (0x200 ≤ x ∧ x ≤ 0x2FF) || decide (0x1000 ≤ x ∧ x ≤ 0x16FF) ||
    decide (0x2000 ≤ x ∧ x ≤ 0x24FF) || decide (0x3400 ≤ x ∧ x ≤ 0x36FF) || decide (0x5000 ≤ x ∧ x ≤ 0x52FF)

/-! ## Addressing (R54 to R57, R59, R105, R282, R293) -/

/-- The instances of a group (R55). -/
def State.groupOf (s : State) (f : Family) (inst : Nat) : Option (List Nat) :=
  let inRange (l : List Nat) : List Nat := l.filter fun i => decide (f.lo ≤ i ∧ i ≤ f.hi)
  match f.scope with
  | .port => if 0xFFFF00 ≤ inst ∧ inst ≤ 0xFFFF07 then some (inRange (onesOf 24 (s.rd ⟨0x0040, inst - 0xFFFF00, 0⟩))) else none
  | .lane =>
    if 0xFFFF10 ≤ inst ∧ inst ≤ 0xFFFF1F then
      some (inRange ((List.range 32).flatMap fun m => (onesOf 64 (s.rd ⟨0x0041, inst - 0xFFFF10, m⟩)).map fun b => 64 * m + b))
    else none
  | .queue =>
    if 0xFFFF20 ≤ inst ∧ inst ≤ 0xFFFF3F then
      some (inRange ((List.range 64).flatMap fun m => (onesOf 64 (s.rd ⟨0x0042, inst - 0xFFFF20, m⟩)).map fun b => 64 * m + b))
    else none
  | _ => none

/-- The instances an access reaches; none is BAD_INSTANCE. A write to a node-table family reaches entries of the own partition that
are not FREE (R282); the aperture reaches no node-table family (R57), and 0x0101 only at its master's own instance (R105). -/
def State.instances (s : State) (w : Who) (f : Family) (inst : Nat) (write window : Bool) : Option (List Nat) :=
  if inst = 0xFFFFFF then
    if write ∧ f.group then some ((List.range (f.hi + 1 - f.lo)).map (· + f.lo)) else none
  else match (if write then s.groupOf f inst else none) with
  | some l => some l
  | none =>
    if inst < f.lo ∨ f.hi < inst then none
    else if f.scope = .node ∧ (((masterOf w).isSome ∧ !window) ∨ (write ∧ (!(s.ownIndex inst) ∨ s.nodeState inst = 0))) then none
    else if f.idx = 0x0101 ∧ (masterOf w).isSome ∧ masterOf w ≠ some inst then none
    else some [inst]

/-- Node windows: the target of an alias (R293); none when the target is absent, its node is 0 or outside the partition. -/
def State.windowTarget (s : State) (r : Ref) : Option Ref :=
  let f := s.rd (R.NW_FAMILY r.inst)
  let n := s.rd (R.NW_NODE r.inst)
  match family? f with
  | some fam => if r.inst < 32 ∧ fam.scope = .node ∧ n ≠ 0 ∧ s.ownIndex n then some ⟨f, n, r.mem⟩ else none
  | none => none

/-- The family, instances and first member an access names. -/
structure Target where
  fam : Family
  insts : List Nat
  mem : Nat
  deriving DecidableEq, Repr

/-- The members an item names. -/
def Item.mems (it : Item) (m : Nat) : List Nat := (List.range it.count).map (· + m)

/-- A value is named in part: its first member or its last is missing (R59). -/
def partial? (row : Row) (lo hi : Nat) : Bool :=
  (List.range (row.cnt / row.width)).any fun k =>
    let a := row.m0 + k * row.width
    let b := a + row.width - 1
    decide (a ≤ hi ∧ lo ≤ b) && !(decide (lo ≤ a ∧ b ≤ hi))

/-- Where an access goes, or the status with which its address fails. -/
def State.address (s : State) (w : Who) (it : Item) (write : Bool) : Sum Nat Target :=
  if s.legacy w ∧ !(legacyIndex it.ref.idx) then .inl stVersion
  else
    let r? := if it.ref.idx = 0x3009 then s.windowTarget it.ref else some it.ref
    match r? with
    | none => .inl stInstance
    | some r => match family? r.idx with
      | none => .inl stUnknown
      | some f => match s.instances w f r.inst write (it.ref.idx == 0x3009) with
        | none => .inl stInstance
        | some insts =>
          let ms := it.mems r.mem
          if it.count = 0 ∨ 256 < r.mem + it.count ∨ !(ms.all fun m => (rowOf? f m).isSome) then .inl stMember
          else if write ∧ (f.rows.any fun row => partial? row r.mem (r.mem + it.count - 1)) then .inl stMember
          else .inr ⟨f, insts, r.mem⟩

/-! ## Access class (R60, R67, R91, R106, R462, R554, and the rules of other chapters that answer ACCESS) -/

/-- The member takes set and clear masks now (R67, R462). -/
def State.splitNow (s : State) (row : Row) (r : Ref) : Bool :=
  row.split && (!(r.idx == 0x0301 || r.idx == 0x0302) || s.rd R.IRQ_MODE == 0)

/-- The transaction of a record is the accessing owner's own, OPEN, and for T_LINK empty (R106). -/
def State.recordWritable (s : State) (w : Who) (r : Ref) : Bool :=
  match s.txn? r.inst with
  | some x => x.who == w && s.rd (R.T_STATE r.inst) == 1 && (r.mem == 11 || x.items.isEmpty)
  | none => false

/-- A transaction is PENDING or PREPARED for an ASN (R195). -/
def State.asnPending (s : State) : Bool := s.eng.txn.txns.any fun e =>
  (s.rd (R.T_STATE e.1) == 3 || s.rd (R.T_STATE e.1) == 4) && s.rd (R.T_INSTANT e.1) == 1

/-- Members of writable families that no write ever reaches: slot template 0 (R198), and Q_DEST of the queues for FIFOs and fabric links
(R295). DESIGN CHOICE: log 45. -/
def unwritable (r : Ref) : Bool := (r.idx == 0x2030 && r.inst == 0) || (r.idx == 0x3420 && r.mem == 0 && decide (4056 ≤ r.inst))

/-- Chapter rules: a write of `v` to this object now fails with ACCESS. -/
def State.writeDenied (s : State) (w : Who) (r : Ref) (v : Nat) : Bool :=
  match r.idx with
  | 0x0100 => !(s.recordWritable w r)
  | 0x0101 => (masterOf w).isNone
  | 0x0230 => decide (34 ≤ r.mem) && s.rd R.BT_STAGE != 1
  | 0x02F0 => r.mem == 0 && s.rd R.LEGACY_ON == 0
  | 0x2000 =>
    if r.mem = 0 then v == 0 && s.asnPending else (r.mem == 1 || r.mem == 2) && s.rd R.TS_RUN == 1
  | 0x2001 => s.rd R.TS_RUN == 1
  | 0x2010 | 0x2100 => s.rd R.ST_ACTIVE == 0
  | 0x2011 | 0x2101 => s.rd R.ST_ACTIVE == 1
  | 0x2030 => unwritable r
  | 0x2300 => r.mem == 1 && s.rd R.SN_EN == 1
  | 0x3002 => decide (r.mem ≤ 1) && s.rd R.NT_COUNT != 0
  | 0x3420 => unwritable r
  | 0x3471 => s.rd (R.GT_ACTIVE r.inst) == 0
  | 0x3472 => s.rd (R.GT_ACTIVE r.inst) == 1
  | 0x0392 => s.rd (R.HF_MODE r.inst) != 0 && ((r.mem == 0 && v != 0) || r.mem == 1)
  | 0x0393 => s.rd (R.HF_MODE r.inst) != 0 && decide (r.mem ≤ 3)
  | 0x4400 => decide (38 ≤ r.mem ∧ r.mem ≤ 40) && s.rd (R.IM_USERS r.inst) != 0
  | 0x4410 => r.mem == 0 && s.rd (R.CA_STATE r.inst) != 0
  | 0x5200 => r.mem == 2 && s.rd R.SV_SOURCE != 0
  | 0x6000 => r.mem == 34 && [2, 5, 6].contains (s.rd R.UP_STATE)
  | 0x7011 => r.mem == 0 && decide (v < 16) && !(bit? (s.rd (R.VR_WORD v)) 62)
  | _ => false

/-- Accesses that only some masters may make: any other aperture master breaks the protocol (R443, R455, R478, R523), and over
DDP the access fails with ACCESS. -/
def State.notItsMaster (s : State) (w : Who) (r : Ref) (write : Bool) : Bool :=
  let allowed (ok : Nat → Bool) : Bool := match w with
    | .ap m => ok m
    | _ => false
  let owner (i : Nat) : Bool := allowed fun m => s.rd (R.HF_MODE i) == 1 && s.rd (R.HF_MASTER i) == m
  if r.idx = 0x0390 ∧ r.mem = 0 then !(owner r.inst)
  else if r.idx = 0x0391 then !(owner (32 + r.inst))
  else if r.idx = 0x0304 ∧ ((r.mem = 1 ∧ !write) ∨ (r.mem = 2 ∧ write)) then !(allowed (ctxMaster r.inst))
  else if r.idx = 0x0203 ∧ r.mem = 2 then write && !(allowed fun m => m / 2 == r.inst && decide (m < 16))
  else if r.idx = 0x7020 ∧ r.mem = 1 then write && !(allowed fun m => (decide (m < 16) && m % 2 == 0) || m == 16)
  else false

/-- R490, R510: what the PCIe host reaches while an image is loaded or activated. -/
def State.hostLimited (s : State) (w : Who) (r : Ref) : Bool :=
  w == .ap 17 && ((s.rd R.BT_STAGE == 1 && r.idx != 0 && r.idx != 0x0230) ||
    (s.rd R.UP_STATE == 6 && r.idx != 0 && r.idx != 0x6000 && r.idx != 0x6001))

/-- A write by class and chapter rules; `staged` inside a transaction. -/
def State.writeClass (s : State) (w : Who) (staged : Bool) (op : Nat) (row : Row) (r : Ref) (v : Nat) : Nat :=
  if s.legacy w ∧ row.cls = .txn then stVersion
  else failIf (row.cls == .ro || row.cls == .rc || (staged && row.cls == .cmd) ||
    (op != 0 && !(row.cls == .rw && s.splitNow row r)) ||
    (op == 0 && (r.idx == 0x0301 || r.idx == 0x0302) && s.rd R.IRQ_MODE == 0) ||
    s.hostLimited w r || s.notItsMaster w r true || s.writeDenied w r v) stAccess

/-- A read by class: WO members fail over DDP. -/
def State.readClass (s : State) (w : Who) (row : Row) (r : Ref) : Nat :=
  if s.legacy w ∧ row.cls = .txn then stVersion
  else failIf ((row.cls == .wo && isDdp w) || (r.idx == 0x0101 && isDdp w) || s.hostLimited w r ||
    s.notItsMaster w r false) stAccess

/-! ## Privilege and life cycle (R61, R62, R324, R327, R479, R531, R532) -/

/-- The privilege a write needs. -/
def State.writePriv (s : State) (row : Row) (r : Ref) (v : Nat) : Nat :=
  match r.idx with
  | 0x0201 => if r.mem = 0 ∧ fld v 2 0 = 4 then 3 else row.priv
  | 0x4000 => if r.mem = 6 then s.zeroizePriv r.inst else row.priv
  | 0x4020 =>
    if r.mem = 2 ∧ ((s.rd R.LC_STATE = 0 ∧ s.rd R.LC_TARGET = 1) ∨ (s.rd R.LC_STATE = 1 ∧ s.rd R.LC_TARGET = 2)) then 3 else row.priv
  | 0x7030 => if s.rd R.FX_PT_ALLOW = 1 then 2 else 3
  | 0x7F00 => if r.mem ≤ 2 ∧ s.rd R.LC_STATE = 2 then 2 else row.priv
  | _ => row.priv

def State.keyDenied (s : State) (priv : Nat) (r : Ref) : Nat :=
  if r = R.KI_CMD then s.keyCmdDenied priv else 0

def State.writeRights (s : State) (priv : Nat) (row : Row) (r : Ref) (v : Nat) : Nat :=
  firstOf [failIf (decide (priv < s.writePriv row r v)) stPrivilege,
    failIf (s.keyDenied priv r == stPrivilege) stPrivilege]

/-- Reads of RO and RC objects need the row's privilege; the others Observer. -/
def State.readRights (s : State) (w : Who) (row : Row) : Nat :=
  failIf ((row.cls == .ro || row.cls == .rc) && decide (s.whoPriv w < row.priv)) stPrivilege

/-- R532: the Factory objects work in Blank and Manufacturing, the fuse objects in Provisioned too. -/
def State.closedNow (s : State) (r : Ref) : Bool :=
  let lc := s.rd R.LC_STATE
  if r.idx = 0x7F00 then (if r.mem ≤ 2 then decide (2 < lc) else decide (1 < lc))
  else if r.idx = 0x7F01 then decide (2 < lc) else false

def State.writeLife (s : State) (priv : Nat) (r : Ref) : Nat :=
  failIf (s.closedNow r || s.keyDenied priv r == stLifecycle) stLifecycle

/-! ## Values (R8, R58) -/

/-- The words of one value are those of its type and range; a clear mask may name any bit. -/
def Row.holds (row : Row) (op : Nat) (ws : List Word) : Bool :=
  let one (ok : Nat → Bool) : Bool := ws.all fun x => ok x.toNat
  let signed : Bool := ws.all fun x => decide (row.lo ≤ sgn 64 x.toNat ∧ sgn 64 x.toNat ≤ row.hi)
  if op = 2 then true
  else match row.ty with
    | .s32 | .s64 => signed
    | .bits => one fun x => band x row.hi.toNat == x
    | .time => decide (((ws.getD 1 0).toNat) / 65536 < 1000000000)
    | .ipv6 => true
    | .octets n => n % 8 == 0 || decide ((ws.getD (n / 8) 0).toNat < 2 ^ (8 * (n % 8)))
    | _ => one fun x => decide (row.lo ≤ (x : Int) ∧ (x : Int) ≤ row.hi)

/-- The values of an item, each with its row and first member. -/
def valuesOf (f : Family) (ws : List Word) : Nat → Nat → List (Row × Nat × List Word)
  | 0, _ => []
  | n + 1, m => match ws, rowOf? f m with
    | [], _ => []
    | _, none => []
    | ws, some row => (row, m, ws.take row.width) :: valuesOf f (ws.drop row.width) n (m + row.width)

/-- A slot of the configuration store is the running base or an active overlay (R113). -/
def State.slotRuns (s : State) (k : Nat) : Bool :=
  if k < 2 then s.rd R.RUN_BASE == k else bit? (s.rd R.ACTIVE_MODES) (k - 2)

def slotSize (k : Nat) : Nat := if k < 2 then 0x400000 else 0x10000

/-- A block of 8 to 256 octets, a multiple of 8, that ends inside an area. -/
def blockOk (n off size : Nat) : Bool := decide (8 ≤ n ∧ n ≤ 256) && n % 8 == 0 && decide (off + n ≤ size)

/-- R479: the codes of Table RESET-9. -/
def resetReqOk (v : Nat) (hold : Bool) : Bool :=
  let reach := fld v 2 0
  let target := fld v 12 8
  if reach = 0 then decide (target < 8) else if reach = 1 then decide (target < 17)
  else hold && decide (reach ≤ 4) && target == 0 && !(bit? v 16)

/-- The values a command takes; others fail with RANGE. -/
def State.cmdTakes (s : State) (r : Ref) (v : Nat) : Bool :=
  match r.idx, r.mem with
  | 0x0113, 34 => !(s.slotRuns (s.rd R.W_TARGET)) && blockOk v (s.rd R.W_OFFSET) (slotSize (s.rd R.W_TARGET))
  | 0x0112, 10 => v == 1 && !(s.slotRuns r.inst)
  | 0x0201, 0 => resetReqOk v true
  | 0x0201, 1 => decide (fld v 2 0 ≤ 1) && resetReqOk v false
  | 0x0220, 6 => v == 1 && !s.eng.rst.tied
  | 0x0230, 34 => blockOk v (s.rd R.BT_OFFSET) 0x2000000
  | 0x0230, 35 => decide (v ≤ 0x2000000)
  | 0x0240, 18 => true
  | 0x0240, 23 => v == 1 || v == 2
  | 0x02F0, 0 => v == 0x5A
  | 0x0391, _ => true
  | 0x2310, 8 => decide (1 ≤ v ∧ v ≤ 3)
  | 0x3100, 19 => v == 1 || v == 2
  | 0x4010, 38 => s.keyWriteOk v
  | 0x4010, 40 => decide (1 ≤ v ∧ v ≤ 3)
  | 0x4301, 33 => blockOk v (s.rd R.J_EN_OFFSET) 6464
  | 0x4301, 34 => v == 6461
  | 0x4310, 37 => blockOk v (s.rd (R.IS_OFFSET r.inst)) 1952
  | 0x4310, 38 => v == 1952
  | 0x4400, 38 => s.imageWriteOk r.inst v
  | 0x4410, 10 => decide (1 ≤ v ∧ v ≤ 5)
  | 0x5002, 1 => true
  | 0x5200, 6 => v == 1 || v == 2
  | 0x5300, 9 => decide (1 ≤ v ∧ v ≤ 3)
  | 0x6000, 34 => blockOk v (s.rd R.UP_OFFSET) 0x2000000
  | 0x6000, 36 => decide (1 ≤ v ∧ v ≤ 5)
  | 0x7011, 0 => decide (v < 16)
  | 0x7020, 1 => true
  | 0x7020, 36 => decide (v < 8)
  | 0x7F00, 5 => v == 1 || v == 2
  | _, _ => v == 1

/-- Ranges that join two members, judged on the words `s1` would hold (R137, Table CHAN-4, R196, R223, R269, R311, R404, R428). At staging the other
member counts as it is committed; a commit judges both as they will be. DESIGN CHOICE: log 157. -/
def State.jointFits (s1 : State) (r : Ref) : Bool :=
  match r.idx, r.mem with
  | 0x1040, 1 | 0x1040, 2 => decide (s1.rd (R.CX_DEADLINE r.inst) ≤ s1.rd (R.CX_LEAD r.inst))
  | 0x1410, 2 =>
    let p := s1.rd (R.LM_PORT r.inst)
    s1.rd (R.LM_BIND r.inst) != 0 || decide (23 < p) || decide (s1.rd r < s1.rd (R.CP_COUNT p))
  | 0x2000, 6 | 0x2000, 7 => decide (s1.rd R.TS_MIN_BE ≤ s1.rd R.TS_MAX_BE)
  | 0x2310, 0 | 0x2310, 2 => snLinkOk (s1.rd (R.SN_SERVICE r.inst)) (s1.rd (R.SN_LINK r.inst))
  | 0x3002, 0 | 0x3002, 1 => s1.rd (R.TB_SEED1 r.inst) != s1.rd (R.TB_SEED2 r.inst)
  | 0x3400, 4 | 0x3400, 5 => decide (s1.rd R.JQ_STORM_OFF < s1.rd R.JQ_STORM_ON)
  | 0x5300, 0 | 0x5300, 1 => decide (2 * s1.rd R.PR_PERIOD ≤ s1.rd R.PR_MAX_AGE)
  | 0x5100, 0 => !(s1.secondSlave r.inst (s1.rd r))
  | 0x5400, 1 => decide (((List.range 6).filter fun l => s1.rd (R.FB_ROLE l) == 1).length ≤ 1)
  | _, _ => true

/-- Q_DEST names a KIND that is not reserved, and a TARGET that the KIND has (Table QUEUE-1). -/
def queueDestOk (v : Nat) : Bool :=
  match fld v 63 60 with
  | 0 => true
  | 1 => decide (fld v 4 0 ≤ 4)
  | 2 => fld v 4 0 == 0
  | 3 => true
  | 4 => decide (fld v 4 0 ≤ 5)
  | _ => false

/-- Chapter rules on the value an object would hold, judged on the words after the write (`s1`), before it (`s`).
DEDUCED: log 145. -/
def State.valueFits (s s1 : State) (r : Ref) : Bool :=
  let v := s1.rd r
  match r.idx, r.mem with
  | 0x0113, 1 | 0x0230, 1 | 0x4010, 5 | 0x4011, 1 | 0x4301, 0 | 0x4310, 4 | 0x4320, 6 | 0x4400, 5 | 0x6000, 1 | 0x7020, 3 => v % 8 == 0
  | 0x0101, 1 => v == 0 || (match s.txn? v with
    | some x => x.who == .ap r.inst && s.rd (R.T_STATE v) == 1
    | none => false)
  | 0x0203, 0 => v == 0 || decide (10 ≤ v)
  | 0x0220, 2 => v == 0 || !s.eng.rst.tied
  | 0x0220, 5 => v == 0 || decide (60 ≤ v)
  | 0x0310, 0 | 0x0311, 0 | 0x0312, 0 | 0x0313, 0 | 0x0314, 0 | 0x0315, 0 | 0x0316, 0 | 0x0317, 0 =>
    let src := (r.idx - 0x0310) * 256 + r.inst
    (src == 0 || decide (31 < src) || fld v 3 0 != 0) && (s.srcFixed src || decide (fld v 14 8 ≤ 80))
  | 0x0320, 0 => let o := fld v 15 12; decide (o ≤ 8) || o == 15
  | 0x0393, 0 => v % 64 == 0
  | 0x0393, 1 => (List.range 15).any fun k => v == 2 ^ (6 + k)
  | 0x1020, _ => fld v 63 63 == 0 || (decide (1 ≤ fld v 55 32 ∧ fld v 55 32 ≤ 42000) &&
      decide (-400 ≤ sgn 16 (fld v 15 0) ∧ sgn 16 (fld v 15 0) ≤ 0))
  | 0x1400, 1 => v % 12500 == 0
  | 0x1400, 5 => v == 0 || decide (3 ≤ v)
  | 0x1410, 0 | 0x5410, 0 => v == 255 || decide (v ≤ (if r.idx = 0x1410 then 23 else 5))
  | 0x1410, 3 => v == 0 || modeValid v
  | 0x2040, 0 => v == 0 || decide (100 ≤ v)
  | 0x2410, 4 => decide (fld v 31 24 ≤ 60)
  | 0x3030, 0 | 0x3030, 1 => s1.rd (R.FW_PREFIX 1) == 0
  | 0x3100, 4 | 0x3100, 5 | 0x3100, 6 => v != r.inst && decide (v ≤ 8388608)
  | 0x3420, 0 => queueDestOk v
  | 0x3440, 5 => let ok (d : Nat) : Bool := decide (d ≤ 63) || d == 255
    ok (fld v 15 8) && ok (fld v 7 0)
  | 0x3471, m | 0x3472, m => decide (m < 4) || (decide (64 ≤ fld v 31 0) && decide (fld v 31 0 ≤ 1000000000))
  | 0x5000, 0 => if r.inst = 4 then v == 0 || v == 4 else decide (v ≤ 3)
  | 0x5000, 10 => v == 255 || decide (v ≤ 15)
  | 0x5010, 0 => v == 255 || decide (v ≤ 4)
  | 0x7030, _ => s1.perturbOk r.inst
  | _, _ => s1.jointFits r

/-- The words of items over a state: what the dictionary would hold. -/
def State.withValues (s : State) (op : Nat) (f : Family) (insts : List Nat) (vs : List (Row × Nat × List Word)) : State :=
  s.withItems (insts.flatMap fun i => vs.flatMap fun v =>
    (v.2.2.zipIdx).map fun x => (⟨⟨f.idx, i, v.2.1 + x.2⟩, op, x.1⟩ : Staged))

/-- R58 and the chapters' value rules, for every instance of the set (R56). Staged values are judged by type and range, and
those rules of other chapters that need other members at commit (R561). DEDUCED: log 145. DESIGN CHOICE: log 157. -/
def State.valueStatus (s : State) (staged : Bool) (op : Nat) (t : Target) (vs : List (Row × Nat × List Word)) : Nat :=
  let s1 := s.withValues op t.fam t.insts vs
  firstOf [failIf (!(vs.all fun v => v.1.holds op v.2.2)) stRange,
    failIf (!(t.insts.all fun i => vs.all fun v => (List.range v.2.2.length).all fun k =>
      let r : Ref := ⟨t.fam.idx, i, v.2.1 + k⟩
      if v.1.cls = .cmd then s.cmdTakes r (v.2.2.headD 0).toNat
      else (staged && t.fam.idx == 0x7030) || s.valueFits s1 r)) stRange]

/-! ## The whole check -/

/-- The outcome of a write's checks under a privilege (R555): a status, or where it goes with its values. -/
def State.checkWriteAs (s : State) (w : Who) (priv : Nat) (staged : Bool) (it : Item) :
    Sum Nat (Target × List (Row × Nat × List Word)) :=
  match s.address w it true with
  | .inl st => .inl st
  | .inr t =>
    let vs := valuesOf t.fam it.vals it.count t.mem
    let insts := if t.insts.isEmpty then [t.fam.lo] else t.insts
    let each (f : Row → Ref → Nat → Nat) : Nat := firstOf (insts.flatMap fun i => vs.map fun v =>
      f v.1 ⟨t.fam.idx, i, v.2.1⟩ (v.2.2.headD 0).toNat)
    let st := firstOf [
      each fun row r v => s.writeClass w staged it.op row r v,
      each fun row r v => s.writeRights priv row r v,
      each fun _ r _ => s.writeLife priv r,
      failIf (!staged && vs.any fun v => v.1.cls == .txn) stNeedTxn,
      s.valueStatus staged it.op { t with insts := insts } vs,
      failIf t.insts.isEmpty stEmptyGroup]
    if st = 0 then .inr (t, vs) else .inl st

/-- The outcome of a write's checks. -/
def State.checkWrite (s : State) (w : Who) (staged : Bool) (it : Item) : Sum Nat (Target × List (Row × Nat × List Word)) :=
  s.checkWriteAs w (s.whoPriv w) staged it

/-- The outcome of a read's checks. -/
def State.checkRead (s : State) (w : Who) (it : Item) : Sum Nat Target :=
  match s.address w it false with
  | .inl st => .inl st
  | .inr t =>
    let each (f : Row → Ref → Nat) : Nat := firstOf (t.insts.flatMap fun i => (it.mems t.mem).map fun m =>
      match rowOf? t.fam m with
      | some row => f row ⟨t.fam.idx, i, m⟩
      | none => stMember)
    let st := firstOf [each fun row r => s.readClass w row r, each fun row _ => s.readRights w row,
      failIf ((it.mems t.mem).any fun m => s.closedNow ⟨t.fam.idx, t.insts.headD 0, m⟩) stLifecycle]
    if st = 0 then .inr t else .inl st

/-- The members a checked write stages or stores, in order. -/
def stagedOf (op : Nat) (t : Target) (vs : List (Row × Nat × List Word)) : List Staged :=
  t.insts.flatMap fun i => vs.flatMap fun v => (v.2.2.zipIdx).map fun x => (⟨⟨t.fam.idx, i, v.2.1 + x.2⟩, op, x.1⟩ : Staged)

end Sys2Proof.Machine
end

