-- ==== Sys2Proof/Machine/Slots.lean ====
section
/-! DEFINITION. The configuration store: images, their validation, loading and the values of a mode change
(04_transactions_configurations.md R110 to R115). -/

namespace Sys2Proof.Machine

open Sys2Proof

/-! ## Images (R111, Table TXN-8) -/

/-- An image that is well formed. -/
structure Image where
  kind : Nat
  schema : Nat
  length : Nat
  name : List Word
  digest : List Word
  items : List Item
  deriving DecidableEq, Repr

/-- A ref word as an item without its words; a COUNT of 0 means 256. -/
def itemOf (w : Word) (op : Nat) (vals : List Word) : Item :=
  let x := w.toNat
  ⟨⟨fld x 63 48, fld x 47 24, fld x 23 16⟩, if fld x 15 8 = 0 then 256 else fld x 15 8, op, vals⟩

/-- The records of an image: exactly `n`, with nothing behind them. -/
def recordsOf : Nat → List Word → Option (List Item)
  | 0, ws => if ws.isEmpty then some [] else none
  | n + 1, ws => match ws with
    | [] => none
    | w :: rest =>
      let c := (itemOf w 0 []).count
      if 2 < fld w.toNat 7 0 ∨ rest.length < c then none
      else (recordsOf n (rest.drop c)).map fun l => itemOf w (fld w.toNat 7 0) (rest.take c) :: l

/-- The image at the start of a slot's octets; none when its header or its records are not well formed. -/
def parseImage (o : List Nat) : Option Image :=
  let h (k : Nat) : Nat := le ((o.drop (8 * k)).take 8)
  let len := fld (h 2) 63 32
  if fld (h 0) 63 32 = 0x4D41454C ∧ fld (h 0) 31 16 = 1 ∧ fld (h 0) 15 8 ≤ 1 ∧ fld (h 0) 7 0 = 0 ∧ fld (h 2) 31 0 = 0 ∧
      72 ≤ len ∧ len % 8 = 0 ∧ len ≤ o.length then
    (recordsOf (fld (h 1) 31 0) (octetsToWords ((o.take len).drop 72))).map fun items =>
      ⟨fld (h 0) 15 8, fld (h 1) 63 32, len, octetsToWords ((o.drop 24).take 16), octetsToWords ((o.drop 40).take 32), items⟩
  else none

/-- The digest an image should carry. -/
def imageDigest (o : List Nat) (len : Nat) : List Nat :=
  Config.shake256 (o.take 40 ++ List.replicate 32 0 ++ (o.take len).drop 72)

def State.slot (s : State) (k : Nat) : List Nat := s.eng.txn.slots.at k []
def State.slotImage (s : State) (k : Nat) : Option Image := parseImage (s.slot k)

/-- The members an item writes, as a state resolves its instances. -/
def State.itemWrites (s : State) (it : Item) : List Staged :=
  match s.address .dev it true with
  | .inl _ => []
  | .inr t => stagedOf it.op t (valuesOf t.fam it.vals it.count t.mem)

/-- A state with an image's records loaded, in order. -/
def State.loaded (s : State) (items : List Item) : State := items.foldl (fun s it => s.withItems (s.itemWrites it)) s

/-- The members an image's records write. -/
def State.imageMembers (s : State) : List Item → List Ref
  | [] => []
  | it :: rest =>
    let l := s.itemWrites it
    l.map (·.ref) ++ (s.withItems l).imageMembers rest

/-- The object instances an image touches. -/
def State.imageObjects (s : State) (items : List Item) : List (Nat × Nat) :=
  sortPairs ((s.imageMembers items).map fun r => (r.idx, r.inst))

/-- A mask of a port, lane or queue group (R56). -/
def isGroupMask (r : Ref) : Bool := decide (0x0040 ≤ r.idx) && decide (r.idx ≤ 0x0042)

/-- The dictionary at its defaults, beside what fixes the instances it has: identity, partitions, the masks of groups, and which entries
are FREE. DEDUCED: log 46. -/
def State.atDefaults (s : State) : State :=
  let kept (r : Ref) : Bool := r.idx == 0x3003 || r.idx == 0 || isGroupMask r || (r.idx == 0x3100 && r.mem == 0)
  { s with objs := s.objs.filter fun e => kept e.1 }

/-- R20: the pending store ends inside the installed DRAM. -/
def State.regionsFit (s : State) : Bool := decide (0x190000000 + s.rd R.SN_PS_CELLS * 256 ≤ s.rd R.MC_CAPACITY)

/-! ## Writing and sealing (R112, R113) -/

def putSlot (k : Nat) (o : List Nat) : Act := setTxns fun g => { g with slots := g.slots.set k o }

/-- W_WRITE of `n` octets. DEDUCED: log 47. DESIGN CHOICE: log 209. -/
def slotWrite (n : Nat) : Act := .read fun s =>
  let k := s.rd R.W_TARGET
  let off := s.rd R.W_OFFSET
  acts [putSlot k (patch (s.slot k) off (s.dataOctets R.W_DATA n)), wr (R.SL_STATE k) 1, wr R.W_OFFSET (off + n)]

/-- A slot is EMPTY. -/
def slotErase (k : Nat) : Act := acts [setTxns fun g => { g with slots := g.slots.clear k },
  forAll (List.range 10) fun m => wr ⟨0x0112, k, m⟩ 0]

/-- R94 on a record, under the privilege of who seals; `d` is the dictionary that the image would leave, on whose values the ranges that
join members are judged. What the device does at the moment bears on none of it; a member that the SM core may not write at any time fails
(R106, R105, R198, R295, R443). DESIGN CHOICE: log 45. -/
def State.recordStatus (s d : State) (priv : Nat) (it : Item) : Nat :=
  match s.address .dev it true with
  | .inl st => st
  | .inr t =>
    let vs := valuesOf t.fam it.vals it.count t.mem
    let insts := if t.insts.isEmpty then [t.fam.lo] else t.insts
    let each (f : Row → Ref → Nat → Nat) : Nat := firstOf (insts.flatMap fun i => vs.map fun v =>
      f v.1 ⟨t.fam.idx, i, v.2.1⟩ (v.2.2.headD 0).toNat)
    firstOf [
      each fun row r _ => failIf ([.ro, .rc, .cmd].contains row.cls || (it.op != 0 && !(row.cls == .rw && d.splitNow row r)) ||
        unwritable r || r.idx == 0x0100 || r.idx == 0x0101 || s.notItsMaster .dev r true) stAccess,
      each fun row r v => s.writeRights priv row r v,
      each fun _ r _ => s.writeLife priv r,
      d.valueStatus true it.op { t with insts := insts } vs,
      failIf t.insts.isEmpty stEmptyGroup]

/-- The dictionary that an image would leave: a base over the defaults, an overlay over the running base. -/
def State.imageLeaves (s : State) (k : Nat) (im : Image) : State :=
  let d := s.atDefaults
  if k < 2 then d.loaded im.items
  else (d.loaded (match s.slotImage (s.rd R.RUN_BASE) with
    | some base => if s.rd R.RUN_BASE < 2 then base.items else []
    | none => [])).loaded im.items

/-- R112: the status of a slot's validation, 0 when the image is accepted. DESIGN CHOICE: log 45. DEDUCED: log 171. -/
def State.sealStatus (s : State) (priv k : Nat) : Nat :=
  match s.slotImage k with
  | none => stBadMessage
  | some im => firstOf [
      failIf (im.kind != (if k < 2 then 0 else 1)) stRange,
      failIf (im.digest != octetsToWords (imageDigest (s.slot k) im.length)) stRange,
      failIf (im.schema != s.rd R.SCHEMA) stVersion,
      firstOf (im.items.map (s.recordStatus (s.imageLeaves k im) priv)),
      failIf (im.kind == 1 && decide (256 < (s.imageObjects im.items).length)) stResource,
      failIf (!(s.imageLeaves k im).regionsFit) stResource]

/-- What a slot's objects show of its image. -/
def showSlot (k : Nat) (im : Image) : Act := .read fun s => acts [
  wr (R.SL_LENGTH k) im.length, wrs (R.SL_NAME k 0) (im.name.map (·.toNat)), wrs (R.SL_DIGEST k 0) (im.digest.map (·.toNat)),
  wr (R.SL_SCHEMA k) im.schema, wr (R.SL_OBJECTS k) (s.imageObjects im.items).length]

/-- W_SEAL 1. DESIGN CHOICE: log 209. -/
def slotSeal (priv : Nat) : Act := .read fun s =>
  let k := s.rd R.W_TARGET
  let st := s.sealStatus priv k
  acts [wr R.W_SEAL st,
    match s.slotImage k with
    | some im => if st = 0 then acts [wr (R.SL_STATE k) 2, showSlot k im] else wr (R.SL_STATE k) 3
    | none => wr (R.SL_STATE k) 3]

/-! ## Loading at boot (R114) -/

/-- A slot may be loaded. -/
def State.slotLoads (s : State) (k : Nat) : Bool := s.rd (R.SL_STATE k) == 2 && s.rd (R.SL_SCHEMA k) == s.rd R.SCHEMA

/-- The records of an image are written to the dictionary. -/
def loadItems (items : List Item) : Act := forAll items fun it => .read fun s => writeItems (s.itemWrites it)

def loadSlot (k : Nat) : Act := .read fun s =>
  match s.slotImage k with
  | some im => loadItems im.items
  | none => .skip

/-- The overlays of a list that a boot applies, in order: one whose regions would not fit the DRAM is skipped too (R20).
DEDUCED: log 171. -/
def State.bootOverlays (s : State) : List Nat → List Nat
  | [] => []
  | k :: rest =>
    let s1 := match s.slotImage (2 + k) with
      | some im => s.loaded im.items
      | none => s
    if s.slotLoads (2 + k) && s1.regionsFit then k :: s1.bootOverlays rest else s.bootOverlays rest

/-- A base slot that boot loading can take: its image is sound and its regions fit (R114, R20). DEDUCED: log 171. -/
def State.baseLoads (s : State) (k : Nat) : Bool := s.slotLoads k && (match s.slotImage k with
  | some im => (s.loaded im.items).regionsFit
  | none => true)

/-- CONFIG_HASH of a base slot (2: defaults) and a set of overlays. DESIGN CHOICE: log 156. -/
def State.configHash (s : State) (base modes : Nat) : List Nat :=
  let digests := (if base < 2 then [base] else []) ++ (onesOf 32 modes).map (· + 2)
  let octets := digests.flatMap fun k => wordsToOctets ((List.range 4).map fun m => s.word (R.SL_DIGEST k m))
  (octetsToWords (Config.shake256 octets)).map (·.toNat)

/-- The configuration in force. -/
def showConfig (base modes : Nat) : Act := .read fun s => acts [
  wr R.RUN_BASE base, wr R.ACTIVE_MODES modes, wrs (R.CONFIG_HASH 0) (s.configHash base modes)]

/-- Boot loading: `first` and `modes` are BOOT_BASE and BOOT_MODES. -/
def bootLoad (first modes : Nat) : Act := .read fun s =>
  let base := if s.baseLoads first then first else if s.baseLoads (1 - first) then 1 - first else 2
  let s1 := match if base < 2 then s.slotImage base else none with
    | some im => s.loaded im.items
    | none => s
  let on := s1.bootOverlays (onesOf 32 modes)
  acts [onlyIf (base != first) (raise 0x0105 base base),
    onlyIf (decide (base < 2)) (loadSlot base),
    forAll (onesOf 32 modes) fun k => if on.contains k then loadSlot (2 + k) else raise 0x0106 (2 + k) (2 + k),
    showConfig base ((on.map fun k => 2 ^ k).foldl (· + ·) 0)]

/-! ## Mode changes (R115) -/

/-- The records that a base and overlays hold, in order. -/
def State.configItems (s : State) (base modes : Nat) : List Item :=
  ((if base < 2 then [base] else []) ++ (onesOf 32 modes).map (· + 2)).flatMap fun k => match s.slotImage k with
    | some im => im.items
    | none => []

/-- The members whose values a change of overlays sets: those that the running base or an overlay concerned names, of every object
instance that an overlay which enters or leaves touches. DEDUCED: log 46. -/
def State.modeItems (s : State) (modes : Nat) : List Staged :=
  let old := s.rd R.ACTIVE_MODES
  let base := s.rd R.RUN_BASE
  let masks := (s.atDefaults.imageMembers (s.configItems base (bor old modes))).filter isGroupMask
  let d : State := { s.atDefaults with objs := s.atDefaults.objs.filter fun e => !(masks.contains e.1) }
  let moved := d.loaded (d.configItems base 0)
  let touched := moved.imageObjects (s.configItems 2 (bxor old modes))
  let named := d.imageMembers (s.configItems base (bor old modes))
  let new := d.loaded (s.configItems base modes)
  ((named.filter fun r => touched.contains (r.idx, r.inst)).foldl (fun acc r => aput refLt acc r ()) []).map fun e =>
    ⟨e.1, 0, new.word e.1⟩

/-- Every overlay of a set can be loaded. -/
def State.modesReady (s : State) (modes : Nat) : Bool := (onesOf 32 modes).all fun k => s.slotLoads (2 + k)

end Sys2Proof.Machine
end

