-- ==== Sys2Proof/Machine/Reset.lean ====
section
/-! DEFINITION. Resets, their release, clocks, power states and the backup domain (21_reset_clocks_power.md R473 to R500). -/

namespace Sys2Proof.Machine

open Sys2Proof

def setRst (f : RstEng → RstEng) : Act := eng fun e => { e with rst := f e.rst }

/-! ## The RTC (R498) -/

/-- RTC fractions of 1/32,768 s since TAI second 0. -/
def State.rtcNow (s : State) : Nat := s.eng.rst.rtc.1 + (s.now - s.eng.rst.rtc.2) * 32768 / 1000000000
def State.rtcTime (s : State) : Nat := s.rtcNow * uSec / 32768

def rtcSet : Act := .read fun s => acts [
  setRst fun g => { g with rtc := (s.devTime * 32768 / uSec, s.now) }, wr R.RTC_VALID 1]

def rtcInvalid : Act := .read fun s => onlyIf (s.rd R.RTC_VALID == 1) (acts [wr R.RTC_VALID 0, raise 0x0209 0 0])

/-- RTC_AUTO_SET: once per second. -/
def rtcAuto : Act := .read fun s => onlyIf (s.rd R.RTC_AUTO == 1 && s.rd R.SV_STATE == 2 &&
  (s.rd R.RTC_VALID == 0 || decide (s.eng.rst.rtc.2 + 1000000000 ≤ s.now))) rtcSet

/-- CK_BCLK_SRC has been written, or a crystal has failed. -/
def bclkSource (v : Nat) : Act := .read fun s => acts [
  onlyIf (s.eng.rst.latched.getD 2 0 != v) rtcInvalid,
  setRst fun g => { g with latched := g.latched.take 2 ++ [v] }]

def crystalFail : Act := .read fun s => onlyIf (s.eng.rst.latched.getD 2 0 == 1) (bclkSource 0)

/-- PW_OUTAGE_EN and PW_HOLD_AFTER reach the backup domain (R496). -/
def latchPower : Act := .read fun s => setRst fun g =>
  { g with latched := [s.rd R.PW_OUTAGE_EN, s.rd R.PW_HOLD_AFTER] ++ g.latched.drop 2 }

/-! ## Blocks (Table RESET-2) -/

/-- The clock domain of a block. -/
def blockDomain (b : Nat) : Nat :=
  if b = 0 then 1 else if b ≤ 4 then 6 + b else if b = 5 ∨ b = 6 then 2 else if b = 12 then 5 else if b = 13 then 6 else 0

/-- The block that loses its clock with a domain; none for the domains whose loss has System effect (Table RESET-6). -/
def failBlock (d : Nat) : Option Nat :=
  if d = 5 then some 12 else if d = 6 then some 13 else if 7 ≤ d ∧ d ≤ 10 then some (d - 6) else if d = 13 then some 14 else none

/-- The block that owns an object (the agents and what takes System reach only: none). -/
def blockOf (r : Ref) : Option Nat :=
  let x := r.idx
  if 0x1000 ≤ x ∧ x ≤ 0x1021 then some (1 + r.inst / 6)
  else if x = 0x1030 then some (1 + r.inst / 2)
  else if x = 0x1040 then some (1 + r.inst)
  else if 0x1400 ≤ x ∧ x ≤ 0x1430 then some 5
  else if 0x1600 ≤ x ∧ x ≤ 0x1620 then some 6
  else if 0x2000 ≤ x ∧ x ≤ 0x2101 then some 7
  else if 0x2300 ≤ x ∧ x ≤ 0x2310 then some 8
  else if 0x2400 ≤ x ∧ x ≤ 0x2430 then some 9
  else if 0x3000 ≤ x ∧ x ≤ 0x3100 then some 10
  else if 0x3400 ≤ x ∧ x ≤ 0x3472 then some 11
  else if 0x5000 ≤ x ∧ x ≤ 0x5002 then some 12
  else if 0x5400 ≤ x ∧ x ≤ 0x5410 then some 13
  else if 0x0390 ≤ x ∧ x ≤ 0x0393 then some 15
  else if (0x0300 ≤ x ∧ x ≤ 0x0306) ∨ (0x0310 ≤ x ∧ x ≤ 0x0317) then some 16
  else none

/-- RO members that show what a Block reset keeps (R475). -/
def keptRo (r : Ref) : Bool :=
  (decide (0x2400 ≤ r.idx ∧ r.idx ≤ 0x2430)) || r.idx == 0x2310 || r.idx == 0x3000 || r.idx == 0x3002 || r.idx == 0x3100 ||
    (r.idx == 0x3450 && r.mem == 5) || (r.idx == 0x3460 && r.mem == 3) || r == R.TS_ASN || r == R.EV_DEPTH || (r.idx == 0x5402 && decide (r.mem ≤ 1))

/-- The block runs: its wrapper is open. -/
def State.blockUp (s : State) (b : Nat) : Bool := s.rd (R.BL_STATE b) == 0

/-- An action of a block, which does nothing while the block is held. -/
def whenUp (b : Nat) (a : Act) : Act := .read fun s => onlyIf (s.blockUp b) a

/-- The object's block runs, or it has none. -/
def State.ownerUp (s : State) (r : Ref) : Bool := match blockOf r with
  | some b => s.blockUp b
  | none => true

/-- An asserted source of Block reach or wider includes the block (R481). -/
def State.blockHeld (s : State) (b : Nat) : Bool :=
  s.eng.rst.srcs.any fun x => decide (2 ≤ x.reach) || (x.reach == 1 && x.target == b)

def State.coreHeld (s : State) (c : Nat) : Bool :=
  s.blockHeld 0 || (s.eng.rst.srcs.any fun x => x.reach == 0 && x.target == c)

/-- No reset holds anything (R481: no episode is under way). -/
def State.noReset (s : State) : Bool :=
  s.eng.rst.srcs.isEmpty && s.eng.rst.stage == 0 && s.eng.rst.opening.isEmpty && (List.range 17).all fun b => s.blockUp b

/-- Source 8 holds its level while a block is held for its clock (R492). -/
def clockLevel : Act := .read fun s =>
  setLevel 8 ((s.eng.rst.srcs.any fun x => x.cause == 13) || (List.range 17).any fun b => s.rd (R.BL_STATE b) == 3)

/-! ## Core resets (R476) -/

/-- A master's bindings and unfinished sequences end. -/
def dropMaster (m : Nat) : Act := acts [ownerGone (.ap m), wr (R.A_BIND m) 0,
  setTxns fun g => { g with
    seqs := g.seqs.filter fun e => e.1.1 != m
    behind := g.behind.filter fun b => b.m != m
    waits := g.waits.filter fun w => match w.what with
      | .item who _ => who != .ap m
      | _ => true }]

/-- A frozen master is released by a reset that holds it (R525). DEDUCED: log 146. -/
def thawMaster (m : Nat) : Act := .read fun s =>
  onlyIf (s.frozen m) (acts [unfreeze m fun _ => .skip, raise 0x1304 m (m * 256)])

def coreReset (c : Nat) : Act := .read fun s => acts [
  forAll [2 * c, 2 * c + 1] fun x => acts [
    forAll ((s.eng.irq.claimant.filter fun e => e.2 == x).map (·.1)) completeSource,
    wr (R.CX_THRESHOLD x) 0, followRequest x],
  forAll [2 * c, 2 * c + 1] fun m => acts [dropMaster m, thawMaster m],
  wr (R.AC_STATE c) 3]

/-- A core's watchdog starts anew: `kicks` holds when it did, or, while a debugger halts the core, the time it has run (R478). -/
def wdKick (c : Nat) : Act := .read fun s =>
  setRst fun g => { g with kicks := g.kicks.set c (if s.eng.flt.halted.contains c then 0 else s.now) }

def coreRelease (c : Nat) : Act := acts [wr (R.AC_STATE c) 0, wdKick c]

/-! ## Effects of a Block reset (Table RESET-2) -/

/-- A port of a tile in reset: requests end MUTED, the frame on air ends ABORT_MUTE, receive frames end LOST_SAMPLES. -/
def tilePortHeld (p : Nat) : Act := .read fun s => acts [
  onlyIf (s.rd (R.P_STATE p) == 5) (acts [driverOff p, cutAt p 1 s.devTime]),
  endPending p (if s.rd (R.P_STATE p) = 5 then 1 else 7),
  forAll (s.port p).held fun r => endReq r 7,
  onlyIf (s.rd (R.P_STATE p) == 5) (acts [wr (R.P_STATE p) 2, endBlanking p s.devTime]),
  stopLanes p, note (.portDown p), setPort p fun _ => portRest]

/-- The lines that the ports of a tile share go back to the states of the fuse map (R557, R38). -/
def tileLinesHeld (tile : Nat) : Act := setRadio fun g => { g with
  trsw := g.trsw.filter fun b => b / 2 != tile
  coex := g.coex.filter (· ≠ tile) }

/-- The reservations of what is on air. -/
def State.keyedResvs (s : State) : List Nat := s.eng.radio.ports.filterMap fun e =>
  if s.rd (R.P_STATE e.1) = 5 then e.2.req.bind fun r => r.resv else none

/-- The cells in use end; the airtime of what is on air is charged when the port's frame ends (R253, R254). -/
def endAttempts : Act := .read fun s => acts [
  forAll ((s.eng.tsch.atts.map fun x => x.resv) ++ s.eng.tsch.acks.map fun x => x.resv) fun i =>
    onlyIf (!(s.keyedResvs.contains i)) (resvReturn i),
  forAll s.eng.lane.lanes fun e => onlyIf (e.2.bind != .none) (unbindLane e.1),
  setTsch fun g => { g with
    atts := []
    acks := []
    dlAcks := []
    wins := []
    ebDue := []
    ebKept := []
    ebFrom := []
    withheld := []
    tail := none
    decided := [] }]

/-- The sequencers of all ports end what they have in hand; a calibration goes on without a request, as under a mute line (Table PORT-5).
DEDUCED: log 54. -/
def sequencersHeld : Act := forAll (List.range 24) fun p => .read fun s =>
  let st := s.rd (R.P_STATE p)
  acts [onlyIf (st == 5) (acts [driverOff p, cutAt p 1 s.devTime]), endPending p (if st = 5 then 1 else 7), forAll (s.port p).held fun r => endReq r 7,
    setPort p fun x => { x with held := [], antTx := false },
    onlyIf (st == 5) (endBlanking p s.devTime),
    onlyIf (st == 4 || st == 5) (if s.rd (R.P_ENABLE p) = 0 then disablePort p else acts [wr (R.P_STATE p) 2, idleNow p])]

/-- The exchanges end; what is on air completes and is charged when it ends (R253). -/
def sleepyHeld : Act := .read fun s => acts [
  forAll s.eng.sn.exs fun x => acts [cancelReq x.port x.req 7, forAll (x.resv.filter fun i => !(s.keyedResvs.contains i)) resvReturn],
  setSn fun g => { g with
    exs := []
    wheel := []
    plans := []
    overflow := [] }]

def pipelinesHeld : Act := .read fun s => acts [
  forAll (s.eng.nodes.creates.map (·.1)) fun k => retryCreate k 0,
  forAll s.eng.nodes.reasms fun r => freePkt r.pkt,
  forAll s.eng.nodes.remotes fun r => freePkt r.pkt,
  forAll s.eng.nodes.down fun e => forAll e.2 fun d => freePkt d.pkt,
  setNodes fun g => { g with
    creates := []
    cache := []
    reasms := []
    remotes := []
    input := []
    down := [] }]

/-- The packets of the pending store, which no reset of the traffic manager touches. -/
def State.pendingPkts (s : State) : List Nat := s.eng.sn.lists.flatMap (·.2)

/-- Every frame of the packet buffer is discarded; buckets are full when the block runs again. DEDUCED: log 119. -/
def buffersHeld : Act := .read fun s =>
  let keep := s.eng.q.pkts.filter fun e => s.pendingPkts.contains e.1
  acts [setQ fun g => { g with
      pkts := keep
      queues := []
      shapers := []
      meters := []
      drr := []
      deferred := [] },
    setTsch fun g => { g with offered := [], bcast := [] },
    forAll (s.eng.host.out.map (·.1)) fun f => setOut f toHostRest,
    forAll s.eng.host.inp fun e => setFrom e.1 { e.2 with cur := none, pkts := [] },
    setNodes fun g => { g with
      reasms := []
      remotes := []
      down := [] }]

/-- R450. DEDUCED: log 106. -/
def pcieReset : Act := .read fun s => acts [
  forAll ((s.eng.sess.map (·.1)).filter fun k => s.rd (R.S_TRANSPORT k) == 1) fun k => closeSession k 1 none,
  forAll ((List.range 4).filter fun i => s.rd (R.MBX_STATUS i) == 1) fun i => wr (R.MBX_STATUS i) 3,
  stopRings, setIrq fun q => { q with msixMask := 2 ^ 64 - 1, pba := 0 }]

/-- The fabric links are held in reset: each that is UP goes down. DEDUCED: log 117. -/
def linksHeld : Act := forAll (List.range 6) fun l => .read fun s =>
  acts [onlyIf (s.linkUp l) (dropLink l 3), wr (R.FB_STATE l) 0]

def blockEffect (b : Nat) : Act :=
  if b = 0 then forAll (List.range 8) coreReset
  else if b ≤ 4 then .seq (forAll (List.range 6) fun k => tilePortHeld (6 * (b - 1) + k)) (tileLinesHeld (b - 1))
  else if b = 5 then forAll (List.range 24) fun p => endPortFrames p 6
  else if b = 6 then dlResetAll
  else if b = 7 then acts [endAttempts, sequencersHeld]
  else if b = 8 then sleepyHeld
  else if b = 9 then tallyHeld
  else if b = 10 then pipelinesHeld
  else if b = 11 then buffersHeld
  else if b = 12 then acts [forAll (List.range 5) ethDown, forAll (List.range 4) fun q => setTq q [],
    setRst fun g => { g with mdTaken := false }]
  else if b = 13 then acts [linksHeld, forAll (List.range 6) fun l => thawMaster (19 + l), routesChanged, showPairLink]
  else if b = 14 then acts [pcieReset, thawMaster 17]
  else if b = 15 then emptyFifos
  else if b = 16 then irqBlockReset
  else .skip

/-- RO status members read their reset values (R475). -/
def wipeRo (b : Nat) : Act := .read fun s =>
  forAll ((s.objs.map (·.1)).filter fun r => blockOf r == some b && !(keptRo r) && (match row? r with
    | some row => row.cls == .ro
    | none => false)) fun r => wr r (dflt r)

/-- A block enters reset (R474, R475, R487): a block already held stays held. -/
def blockAssert (b : Nat) : Act := .read fun s =>
  if s.blockUp b ∨ s.eng.rst.opening.contains b then acts [
    wr (R.BL_STATE b) 1, inc (R.BL_RESETS b), raise 0x0202 b b,
    setRst fun g => { g with opening := g.opening.filter (· != b) },
    blockEffect b, wipeRo b, resetAborts fun r => blockOf r == some b, clockLevel]
  else onlyIf (s.rd (R.BL_STATE b) == 3) (acts [wr (R.BL_STATE b) 2, clockLevel])

/-! ## Release of blocks and cores (R481, R486, R487) -/

/-- A held block's sources are gone: it is released now, or waits for its clock. -/
def releaseBlock (b : Nat) : Act := .read fun s =>
  if s.rd (R.BL_STATE b) ≠ 2 ∨ s.blockHeld b ∨ s.eng.rst.opening.contains b then .skip
  else if s.rd (R.CK_GOOD (blockDomain b)) = 1 then setRst fun g => { g with opening := g.opening ++ [b] }
  else acts [wr (R.BL_STATE b) 3, raise 0x0204 b (b + blockDomain b * 256), clockLevel]

/-- Cores whose reset is over restart. -/
def settleCores : Act := .read fun s =>
  forAll ((List.range 8).filter fun c => s.rd (R.AC_STATE c) == 3 && !(s.coreHeld c) && s.blockUp 0) coreRelease

/-- The order in which blocks are released (Table RESET-4 step 12). -/
def releaseOrder : List Nat := [16, 15, 14, 9, 11, 10, 8, 7, 6, 5, 12, 13, 0, 1, 2, 3, 4]

/-- Blocks and cores that no source holds any more are released. -/
def settle : Act := .read fun s => onlyIf (s.eng.rst.stage == 0)
  (acts [forAll releaseOrder releaseBlock, settleCores, clockLevel])

/-- The lane counts of the ports and the lanes' states follow the map. -/
def lanesOpen : Act := .read fun s => acts [
  forAll (List.range 24) fun p =>
    let mine := (List.range 2048).filter fun l => s.rd (R.LM_PORT l) == p
    acts [wr (R.CZ_LANES p) mine.length, wr (R.CZ_SCHED p) (mine.filter fun l => s.rd (R.LM_BIND l) == 1).length],
  forAll (List.range 2048) settleLane]

/-- A block applies its retained configuration (R475). -/
def blockOpens (b : Nat) : Act := .read fun s =>
  if b = 0 then settleCores
  else if b ≤ 4 then forAll (List.range 6) fun k => onlyIf (s.rd (R.P_ENABLE (6 * (b - 1) + k)) == 1) (startPort (6 * (b - 1) + k))
  else if b = 5 then lanesOpen
  else if b = 7 then acts [onlyIf (s.rd R.TS_RUN == 1) tsStart, forAll (List.range 24) fun p => .read fun s => idleNow p]
  else if b = 8 then forAll s.heldNodes fun n => acts [onlyIf (s.snState n == 4) (setSnState n 1),
    onlyIf (s.snState n == 1 || s.snState n == 2 || s.snState n == 4) (planNode n s.nowNs)]
  else if b = 9 then tallyOpens
  else if b = 11 then acts [edgesNow, forAll (List.range 5) showGate]
  else if b = 13 then forAll (List.range 6) fabEnable
  else if b = 16 then irqResume
  else .skip

/-- WRAPPER_OPEN. -/
def wrapperOpen (b : Nat) : Act := .read fun s =>
  onlyIf (s.eng.rst.opening.contains b) (acts [
    setRst fun g => { g with opening := g.opening.filter (· != b) },
    wr (R.BL_STATE b) 0, raise 0x0203 b b, blockOpens b, clockLevel])

/-- BLOCK_RESET_ASSERT: the isolation of a block is complete; `iso` transfers ended ISOERR. -/
def blockIsolated (b iso : Nat) : Act := .read fun s =>
  onlyIf (s.rd (R.BL_STATE b) == 1) (acts [addTo (R.BL_ISO_ERR b) iso, wr (R.BL_STATE b) 2, settle])

/-! ## Resets of System reach and wider (R473, Table RESET-1) -/

/-- What a reset of a reach keeps of the dictionary: identity, the stores and fuses, and at the narrower reaches the backup domain
and the cores' watchdogs. DEDUCED: log 47, 113, 114. -/
def keptAt (reach : Nat) (r : Ref) : Bool :=
  match r.idx with
  | 0x0000 | 0x7F01 => true
  | 0x0110 => r.mem == 0 || r.mem == 2
  | 0x0112 => r.mem != 10
  | 0x0200 | 0x7021 | 0x0240 => decide (reach < 4)
  | 0x0203 => decide (reach ≤ 2)
  | 0x0210 => decide (reach ≤ 2) && decide (r.mem ≤ 1)
  | 0x0380 => decide (reach ≤ 2) && decide (r.mem ≤ 1)
  | 0x1050 => decide (5 ≤ r.mem) && decide (reach < 4)
  | 0x4000 => decide (r.mem ≤ 4) || r.mem == 7
  | 0x4020 => r.mem != 1 && r.mem != 2
  | 0x5402 => decide (r.mem ≤ 1)
  | 0x6001 => decide (r.mem ≤ 4)
  | 0x7F00 => r.mem == 6
  | _ => false

/-- What a reset of a reach leaves of the engines. DESIGN CHOICE: log 40. DEDUCED: log 113, 114. -/
def wideEngines (reach : Nat) (e : Engines) : Engines :=
  let d := State.reset.eng
  { d with
    free := e.free
    tu := e.tu
    txn := { d.txn with
      slots := e.txn.slots
      lastSid := if reach < 3 then e.txn.lastSid else 0 }
    keys := { d.keys with
      slots := e.keys.slots
      rootKey := e.keys.rootKey }
    join := { d.join with limits := e.join.limits }
    up := { e.up with area := [], armed := none }
    flt := { d.flt with
      seq := if reach < 4 then e.flt.seq else 0
      slots := if reach < 3 then e.flt.slots else []
      tap := e.flt.tap
      cells := e.flt.cells }
    irq := { d.irq with
      levels := band e.irq.levels (2 ^ 3 + 2 ^ 7)
      stopped := true }
    radio := { d.radio with wake := if reach < 4 then e.radio.wake else none }
    pair := { d.pair with grant := e.pair.grant, fence := e.pair.fence }
    pcie := { d.pcie with perst := e.pcie.perst }
    rst := { e.rst with
      stage := 1
      opening := []
      kicks := []
      bad := []
      image := []
      fault := false
      mdTaken := false
      mapped := e.rst.mapped && decide (reach < 3)
      fuses := if reach < 3 then e.rst.fuses else []
      classed := if reach < 3 then e.rst.classed else 0
      trained := e.rst.trained && decide (reach < 3)
      locked := if reach < 3 then e.rst.locked else 0
      dram := if reach < 3 then e.rst.dram else []
      sram := if reach < 4 then e.rst.sram else []
      rtc := if reach < 4 then e.rst.rtc else (0, e.rst.rtc.2)
      latched := if reach < 4 then e.rst.latched else [0, 86400, 0]
      record := if reach < 4 then e.rst.record else none } }

/-- Everything within the reach is held (R485: the mute line of all tiles is asserted). -/
def wideReset (reach : Nat) : Act := acts [
  .eff (.reset (keptAt reach)),
  eng (wideEngines reach),
  muteFor 0,
  forAll (List.range 17) fun b => wr (R.BL_STATE b) 2,
  forAll (List.range 8) fun c => wr (R.AC_STATE c) 3]

/-! ## The fuse map (02_package_pins.md R39, R40) -/

/-- The fuse map is loaded (R39, R40). -/
def loadFuses : Act := .read fun s =>
  let v (e : Nat) : Nat := s.rd (R.FX_FUSE_READ e)
  let bad (e : Nat) : Bool := bit? (v e) 7 && (decide (4 < fld (v e) 6 4) || decide (4 < fld (v e) 3 1) || !(oddOnes (v e)))
  let used := (List.range 155).filter fun e => bit? (v e) 7
  acts [setRst fun g => { g with
      mapped := true
      fuses := (used.filter fun e => !(bad e)).map fun e => (e, v e) },
    match (List.range 155).find? bad with
    | some e => wr R.RC_FUSE (2 ^ 63 + e)
    | none => wr R.RC_FUSE 0]

/-- The fuse loader runs once VDD_CORE and VDD_MEM are good in a reset of Chip reach or wider (R39). -/
def fuseLoader : Act := .read fun s =>
  onlyIf (!s.eng.rst.mapped && !(bit? s.eng.rst.low 0) && !(bit? s.eng.rst.low 1)) loadFuses

/-! ## Sources (R477, R482, R483) -/

/-- A source asserts: the cause record takes its bit (R488), and all within its reach is held. DEDUCED: log 211. -/
def assertSrc (x : RstSrc) : Act := .read fun s => acts [
  onlyIf s.noReset (setRst fun g => { g with
    causes := 0
    reach := 0
    rails := 0
    clocks := 0 }),
  setRst fun g => { g with
    causes := setBit g.causes x.cause
    reach := max g.reach x.reach
    srcs := (g.srcs.filter fun y => !(y.cause == x.cause && y.reach == x.reach && y.target == x.target && y.hold == x.hold)) ++ [x] },
  onlyIf (x.reach == 4) rtcInvalid,
  if x.reach = 0 then coreReset x.target else if x.reach = 1 then blockAssert x.target else wideReset x.reach,
  onlyIf (decide (3 ≤ x.reach)) fuseLoader,
  onlyIf (decide (x.reach ≤ 1)) newNonce,
  .read fun s => wr R.RC_HISTORY (if x.reach = 4 then 1 else setBit (s.rd R.RC_HISTORY) x.cause)]

/-! ## The release sequence (R484, Table RESET-4) -/

/-- Boot zeroization (R329). -/
def bootZeroize : Act := .read fun s =>
  let held := (s.objs.filter fun e => e.1.idx == 0x4000 && e.1.mem == 1).map fun e => e.1.inst
  let gone (k : Nat) : Bool := let a := s.rd (R.K_ATTR k)
    !(kScope a (s.rd R.LC_STATE)) || (s.rd R.LC_STATE == 4 && kOwner a)
  forAll (held.filter gone) zeroize

/-- Slots with EXP_RESET are zeroized at Chip reach and wider (R314). -/
def expireKeys : Act := .read fun s =>
  let l := ((s.objs.filter fun e => e.1.idx == 0x4000 && e.1.mem == 1).map fun e => e.1.inst).filter fun k => bit? (s.rd (R.K_ATTR k)) 41
  onlyIf (!l.isEmpty) (acts [forAll l zeroize, raise 0x0C09 0 l.length])

/-- The strap word of levels laid out as in Table PINS-12, with STRAP_ERR (R48). DEDUCED: log 134. -/
def strapWord (pins : Nat) : Nat :=
  let w := fld pins 10 8 * 256 + fld pins 5 4 * 16 + fld pins 2 0
  if fld w 5 4 = 3 ∨ fld w 9 8 = 3 then setBit w 11 else w

/-- ROLE after straps have been sampled: a pair member has none while it boots (R392). DEDUCED: log 133. -/
def roleOf (straps : Nat) : Nat := match fld straps 9 8 with
  | 0 => 0
  | 2 => 3
  | _ => 4

/-- Steps 6 to 9: straps sampled, RC_LAST written, device time started, boot zeroization. DESIGN CHOICE: log 112. -/
def stageBegins : Act := .read fun s =>
  let g := s.eng.rst
  let straps := strapWord g.pins
  acts [
    wr R.STRAPS straps, wr R.DEVNUM (fld straps 2 0), wr R.ROLE (roleOf straps),
    wr R.PR_STATE (b2n (fld straps 9 8 == 1)),
    forAll (List.range 8) fun d => acts [wr (R.PT_BASE d) (b2n (d == fld straps 2 0)),
      wr (R.PT_LIMIT d) (if d = fld straps 2 0 then 8388607 else 0)],
    wr R.RC_LAST (if g.wake && decide (3 ≤ g.reach) then setBit g.causes 14 else g.causes),
    onlyIf (g.wake && decide (3 ≤ g.reach)) (wr R.RC_HISTORY (setBit (s.rd R.RC_HISTORY) 14)),
    wr R.RC_REACH g.reach, wr R.RC_RAILS g.rails, wr R.RC_CLOCK g.clocks,
    wr R.RC_BOOTS (s.rd R.RC_BOOTS + 1),
    timeRestart (if s.rd R.RTC_VALID = 1 then s.rtcTime else 0),
    onlyIf (decide (3 ≤ g.reach)) (acts [expireKeys, dumpsLost]),
    newNonce, bootZeroize,
    onlyIf (s.rd R.BK_TAMPER != 0) (setLevel 6 true)]

/-- Step 10 begins as BOOT_SRC says (R45, R489). DESIGN CHOICE: log 153. -/
def bootFlow : Act := .read fun s =>
  match fld (s.rd R.STRAPS) 5 4 with
  | 3 => acts [wr R.BT_STAGE 4, setRst fun g => { g with stage := 3, fault := true }]
  | 2 => acts [wr R.BT_STAGE 1, setRst fun g => { g with stage := 2 }, releaseBlock 14]
  | _ => acts [wr R.BT_STAGE 0, setRst fun g => { g with stage := 2 }]

/-- The System stage begins once no source of System reach or wider is left, the DRAM is trained and the device is powered. -/
def tryStage : Act := .read fun s =>
  let g := s.eng.rst
  onlyIf (g.stage == 1 && g.trained && g.power == 0 && !(g.srcs.any fun x => decide (2 ≤ x.reach))) (acts [stageBegins, bootFlow])

/-- Sources release (R481). -/
def releaseSrcs (which : RstSrc → Bool) : Act := acts [
  setRst fun g => { g with srcs := g.srcs.filter fun x => !(which x) }, tryStage, settle]

/-- A release with the strap levels of its moment. -/
def releaseWith (pins : Nat) (which : RstSrc → Bool) : Act := acts [setRst fun g => { g with pins := pins }, releaseSrcs which]

/-- Reset requests whose millisecond is over assert now (R479). DEDUCED: log 111. -/
def assertDue : Act := .read fun s =>
  let ovr := s.eng.rst.due.filter fun d => decide (d.1 ≤ s.now)
  onlyIf (!ovr.isEmpty) (acts [setRst fun g => { g with due := g.due.filter fun d => decide (s.now < d.1) },
    forAll ovr fun d => assertSrc { d.2 with ends := d.2.ends.map fun _ => d.1 + 1000 }])

/-- RESET_PULSE_END. -/
def pulseEnd (pins : Nat) : Act := .read fun s =>
  releaseWith pins fun x => match x.ends with
    | some u => decide (u ≤ s.now)
    | none => false

/-- A 1 µs pulse. -/
def pulse (cause reach target : Nat) : Act := .read fun s => assertSrc ⟨cause, reach, target, some (s.now + 1000), false⟩

/-! ## Requests (R478 to R480) -/

/-- RS_REQ of a valid code. -/
def resetRequest (v : Nat) : Act := .read fun s =>
  let reach := fld v 2 0
  let hold := bit? v 16
  let x : RstSrc := ⟨8, reach, fld v 12 8, if hold then none else some (s.now + 1000), hold⟩
  if 2 ≤ reach then askReset x else assertSrc x

/-- RS_RELEASE. -/
def resetRelease (v : Nat) : Act := releaseSrcs fun x => x.hold && x.reach == fld v 2 0 && x.target == fld v 12 8

def legacyReset : Act := askReset ⟨7, 2, 0, some 0, false⟩

/-- The watchdog of a core has expired. -/
def State.wdExpired (s : State) (c : Nat) : Bool :=
  s.rd (R.AC_WD_MS c) != 0 && s.rd (R.AC_STATE c) != 3 && !(s.eng.flt.halted.contains c) &&
    decide (s.eng.rst.kicks.at c 0 + s.rd (R.AC_WD_MS c) * 1000000 ≤ s.now)

/-- A core's watchdog or lock-up resets the core or block 0, by AC_WD_REACH. -/
def corePulse (bit c : Nat) : Act := .read fun s =>
  if s.rd (R.AC_WD_REACH c) = 0 then pulse (bit + c) 0 c else pulse (bit + c) 1 0

def acWatchdog (c : Nat) : Act := .read fun s => onlyIf (s.wdExpired c) (corePulse 32 c)

/-- The cycles without a retired instruction that make a lock-up (R478). -/
def lockedUp (cycles : Nat) : Bool := decide (2 ^ 24 ≤ cycles)

/-- AC_LOCKUP: a core that is neither in WFI, halted nor in reset. -/
def acLockup (c cycles : Nat) : Act := .read fun s =>
  onlyIf (lockedUp cycles && s.rd (R.AC_STATE c) == 0 && !(s.eng.flt.halted.contains c)) (corePulse 40 c)

/-- The watchdog of a core is held while its debugger halts it: the time it has run is kept. -/
def wdHold (c : Nat) : Act := .read fun s => onlyIf (decide (c < 8) && !(s.eng.flt.halted.contains c))
  (setRst fun g => { g with kicks := g.kicks.set c (s.now - g.kicks.at c 0) })
def wdResume (c : Nat) : Act := .read fun s => onlyIf (decide (c < 8) && s.eng.flt.halted.contains c)
  (setRst fun g => { g with kicks := g.kicks.set c (s.now - g.kicks.at c 0) })

/-- The SM watchdog, armed while BT_STAGE is RUNNING: 1,000 ms have passed since its last refresh. DESIGN CHOICE: log 188. -/
def smWatchdog (last : Nat) : Act := .read fun s => onlyIf (s.rd R.BT_STAGE == 3 && decide (last + 1000000000 ≤ s.now)) (pulse 5 2 0)

/-- The SM core locks up: it runs, a reserved BOOT_SRC does not hold it (R45), and no debugger halts it. -/
def smLockup (cycles : Nat) : Act := .read fun s =>
  onlyIf (lockedUp cycles && s.eng.rst.stage != 1 && s.eng.rst.stage != 3 && !(s.eng.flt.halted.contains 8)) (pulse 6 2 0)

/-- DEBUG_RESET_REQUEST: ndmreset (hart 10), or hartreset of a hart the module reaches. -/
def debugReset (hart : Nat) (active : Bool) (pins : Nat) : Act := .read fun s =>
  let x : RstSrc := if hart < 8 then ⟨10, 0, hart, none, false⟩ else ⟨10, 2, hart, none, false⟩
  if ¬ s.debugOpen (if hart = 10 then 0 else hart) then .skip
  else if active then assertSrc x
  else releaseWith pins fun y => y.cause == 10 && y.reach == x.reach && y.target == x.target

/-! ## Supplies (R477, R484, R49) -/

/-- All 24 rails, in the order of RC_RAILS (Table RESET-10). -/
def allRails : Nat := 2 ^ 24 - 1

/-- The rails that take a class (R538), and the level from which the class is the high one, in units of 0.1 mV. -/
def classFrom (r : Nat) : Option Nat := if r = 15 then some 21000 else if 20 ≤ r then some 25000 else none

/-- The thresholds of Table ELEC-2 in units of 0.1 mV, good and brown-out, of a rail in its low or high class. -/
def railThresholds (r : Nat) (high : Bool) : Nat × Nat :=
  if r = 0 then (7125, 6900) else if r ≤ 2 then (8075, 7800) else if r ≤ 6 then (7600, 7350)
  else if r = 9 then (10450, 10100) else if r ≤ 13 then (11400, 11000) else if r = 14 then (16200, 15500)
  else if r = 15 then (if high then (22500, 21500) else (16200, 15500))
  else if r ≤ 19 then (30000, 29000)
  else if high then (30000, 29000) else (16200, 15500)

/-- The class a rail takes at a level: the one it has taken since the last Chip-reach reset, or that of its level (R538).
DEDUCED: log 164. -/
def State.railHigh (s : State) (r level : Nat) : Bool :=
  if bit? s.eng.rst.classed r then bit? s.eng.rst.high r
  else match classFrom r with
    | some u => decide (u ≤ level)
    | none => false

/-- A rail is good. -/
def State.railGood (s : State) (r : Nat) : Bool := !(bit? s.eng.rst.low r)

/-- A rail rises to a level: it becomes good at its good threshold, and takes its class there (R537, R538).
DEDUCED: log 164, 165. -/
def railRises (r level : Nat) : Act := .read fun s =>
  let hi := s.railHigh r level
  onlyIf (decide (r < 24) && !(s.railGood r) && decide ((railThresholds r hi).1 ≤ level)) (setRst fun g => { g with
    low := clrBit g.low r
    high := if hi then setBit g.high r else clrBit g.high r
    classed := setBit g.classed r })

/-- The rails of a list of levels that fall below their brown-out threshold (R537). -/
def State.railsFall (s : State) (mv : List (Nat × Nat)) : Nat := mv.foldl (fun m x =>
  if x.1 < 24 ∧ s.railGood x.1 ∧ x.2 < (railThresholds x.1 (bit? s.eng.rst.high x.1)).2 then setBit m x.1 else m) 0

def vbatLow : Act := .read fun s => acts [
  setRst fun g => { g with
    power := 3
    since := s.now
    pwrEn := true },
  assertSrc ⟨0, 4, 0, none, false⟩]

/-- The main power-on source, while VDD_CORE has still to rise and until every rail is good (R477). -/
def mainPor : Act := .read fun s => onlyIf (!(s.railGood 0)) (assertSrc ⟨1, 3, 0, none, false⟩)

/-- VBAT is good again: the backup domain is released. Rails that rose before it, as those of groups 1 and 2 do where VBAT is tied
(R52), stay good; the others come up. DEDUCED: log 115. -/
def vbatHigh (tied : Bool) : Act := .read fun s => onlyIf (s.eng.rst.power == 3) (acts [
  setRst fun g => { g with
    power := 0
    since := s.now
    tied := tied
    rtc := (0, s.now)
    pwrEn := true },
  mainPor, releaseSrcs fun x => x.cause == 0])

/-- Rails of a mask are below their brown-out threshold: a Chip-reach reset (R477). -/
def railsDown (rails : Nat) : Act := .read fun s => acts [
  onlyIf s.noReset (setRst fun g => { g with rails := 0 }),
  setRst fun g => { g with low := bor g.low rails },
  assertSrc ⟨2, 3, 0, none, false⟩,
  setRst fun g => { g with rails := bor g.rails rails }]

/-- BROWN_OUT: rails at levels in units of 0.1 mV. -/
def brownOut (mv : List (Nat × Nat)) : Act := .read fun s =>
  onlyIf (s.railsFall mv != 0) (railsDown (s.railsFall mv))

/-- RAILS_GOOD: the rails, in the order of RC_RAILS, at levels in units of 0.1 mV. Once every rail is good, the main power-on source
ends, and a brown-out is held 1 ms more (R477). They may rise before VBAT does (R51, R52). DEDUCED: log 165. -/
def railsGood (pins : Nat) (mv : List Nat) : Act := .read fun s => onlyIf (s.eng.rst.power == 0 || s.eng.rst.power == 3) (acts [
  onlyIf (s.eng.rst.power == 3 && decide ((railThresholds 0 false).1 ≤ mv.getD 0 0)) mainPor,
  forAll mv.zipIdx fun x => railRises x.2 x.1,
  fuseLoader,
  .read fun s => onlyIf (s.eng.rst.low == 0) (acts [
    setRst fun g => { g with srcs := g.srcs.map fun x =>
      if x.cause = 2 ∧ x.ends = none then { x with ends := some (s.now + 1000000) } else x },
    releaseWith pins fun x => x.cause == 1])])

/-- RESET_N has a level that has passed the 1 µs glitch filter. -/
def resetPin (low : Bool) (pins held : Nat) : Act :=
  if held < 1000 then .skip
  else if low then acts [setRst fun g => { g with resetIn := false }, assertSrc ⟨3, 2, 0, none, false⟩]
  else acts [setRst fun g => { g with resetIn := true }, releaseWith pins fun x => x.cause == 3]

/-! ## Clocks (R486, R491, R492) -/

/-- PLL_LOCK: the PLLs start once the fuse map is applied (Table RESET-4 step 3). -/
def pllLock (d : Nat) : Act := .read fun s =>
  onlyIf (s.eng.rst.mapped && decide (d < 11)) (setRst fun g => { g with locked := setBit g.locked d })

/-- CLOCK_GOOD: 1,024 good cycles of a domain, whose PLL has locked (R484 step 4, R486); BCLK, REFCLK and the PCIe reference have no
PLL. -/
def clockGood (d pins : Nat) : Act := .read fun s => onlyIf (decide (11 ≤ d) || bit? s.eng.rst.locked d) <|
  let waiting := (List.range 17).filter fun b => s.rd (R.BL_STATE b) == 3 && blockDomain b == d && !(s.blockHeld b)
  acts [wr (R.CK_GOOD d) 1,
    forAll waiting fun b => acts [wr (R.BL_STATE b) 2, setRst fun g => { g with opening := g.opening ++ [b] }],
    releaseWith pins fun x => (x.cause == 4 && x.target == d) || (x.cause == 13 && failBlock d == some x.target)]

/-- DRAM_TRAINED (R438, Table RESET-4 step 5): the first speed, from the highest down, at which both channels train. Where there is
none the SM core stays in its boot loop and SYS_FAULT_N is asserted. -/
def dramTrained (pins cap : Nat) (a b : List Nat) : Act := .read fun s =>
  onlyIf (s.rd (R.CK_GOOD 0) == 1 && s.rd (R.CK_GOOD 4) == 1 && !s.eng.rst.trained)
    (match [5600, 4800, 4000, 3200].find? fun v => a.contains v && b.contains v with
     | none => setRst fun g => { g with fault := true }
     | some v => acts [wr R.MC_SPEED v, wr R.MC_CAPACITY (cap * 2 ^ 30), wr (R.CK_FREQ 4) (v * 250),
        setRst fun g => { g with trained := true, fault := false }, releaseWith pins fun _ => false])

/-- The nominal frequency of a domain in Hz. -/
def State.nominalHz (s : State) (d : Nat) : Nat :=
  if d = 4 then s.rd R.MC_SPEED * 250000
  else [1000000000, 1600000000, 800000000, 500000000, 0, 156250000, 781250000, 200000000, 200000000, 200000000, 200000000, 32768,
    38400000, 100000000].getD d 0

/-- A window count lies within the tolerance. -/
def State.clockPasses (s : State) (d hz : Nat) : Bool :=
  let n := s.nominalHz d
  decide (100 * n ≤ 100 * hz + (if d = 12 then 10 else 1) * n) && decide (100 * hz ≤ 100 * n + (if d = 12 then 10 else 1) * n)

/-- The clock is judged: its block, or the device, is out of reset. BCLK follows R498. DEDUCED: log 118. -/
def State.clockJudged (s : State) (d : Nat) : Bool := d != 11 && s.eng.rst.stage != 1 && (match failBlock d with
  | some b => s.blockUp b
  | none => true)

def clockFails (d : Nat) : Act := acts [
  wr (R.CK_GOOD d) 0, inc (R.CK_FAILS d), raise 0x0205 d d, lapse 2,
  match failBlock d with
  | some b => assertSrc ⟨13, 1, b, none, false⟩
  | none => assertSrc ⟨4, 2, d, none, false⟩,
  setRst fun g => { g with
    clocks := setBit g.clocks d
    locked := clrBit g.locked d },
  clockLevel]

/-- CLOCK_WINDOW of measured frequencies. -/
def clockWindow (meas : List (Nat × Nat)) : Act := forAll meas fun m => .read fun s =>
  let d := m.1
  let n := s.eng.rst.bad.at d 0 + 1
  acts [wr (R.CK_FREQ d) (m.2 / 1000),
    if ¬ s.clockJudged d then .skip
    else if s.clockPasses d m.2 then setRst fun g => { g with bad := g.bad.clear d }
    else if n < 2 then setRst fun g => { g with bad := g.bad.set d n }
    else acts [setRst fun g => { g with bad := g.bad.clear d }, clockFails d]]

/-! ## Power states (R493 to R495) -/

/-- The outage record (R495). -/
def writeRecord : Act := .read fun s =>
  let nets := ((s.objs.filter fun e => e.1.idx == 0x4000 && e.1.mem == 0).map fun e => e.1.inst).filter fun k =>
    kType (s.rd (R.K_ATTR k)) == 3
  let fields := [s.devTime, if s.rd R.RTC_VALID = 1 then s.rtcNow else 0, s.rd R.FC_EPOCH, s.tsAsn, s.rd R.ACTIVE_MODES, s.rd R.PR_STATE]
  let rec_ := (fields, nets.map fun k => (k, s.rd (R.K_FC k)), true)
  setRst fun g => { g with record := some rec_ }

/-- The settings of the wake receiver are latched (R139). -/
def latchWake : Act := .read fun s =>
  let w := if s.rd R.WK_EN = 1 then some (s.rd R.WK_UNIT, s.rd R.WK_GROUP, s.rd R.WK_GROUP_EN == 1, s.rd R.WK_TOL) else none
  setRadio fun g => { g with wake := w }

/-- PWR_EN_MAIN falls, and the rails with it. -/
def powerDown (power : Nat) : Act := .read fun s => acts [
  setRst fun g => { g with
    power := power
    since := s.now
    pwrEn := false },
  railsDown allRails]

/-- PFAIL_WARNING. DEDUCED: log 189. -/
def pfail (mv : Nat) : Act := .read fun s => onlyIf (s.eng.rst.power == 0 && decide (mv < s.rd R.PW_PFAIL_THR)) (acts [
  setLevel 7 true, raise 0x0206 0 0,
  onlyIf (s.eng.rst.latched.getD 0 0 == 1) (acts [wr R.PW_STATE 2, muteFor 5, writeRecord, latchWake, powerDown 1])])

/-- The device leaves Outage or Hold. DEDUCED: log 115. -/
def powerUp (byPattern : Bool) : Act := .read fun s => acts [
  setRst fun g => { g with
    power := 0
    since := s.now
    pwrEn := true
    wake := true },
  onlyIf (!byPattern) (setRadio fun g => { g with wake := none })]

/-- MAINS_GOOD: PFAIL_SENSE has been above its threshold and 50 mV for PW_MAINS_GOOD. DEDUCED: log 189. -/
def mainsGood (mv held : Nat) : Act := .read fun s =>
  onlyIf (decide (s.rd R.PW_PFAIL_THR + 50 < mv) && decide (s.rd R.PW_MAINS_GOOD ≤ held))
    (acts [setLevel 7 false, onlyIf (s.eng.rst.power == 1) (powerUp false)])

/-- Entry to Hold from Outage, once PW_HOLD_AFTER is over. -/
def holdAfter : Act := .read fun s =>
  let h := s.eng.rst.latched.getD 1 0
  onlyIf (s.eng.rst.power == 1 && h != 0 && decide (s.eng.rst.since + h * 1000000000 ≤ s.now)) (acts [
    setRst fun g => { g with power := 2, since := s.now }, setRadio fun g => { g with wake := none },
    onlyIf (s.eng.rst.latched.getD 2 0 == 0) rtcInvalid])

/-- HOLD_EXIT: PFAIL_SENSE is above 1.0 V. -/
def holdExit (mv : Nat) : Act := .read fun s => onlyIf (s.eng.rst.power == 2 && decide (1000 < mv)) (powerUp false)

/-- PW_CMD 1. -/
def enterHold : Act := .read fun s => acts [writeRecord, onlyIf (s.eng.rst.latched.getD 2 0 == 0) rtcInvalid, powerDown 2]

/-- WAKE_PATTERN (R140): the receiver runs in Outage with settings latched. -/
def wakePattern (preamble delimiter word : Nat) : Act := .read fun s =>
  match s.eng.radio.wake with
  | some w =>
    let m := wakeMatch w word
    onlyIf (s.eng.rst.power == 1 && wakeFramed preamble delimiter && m != 0) (acts [inc R.WK_MATCHES, wr R.WK_LAST m, powerUp true])
  | none => .skip

/-- DOZE_ENTRY: all eight cores are in WFI. -/
def dozeEntry (wfi : Nat) : Act := .read fun s => onlyIf (wfi % 256 == 255 && s.rd R.PW_STATE == 0 && s.rd R.PW_DOZE_EN == 1 && s.blockUp 0 &&
    (List.range 16).all fun x => (s.eligibleFor x).isEmpty) (acts [
  wr R.PW_STATE 1, forAll (List.range 8) fun c => onlyIf (s.rd (R.AC_STATE c) == 0) (wr (R.AC_STATE c) 1)])

/-- DOZE_EXIT: a request for contexts 0 to 15, a debug halt request, or PW_DOZE_EN 0. -/
def dozeExit (halt : Bool) : Act := .read fun s => onlyIf (s.rd R.PW_STATE == 1 &&
    (halt || s.rd R.PW_DOZE_EN == 0 || (List.range 16).any fun x => s.rd (R.CX_REQUEST x) == 1)) (acts [
  wr R.PW_STATE 0, forAll (List.range 8) fun c => onlyIf (s.rd (R.AC_STATE c) == 1) (wr (R.AC_STATE c) 0)])

/-- DEBUG_HALT: a halt request ends Doze (Table RESET-7), and a halted core's watchdog is held (R478). -/
def haltHart (hart : Nat) : Act := .read fun s => onlyIf (s.debugOpen hart) (acts [dozeExit true, wdHold hart, debugHalt hart])

/-- DEBUG_RESUME. -/
def resumeHart (hart : Nat) : Act := .read fun s => onlyIf (s.debugOpen hart) (acts [wdResume hart, debugResume hart])

/-! ## Tamper and temperature (R497, R499) -/

/-- TAMPER_LATCH. -/
def tamper (n held : Nat) : Act := .read fun s =>
  let cfg := s.rd R.BK_TAMPER_CFG
  onlyIf (s.eng.rst.power != 3 && decide (100000 ≤ held) && decide (n < 2) && bit? cfg n && !(bit? (s.rd R.BK_TAMPER) n)) (acts [
    wr R.BK_TAMPER (setBit (s.rd R.BK_TAMPER) n), setLevel 6 true,
    .read fun s => raise 0x0208 0 (s.rd R.BK_TAMPER),
    onlyIf (bit? cfg 8) (acts [forAll (List.range 16) fun k => wr ⟨0x0240, 0, k⟩ 0, setRst fun g => { g with sram := [] }])])

/-- BK_TAMPER_CLR with the levels of the inputs. -/
def tamperClear (high : Nat) : Act := .read fun s =>
  let left := bclr (s.rd R.BK_TAMPER) (high % 4)
  acts [wr R.BK_TAMPER left, onlyIf (left == 0) (setLevel 6 false)]

/-- THERMAL_SAMPLE. -/
def thermal (temp : Int) : Act := .read fun s =>
  let warn := s.rdi R.TH_WARN
  let trip := s.rdi R.TH_TRIP
  let was := bit? s.eng.irq.levels 3
  let hot := if was then decide (trip - 20 < temp) else decide (trip ≤ temp)
  acts [wri R.TH_TEMP temp,
    onlyIf (!(s.eng.rst.warned) && decide (warn ≤ temp)) (acts [setRst fun g => { g with warned := true }, raise 0x020B 0 (unsgn 32 temp)]),
    onlyIf (s.eng.rst.warned && decide (temp ≤ warn - 20)) (setRst fun g => { g with warned := false }),
    onlyIf (hot && !was) (acts [lapse 2, raise 0x020C 0 (unsgn 32 temp)]),
    setLevel 3 hot,
    if hot && s.rd R.TH_MUTE == 1 then muteFor 2 else unmuteFor 2]

end Sys2Proof.Machine
end

