-- ==== Sys2Proof/Machine/Hooks.lean ====
section
/-! DEFINITION. What the owning block does when a written value takes effect: one rule per object that does more than hold its
value (R102 and the rules of the objects' chapters). -/

namespace Sys2Proof.Machine

open Sys2Proof

/-- The instances of the members that satisfy a test, each once, lowest first. -/
def instsOf (refs : List Ref) (p : Ref → Bool) : List Nat :=
  ((refs.filter p).foldl (fun acc r => aput natLt acc r.inst ()) []).map (·.1)

/-- A member by index and member number. -/
def isMem (idx mem : Nat) (r : Ref) : Bool := r.idx == idx && r.mem == mem

/-- The value of an object differs from the one before. -/
def State.moved (s s0 : State) (r : Ref) : Bool := s.rd r != s0.rd r

/-- TH_MUTE has been written (R499). -/
def thermalMute : Act := .read fun s =>
  if bit? s.eng.irq.levels 3 && s.rd R.TH_MUTE == 1 then muteFor 2 else unmuteFor 2

/-- Request signals follow a change of IRQ_PENDING, IRQ_ENABLE, IRQ_SRC, thresholds and routing (R456). -/
def bearsOnRequests (r : Ref) : Bool :=
  r.idx == 0x0301 || r.idx == 0x0302 || isMem 0x0304 2 r || (decide (0x0310 ≤ r.idx) && decide (r.idx ≤ 0x0317)) || isMem 0x0304 0 r || isMem 0x0030 6 r ||
    isMem 0x0393 3 r || isMem 0x0392 0 r

/-- An image armed for an ASN is staged again when TS_RUN falls (R195, R507). -/
def unarmAsn : Act := .read fun s => onlyIf (s.rd R.UP_STATE == 5 && s.rd R.UP_INSTANT == 1)
  (acts [wr R.UP_STATE 3, eng fun e => { e with up := { e.up with armed := none } }, raise 0x1207 0 10])

/-- What comes before members are written: the refills of the traffic manager that are due, which still see the old settings (R300). -/
def beforeApply (refs : List Ref) : Act :=
  onlyIf (refs.any fun r => r.idx == 0x3430 || r.idx == 0x3440) (whenUp 11 refillsDue)

/-- One written member. DEDUCED: log 51, 52, 116. -/
def memberApplied (s0 : State) (r : Ref) : Act := .read fun s =>
  let i := r.inst
  match r.idx, r.mem with
  | 0x0203, 0 => onlyIf (s0.rd r == 0 && s.rd r != 0) (wdKick i)
  | 0x0211, 0 => bclkSource (s.rd r)
  | 0x0220, 1 => onlyIf (s.rd r == 0) (dozeExit false)
  | 0x0220, 2 | 0x0220, 5 => latchPower
  | 0x0250, 3 => thermalMute
  | 0x0320, 0 => timerCtrl s0 i
  | 0x0392, 0 => fifoMode i
  | 0x0393, 4 => ringRuns i
  | 0x1000, 0 => portEnable i (s.moved s0 r)
  | 0x1000, 1 | 0x1000, 2 => onlyIf (s.moved s0 r) (wantStart i)
  | 0x1002, 0 | 0x1002, 1 | 0x1002, 2 => agcApplied i
  | 0x2000, 0 =>
    if s0.rd r = s.rd r then .skip else if s.rd r = 1 then tsStart else acts [tsStop ((s0.lastServed s.devTime).getD (s0.rd R.TS_ASN)), unarmAsn]
  | 0x2000, 1 | 0x2001, _ => epochApplied
  | 0x2002, 0 => swapApplied s0
  | 0x2030, m => tplChanged s0 i m
  | 0x2040, 0 => ebBegins i
  | 0x2300, 0 => onlyIf (s.moved s0 r) (if s.rd r = 0 then snDisable else snEnable)
  | 0x2410, 2 => budgetApplied i
  | 0x3400, _ => judgeStorm
  | 0x3420, 1 => acts [judgeQueue i, judgeStorm]
  | 0x3450, 2 => judgeNodeBuf i
  | 0x3450, 3 => judgeNodePs i
  | 0x3460, 0 => judgeGroupBuf i
  | 0x3460, 1 => judgeGroupPs i
  | 0x3470, 0 => onlyIf (s.moved s0 r) (gateApplied i)
  | 0x4000, 5 => rollApplied i
  | 0x4300, 0 => onlyIf (s0.rd r == 0 && s.rd r == 1) (wr R.J_SERVE_ASN s.tsAsn)
  | 0x4300, 2 | 0x4300, 12 => onlyIf (s.moved s0 r) statementStale
  | 0x4310, 0 => wr (R.IS_STATE i) 0
  | 0x5100, 0 => ppStateApplied s0 i
  | 0x5201, 0 => svSource
  | 0x5220, 0 => ppsEn
  | 0x5220, 1 | 0x5220, 3 => ppsOut
  | 0x5220, 2 => ppsStepped s0
  | 0x5400, 0 => fabEnable i
  | 0x5400, 1 => acts [routesChanged, showPairLink]
  | 0x5410, 0 => routesChanged
  | 0x7030, 4 => perturbApplied s0 i
  | _, _ => .skip

/-- Everything that follows from written members, which the state already holds; `s0` is the state before. A block that is held
applies its configuration when its wrapper opens (R475). -/
def afterApply (s0 : State) (written : List Ref) : Act := .read fun s =>
  let refs := written.filter s.ownerUp
  acts [
    onlyIf (refs.contains R.TU_RATE) (rateApplied s0),
    forAll refs (memberApplied s0),
    laneMapApplied s0 refs,
    forAll (instsOf refs fun r => r.idx == 0x1400 && decide (r.mem ≤ 2)) planApplied,
    forAll (instsOf refs fun r => r.idx == 0x2310 && decide (r.mem ≤ 2)) snConfigured,
    forAll (instsOf refs fun r => r.idx == 0x5100 && (r.mem == 9 || r.mem == 10)) ppParentApplied,
    onlyIf (refs.any bearsOnRequests) followAll,
    forAll (instsOf refs (isMem 0x0304 2)) (completeFollows s0)]

/-! ## Commits that the values of several objects fail (R20, R146, R204, R261, R282, R296, R326, R561) -/

/-- The object for which staged values must not apply, with the status the owner hears (each abort has cause RESOURCE, and its
status, but for R561). `s` is the
state before, `s1` what it would hold. -/
def State.commitFault (s s1 : State) (refs : List Ref) : Option (Nat × Ref) :=
  let res (o : Option Ref) : Option (Nat × Ref) := o.map fun r => (stResource, r)
  let entry := (instsOf refs fun r => r.idx == 0x7030).find? fun k => !(s1.perturbOk k)
  let bank := if s1.rd R.ST_ACTIVE = s.rd R.ST_ACTIVE then none else s1.bankFault (s1.rd R.ST_ACTIVE)
  let tests : List (Option (Nat × Ref)) := [
    entry.map fun k => (stRange, R.PE_EN k),
    res (refs.find? fun r => !(s1.jointFits r)),
    if !(refs.contains R.SN_PS_CELLS) || s1.regionsFit then none else some (stResource, R.SN_PS_CELLS),
    res (s1.laneCommitFault refs), res bank, res (s1.tallyCommitFault refs), res (s1.partitionFault refs),
    res (queueCommitFault s s1 refs), res (rollFault s refs)]
  tests.findSome? id

end Sys2Proof.Machine
end

