-- ==== Sys2Proof/Machine/Commit.lean ====
section
/-! DEFINITION. Commit, apply and the waits for locks, on one device and across devices; mode changes
(04_transactions_configurations.md R97 to R109, R115). -/

namespace Sys2Proof.Machine

open Sys2Proof

/-! ## Written values -/

/-- The word a staged item leaves. -/
def State.newWord (s : State) (i : Staged) : Word :=
  let old := s.word i.ref
  if i.op = 1 then old ||| i.val else if i.op = 2 then old &&& ~~~i.val else i.val

/-- A member is written: most members hold the word; the pending and enable words, the source words and the members whose write is an
act of their block are their chapters' (R445, R454, R459, R462). -/
def storeItem (i : Staged) : Act := .read fun s =>
  let r := i.ref
  let v := (s.newWord i).toNat
  match r.idx with
  | 0x0301 => wr r (s.pendingWord r.mem i.op i.val.toNat)
  | 0x0302 => wr r (enableWord r.mem v)
  | 0x0310 | 0x0311 | 0x0312 | 0x0313 | 0x0314 | 0x0315 | 0x0316 | 0x0317 => wr r (s.srcStored ((r.idx - 0x0310) * 256 + r.inst) v)
  | 0x0304 => if r.mem = 2 then complete r.inst (i.val.toNat % 2048) else wr r v
  | 0x0391 =>
    if r.mem = 1 then onlyIf (s.roomForItem r.inst) (takeItem r.inst 1 i.val.toNat)
    else endPacket .dev r.inst i.val.toNat
  | _ => .eff (.wr r (s.newWord i))

/-- Members are written and their blocks follow: every stored value stands before any block acts on one (R22), and each member acts
once (R95). A push into a FIFO is an act of its block. -/
def storeItems (items : List Staged) : Act := .seq (beforeApply (items.map (·.ref))) <| .read fun s0 => acts [
  forAll (items.filter fun i => i.ref.idx != 0x0391) storeItem,
  afterApply s0 (items.map (·.ref)).eraseDups,
  forAll (items.filter fun i => i.ref.idx == 0x0391) storeItem]

/-! ## Instants (R98) -/

/-- The device time that an instant names now; none: IMMEDIATE. -/
def State.instantOf (s : State) (kind asn time : Nat) : Option Nat :=
  match kind with
  | 1 => some (s.slotStart asn)
  | 2 => some time
  | _ => none

/-- The device time of the instant of a transaction, under the epoch that was in force at its commit request; none when it is
IMMEDIATE. -/
def State.txnInstant (s : State) (h : Nat) : Option Nat := (s.txn? h).bind fun x => x.due

/-- An instant given as in Table TXN-3 lies within the limits. -/
def State.instantOk (s : State) (kind asn time : Nat) : Bool :=
  let last := s.devTime + 86400 * uSec
  if kind = 1 then s.rd R.TS_RUN == 1 && decide (s.rdTime (R.EP_TIME 0) ≤ s.devTime) && asn % s.rd R.TS_REF_LEN == 0 &&
    decide (s.slotStart asn ≤ last)
  else if kind = 2 then decide (time ≤ last)
  else kind == 0

/-- The instant is over. -/
def State.txnDue (s : State) (h : Nat) : Bool := match s.txnInstant h with
  | some u => decide (u ≤ s.devTime)
  | none => true

/-! ## Apply (R102) -/

/-- A transaction applies with an applied time. -/
def applyAt (h time : Nat) : Act := .read fun s =>
  match s.txn? h with
  | none => .skip
  | some x => acts [
      markCommit (objectsOf x.items),
      wrTime (R.T_APPLIED h 0) time,
      storeItems x.items,
      finishTxn h 5, inc R.APPLIED_COUNT, raise 0x0101 h h,
      match x.modes with
      | some m => acts [showConfig (s.rd R.RUN_BASE) m, raise 0x0103 0 m]
      | none => .skip,
      answerTxn h 0 x]

/-- TXN_APPLY: a PENDING transaction at its instant. -/
def txnApply (h : Nat) : Act := .read fun s =>
  onlyIf (s.rd (R.T_STATE h) == 3 && s.txnDue h) (applyAt h ((s.txnInstant h).getD s.devTime))

/-! ## Locks (R99, R101) -/

def addWait (w : LockFor) : Act := .read fun s =>
  onlyIf (!(s.eng.txn.waits.any fun x => x.what == w)) (setTxns fun g => { g with waits := g.waits ++ [⟨s.now, w⟩] })

def dropWait (w : LockFor) : Act := setTxns fun g => { g with waits := g.waits.filter fun x => x.what != w }

/-- The first lock a transaction cannot take, and those before it. -/
def State.lockPrefix (s : State) (h : Nat) : List (Nat × Nat) → List (Nat × Nat) × Option (Nat × Nat)
  | [] => ([], none)
  | o :: rest =>
    if s.locked h o then ([], some o)
    else
      let r := s.lockPrefix h rest
      (o :: r.1, r.2)

/-- Items whose change leaves a reservation of lanes as it is: P_BAND and P_RX_CENTRE, which can make a FIXED lane UNBOUND but fail no
commit but their own (R149). DEDUCED: log 169. -/
def lanesWithstand (i : Staged) : Bool := isMem 0x1000 1 i.ref || isMem 0x1000 2 i.ref

/-- Items clear TS_RUN. DEDUCED: log 169. -/
def State.stopsTsch (s : State) (items : List Staged) : Bool :=
  (items.any fun i => i.ref == R.TS_RUN) && (s.withItems items).rd R.TS_RUN == 0 && s.rd R.TS_RUN == 1

/-- A list of changes of the dictionary in the order in which they apply, each with whether it waits for an ASN: the first object for which
one of them must not apply. A change that clears TS_RUN must not come before one that waits for an ASN (R195).
DEDUCED: log 169. -/
def State.chainFault (s : State) : List (List Staged × Bool) → Option (Nat × Ref)
  | [] => none
  | (items, _) :: rest =>
    match s.commitFault (s.withItems items) (items.map (·.ref)) with
    | some f => some f
    | none =>
      if s.stopsTsch items ∧ rest.any (·.2) then some (stResource, R.TS_RUN)
      else (s.withItems (items.filter fun i => !(lanesWithstand i))).chainFault rest

/-- A transaction holds its reservation: it is PENDING or PREPARED, or a coordinator that has passed R99 at its own place (R100, R107).
DEDUCED: log 169. -/
def State.reserves (s : State) (h : Nat) (x : Txn) : Bool :=
  s.rd (R.T_STATE h) == 3 || s.rd (R.T_STATE h) == 4 || (s.rd (R.T_STATE h) == 2 && x.prepared.contains (s.rd R.DEVNUM))

/-- R100: whether a change at device time `due` leaves what other transactions have reserved: it and they must all apply, in the order of
their instants. One that waits for an ASN must not come behind one that clears TS_RUN (R98). DEDUCED: log 169. -/
def State.reserveFault (s : State) (h : Nat) (items : List Staged) (due : Nat) : Option (Nat × Ref) :=
  let asn := h != 0 && s.rd (R.T_INSTANT h) == 1
  let held := s.eng.txn.txns.filter fun e => e.1 != h && s.reserves e.1 e.2
  let order := sortBy (fun a b => decide (a.2.due.getD 0 ≤ b.2.due.getD 0)) held
  let first := order.filter fun e => decide (e.2.due.getD 0 ≤ due)
  let later := order.filter fun e => decide (due < e.2.due.getD 0)
  let s0 := first.foldl (fun st e => st.withItems e.2.items) s
  if asn ∧ s.rd R.TS_RUN = 1 ∧ s0.rd R.TS_RUN = 0 then some (stResource, R.TS_RUN)
  else s0.chainFault ((items, asn) :: later.map fun e => (e.2.items, s.rd (R.T_INSTANT e.1) == 1))

/-- The tests of R99 behind the locks: CONFLICT, RESOURCE, INSTANT; none when all pass. -/
def State.commitTests (s : State) (h : Nat) (x : Txn) : Option (Nat × Nat × Option Ref) :=
  match s.conflictOf x with
  | some o => some (1, stConflict, some ⟨o.1, o.2, 0⟩)
  | none => match s.reserveFault h x.items (x.due.getD s.devTime) with
    | some (st, r) => some (2, st, some r)
    | none => if (s.txnInstant h).isSome && s.txnDue h then some (5, stRange, none) else none

/-- R99 goes on: the locks are taken as far as they are free, the tests run, and `ok` follows. -/
def lockAndTest (h : Nat) (ok : Act) : Act := .read fun s =>
  match s.txn? h with
  | none => .skip
  | some x =>
    let l := s.lockPrefix h (locksFor (objectsOf x.items))
    acts [putTxn h { x with held := l.1 },
      match l.2 with
      | some _ => acts [onlyIf (decide (x.held.length < l.1.length)) (dropWait (.commit h)), addWait (.commit h)]
      | none => acts [dropWait (.commit h), match s.commitTests h x with
          | some (c, st, r) => abortWith h c st r
          | none => ok]]

/-! ## Fabric transactions (R106 to R109) -/

/-- The words of a TXN_PREPARE. -/
def State.prepareWords (s : State) (h : Nat) : List Nat :=
  [s.rd (R.T_INSTANT h), s.rd (R.T_ASN h), s.rd (R.T_TIME h 0), s.rd (R.T_TIME h 1)]

/-- After the last PREPARED. -/
def outcome (h : Nat) (x : Txn) : Act := .read fun s =>
  if s.devTime + 200000 * uNs ≤ (s.txnInstant h).getD 0 then acts [
    forAll (x.prepared.filter fun d => d != s.rd R.DEVNUM) fun d => fabPost d 0x02 0 h [],
    wr (R.T_STATE h) 3]
  else abortTxn h 5 none

/-- The coordinator visits its next participant. -/
def visit (h : Nat) : Nat → Act
  | 0 => .skip
  | fuel + 1 => .read fun s =>
    match s.txn? h with
    | none => .skip
    | some x => match x.todo with
      | [] => outcome h x
      | d :: rest =>
        if d = s.rd R.DEVNUM then lockAndTest h (.read fun s => match s.txn? h with
          | some y => acts [putTxn h { y with todo := rest, prepared := y.prepared ++ [d] }, visit h fuel]
          | none => .skip)
        else fabAsk d 0x01 h (s.prepareWords h) h

def visitAll (h : Nat) : Act := visit h 9

/-- A participant has answered PREPARED. -/
def preparedBy (h d : Nat) : Act := .read fun s =>
  match s.txn? h with
  | none => .skip
  | some x => onlyIf (s.rd (R.T_STATE h) == 2 && x.todo.head? == some d)
      (acts [putTxn h { x with todo := x.todo.drop 1, prepared := x.prepared ++ [d] }, visitAll h])

/-- A participant has aborted, or cannot be reached. -/
def peerAborts (h status : Nat) : Act := .read fun s => onlyIf (s.rd (R.T_STATE h) == 2) (abortWith h 9 status none)

/-- The branch that a coordinator's handle names. -/
def State.branchOf (s : State) (dev handle : Nat) : Option (Nat × Txn) :=
  s.eng.txn.txns.find? fun e => s.rd (R.T_LINK e.1) == 2 ^ 11 + dev * 256 + handle % 256

/-- A branch is ready. -/
def branchReady (h : Nat) : Act := .read fun s =>
  match s.txn? h with
  | some x => match x.asked with
    | some (l, p) => acts [wr (R.T_STATE h) 4, putTxn h { x with touched := 0, held := locksFor (objectsOf x.items) },
        fabAnswer l p 0x81 (p.arg % 256) []]
    | none => .skip
  | none => .skip

/-- A change of ST_ACTIVE or a write of K_ROLL that does not commit AT_ASN (R204, R326). -/
def State.branchSwaps (s : State) (h kind : Nat) : Bool :=
  kind != 1 && match s.txn? h with
  | some x => (s.withItems x.items).rd R.ST_ACTIVE != s.rd R.ST_ACTIVE || x.items.any fun i => isMem 0x4000 5 i.ref
  | none => false

/-- A TXN_PREPARE arrives; the master bound to the branch is unbound, as at a commit. DEDUCED: log 22. -/
def prepareRx (l : Nat) (p : FabPkt) : Act := .read fun s =>
  match s.branchOf p.src (p.arg % 256) with
  | some (h, x) =>
    if s.rd (R.T_STATE h) = 1 then acts [
      wr (R.T_INSTANT h) (p.payload.getD 0 0 % 256), wr (R.T_ASN h) (p.payload.getD 1 0 % 2 ^ 40),
      wr (R.T_TIME h 0) (p.payload.getD 2 0), wr (R.T_TIME h 1) (p.payload.getD 3 0),
      wr (R.T_STATE h) 2, unbindAll h, putTxn h { x with
        asked := some (l, p)
        due := s.instantOf (p.payload.getD 0 0 % 256) (p.payload.getD 1 0 % 2 ^ 40) (ofT112 (p.payload.getD 2 0) (p.payload.getD 3 0)) },
      if s.branchSwaps h (p.payload.getD 0 0 % 256) then abortTxn h 5 none else lockAndTest h (branchReady h)]
    else fabAnswer l p 0x82 (p.arg % 256 + 2 * 256) []
  | none => fabAnswer l p 0x82 (p.arg % 256 + 2 * 256) []

/-- The outcome of a branch is COMMIT. -/
def branchCommit (h coord : Nat) : Act := .read fun s =>
  if s.rd (R.T_STATE h) ≠ 4 then .skip
  else if s.txnDue h then acts [applyAt h s.devTime, raise 0x0107 h (h + coord * 256)]
  else wr (R.T_STATE h) 3

/-- TXN_COMMIT and TXN_ABORT of a coordinator. -/
def commitRx (p : FabPkt) : Act := .read fun s =>
  match s.branchOf p.src (p.arg % 256) with
  | some (h, _) => branchCommit h p.src
  | none => .skip

def abortRx (p : FabPkt) : Act := .read fun s =>
  match s.branchOf p.src (p.arg % 256) with
  | some (h, _) => onlyIf (decide (2 ≤ s.rd (R.T_STATE h) ∧ s.rd (R.T_STATE h) ≤ 4)) (abortTxn h (fld p.arg 15 8) none)
  | none => .skip

/-- The coordinator answers an OUTCOME_QUERY from the handle's record: 0 undecided, 1 COMMIT, 2 ABORT. DEDUCED: log 44. -/
def queryRx (l : Nat) (p : FabPkt) : Act := .read fun s =>
  let st := s.rd (R.T_STATE (p.arg % 256))
  fabAnswer l p 0x83 (if st = 1 ∨ st = 2 then 0 else if st = 3 ∨ st = 5 then 1 else 2) []

def outcomeAnswered (h arg : Nat) : Act := .read fun s =>
  let coord := fld (s.rd (R.T_LINK h)) 10 8
  if fld arg 1 0 = 1 then branchCommit h coord
  else onlyIf (fld arg 1 0 == 2 && s.rd (R.T_STATE h) == 4) (abortTxn h 9 none)

/-- TXN_OUTCOME_QUERY_TIMER. -/
def outcomeQuery (h : Nat) : Act := .read fun s =>
  match s.txn? h, s.txnInstant h with
  | some x, some u =>
    onlyIf (s.rd (R.T_STATE h) == 4 && decide (u ≤ s.devTime + 100000 * uNs) && (x.touched == 0 || decide (x.touched + 1000000 ≤ s.now)))
      (acts [putTxn h { x with touched := max 1 s.now }, fabAsk (fld (s.rd (R.T_LINK h)) 10 8) 0x04 (fld (s.rd (R.T_LINK h)) 7 0) [] h])
  | _, _ => .skip

/-- TXN_OUTCOME_TIMEOUT. -/
def outcomeTimeout (h : Nat) : Act := .read fun s =>
  match s.txnInstant h with
  | some u => onlyIf (s.rd (R.T_STATE h) == 4 && decide (u + 100000000 * uNs ≤ s.devTime))
      (acts [abortTxn h 9 none, raise 0x0108 h (h + fld (s.rd (R.T_LINK h)) 10 8 * 256)])
  | none => .skip

/-! ## Commit requests -/

/-- A local transaction has passed R99. -/
def nowPending (h : Nat) : Act := .read fun s => acts [wr (R.T_STATE h) 3,
  match s.txn? h with
  | some x => putTxn h { x with held := locksFor (objectsOf x.items) }
  | none => .skip,
  onlyIf ((s.txnInstant h).isNone) (.read fun s => applyAt h s.devTime)]

/-- R99 for whatever the transaction is: a branch that prepares, a coordinator, or a transaction of this device alone. -/
def commitStep (h : Nat) : Act := .read fun s =>
  match s.txn? h with
  | none => .skip
  | some x =>
    if x.asked.isSome then lockAndTest h (branchReady h)
    else if s.rd (R.T_PEERS h) ≠ 0 then visitAll h
    else lockAndTest h (nowPending h)

/-- The participants of a fabric transaction, in ascending order, the device itself included. -/
def State.participants (s : State) (h : Nat) : List Nat := (List.range 8).filter fun d => bit? (s.rd (R.T_PEERS h)) d || d == s.rd R.DEVNUM

/-- A commit request that the checks of R91 have passed. A change of ST_ACTIVE (R204) or a write of K_ROLL (R326) must commit
AT_ASN, a fabric transaction not IMMEDIATE (R106). -/
def commitTxn (h kind asn time : Nat) (resp : TxnResp) : Act := .read fun s =>
  match s.txn? h with
  | none => .skip
  | some x =>
    let fabric := s.rd (R.T_PEERS h) != 0
    acts [
      wr (R.T_INSTANT h) kind, wr (R.T_ASN h) (if kind = 1 then asn else 0), wrTime (R.T_TIME h 0) (if kind = 2 then time else 0),
      putTxn h { x with resp := resp, touched := s.now, due := s.instantOf kind asn time, todo := if fabric then s.participants h else [] },
      if !(s.instantOk kind asn time) || (fabric && kind == 0) || s.branchSwaps h kind then abortTxn h 5 none
      else acts [wr (R.T_STATE h) 2, commitStep h]]

/-! ## Mode changes (R115) -/

/-- MODE_APPLY 1. DEDUCED: log 46. -/
def modeApply : Act := .read fun s =>
  let modes := s.rd R.MODE_SET % 2 ^ 32
  openTxn .dev (fun h => .read fun s =>
      let items := s.modeItems modes
      match s.txn? h with
      | none => .skip
      | some x => acts [
          putTxn h { x with items := items, resp := .mode, modes := some modes },
          wr (R.T_OBJECTS h) (min 256 (objectsOf items).length), wr R.MODE_APPLY h,
          if 256 < (objectsOf items).length ∨ ¬ s.modesReady modes then abortTxn h 2 none
          else commitTxn h (s.rd R.MODE_INSTANT) (s.rd R.MODE_ASN % 2 ^ 40) (s.rdTime (R.MODE_TIME 0)) .mode])
    (acts [wr R.MODE_APPLY (stResource * 256), raise 0x0104 0 (2 * 256)])

end Sys2Proof.Machine
end

