-- ==== Sys2Proof/Machine/Mooring.lean ====
section
/-! DEFINITION. The mooring image: building its sections from the state of an Active, and binding it on a Standby
(17_pair_redundancy.md R400 to R403, R408; Tables PAIR-6 and PAIR-7). -/

namespace Sys2Proof.Machine

open Sys2Proof

/-- The octets of the running image; none has been booted: those of the image the device was made with. -/
def State.runImage (s : State) : List Nat := if s.eng.up.run.isEmpty then Config.image else s.eng.up.run

/-- The pair protocol version this device speaks: that of its image, 0x10 in B0 (Table PAIR-7). -/
def State.pairProto (s : State) : Nat := if s.eng.up.run.isEmpty then 0x10 else imgField s.eng.up.run 20 1

/-! ## Section 1: small state (R400) -/

/-- The families whose members the small state holds. -/
def smallFamily (f : Family) : Bool :=
  (f.idx == 0x0010 || decide (0x0040 ≤ f.idx ∧ f.idx ≤ 0x0042) || decide (0x1000 ≤ f.idx ∧ f.idx ≤ 0x52FF)) &&
    !(decide (0x4000 ≤ f.idx ∧ f.idx ≤ 0x4020)) && f.idx != 0x4400 && f.scope != .node && f.idx != 0x3009 && f.idx != 0x5200

/-- The rows that travel: RW and TXN, but ETH_MAC. -/
def smallRow (f : Family) (row : Row) : Bool := (row.cls == .rw || row.cls == .txn) && !(f.idx == 0x5000 && row.m0 == 4)

def smallMember (r : Ref) : Bool := match family? r.idx with
  | some f => smallFamily f && (match rowOf? f r.mem with
    | some row => smallRow f row
    | none => false)
  | none => false

/-- The records of the small state: operation 0 with the words of each row. -/
def State.smallState (s : State) : List Nat :=
  (dict.filter smallFamily).flatMap fun f => (List.range (f.hi + 1 - f.lo)).flatMap fun i =>
    (f.rows.filter (smallRow f)).flatMap fun row =>
      refWord ⟨f.idx, f.lo + i, row.m0⟩ row.cnt 0 :: (List.range row.cnt).map fun k => s.rd ⟨f.idx, f.lo + i, row.m0 + k⟩

/-- The records of a section, to its end. -/
def recordsAll : Nat → List Word → List Item
  | 0, _ => []
  | _, [] => []
  | n + 1, w :: rest =>
    let c := (itemOf w 0 []).count
    itemOf w (fld w.toNat 7 0) (rest.take c) :: recordsAll n (rest.drop c)

/-! ## Packed sections -/

/-- Words of a section that are not zero. -/
def sectWords (id : Nat) (l : List (Nat × Nat)) : List ((Nat × Nat) × Nat) :=
  (l.filter fun x => x.2 != 0).map fun x => ((id, x.1), x.2)

/-- Numbers of `bits` bits, `per` to a word, as words. -/
def pack (per bits : Nat) (l : List (Nat × Nat)) : Tbl Nat :=
  l.foldl (fun (acc : Tbl Nat) x => acc.set (x.1 / per) (acc.at (x.1 / per) 0 + x.2 * 2 ^ (bits * (x.1 % per)))) []

def unpack (per bits : Nat) (l : List (Nat × Nat)) : List (Nat × Nat) :=
  l.flatMap fun x => ((List.range per).map fun (i : Nat) => (per * x.1 + i, fld x.2 (bits * i + bits - 1) (bits * i))).filter fun y => y.2 != 0

/-- The words of a section, with the zeros between them. -/
def dense : Nat → Nat → List (Nat × Nat) → List Nat
  | 0, _, _ => []
  | n + 1, k, [] => 0 :: dense n (k + 1) []
  | n + 1, k, (o, w) :: rest => if o = k then w :: dense n (k + 1) rest else 0 :: dense n (k + 1) ((o, w) :: rest)

/-- Octets as the numbers of little-endian words. -/
def wordNums (o : List Nat) : List Nat := (octetsToWords o).map BitVec.toNat

/-! ## Section 2: OWNER slots -/

/-- The wrapping key of the pair: PR_PAIR_SLOT names an ACTIVE slot of type PAIR that allows the operation. -/
def State.pairKey (s : State) (op : Nat) : Option (List Nat) :=
  let k := s.rd R.PR_PAIR_SLOT
  if k < 4096 ∧ kType (s.rd (R.K_ATTR k)) = 10 then s.keyFor k op else none

/-- The slots that travel. -/
def State.ownerSlots (s : State) : List Nat :=
  ((s.objs.filter fun e => e.1.idx == 0x4000 && e.1.mem == 0 && kOwner e.2.toNat).map fun e => e.1.inst).filter fun k =>
    s.keyHeld k && k != s.rd R.PR_PAIR_SLOT

/-- The wrapping key of the pair serves `n` operations: each value that is wrapped or unwrapped is one (R317).
DEDUCED: log 96. -/
def pairStarts (n : Nat) : Act := .read fun s =>
  let k := s.rd R.PR_PAIR_SLOT
  forAll (List.range n) fun _ => .read fun s => onlyIf (s.keyHeld k) (keyStarts k)

/-- The values of the OWNER slots that travel. -/
def State.ownerValues (s : State) : Nat :=
  (s.ownerSlots.flatMap fun k => [(s.kslot k).val, (s.kslot k).staged].filter fun v => !v.isEmpty).length

/-- A slot: its number and attributes, K_STATE, K_USES, K_FC; attributes and uses of the staged value, the ASN of a due promotion;
the lengths in words of the wrapped values, and these. -/
def State.slotWords (s : State) (kek : List Nat) (k : Nat) : List Nat :=
  let z := s.kslot k
  let w (v : List Nat) : List Nat := if v.isEmpty then [] else wordNums (Config.aesWrap kek v)
  let a := w z.val
  let b := w z.staged
  [k, s.rd (R.K_ATTR k), s.rd (R.K_STATE k), s.rd (R.K_USES k), s.rd (R.K_FC k), z.attr, z.uses, z.promAsn, a.length, b.length] ++ a ++ b

/-- A value of `n` words unwraps. -/
def unwrapWords (kek : List Nat) (ws : List Nat) : List Nat :=
  if ws.isEmpty then [] else (Config.aesUnwrap kek (natOctets ws)).getD []

/-- The slots of a section are installed. -/
def bindSlots (kek : List Nat) : Nat → List Nat → Act
  | 0, _ => .skip
  | n + 1, ws => match ws with
    | k :: attr :: st :: uses :: fc :: sAttr :: sUses :: prom :: na :: nb :: rest =>
      let z : KeySlot := ⟨unwrapWords kek (rest.take na), unwrapWords kek ((rest.drop na).take nb), sAttr, sUses, prom⟩
      acts [
        onlyIf (decide (k < 4096) && !z.val.isEmpty) (acts [zeroize k,
          setKeys fun e => { e with slots := e.slots.set k z },
          wr (R.K_ATTR k) attr, wr (R.K_STATE k) st, wr (R.K_USES k) uses, wr (R.K_FC k) fc, wr (R.K_KCV k) (kcvOf z.val),
          wr (R.K_ROLL k) (b2n (decide (3 ≤ st))),
          wr (R.K_STAGED_KCV k) (if z.staged.isEmpty then 0 else kcvOf z.staged)]),
        bindSlots kek n (rest.drop (na + nb))]
    | _ => .skip

/-- Section 2 is applied: the OWNER slots of this unit give way to those of the image. A slot that holds the same value as before has not
been replaced, so that both units serve one root statement (R343). DEDUCED: log 96. -/
def bindKeys (ws : List Nat) : Act := .read fun s =>
  match s.pairKey opUnwrap with
  | none => .skip
  | some kek => acts [forAll s.ownerSlots zeroize, bindSlots kek (ws.length + 1) ws,
      .read fun s1 => acts [
        eng fun e => { e with notes := e.notes.filter fun n => match n with
          | .keyChanged k => !(s.keyHeld k && s1.keyHeld k && (s.kslot k).val == (s1.kslot k).val)
          | _ => true },
        pairStarts s1.ownerValues]]

/-! ## Section 3: node table (Table NODE-1) -/

/-- The indexes with an entry that is not at its reset value. -/
def State.nodeIndexes (s : State) : List Nat :=
  ((s.objs.filter fun e => e.1.idx == 0x3100 || e.1.idx == 0x2310).foldl (fun (acc : Tbl Unit) e => acc.set e.1.inst ()) []).map (·.1)

/-- The sixteen words of an entry as an image carries them. -/
def State.nodeWords (s : State) (n : Nat) : List Nat :=
  let m := s.rd (R.NT_METRICS n)
  let c := s.rd (R.NT_COUNTS n)
  let dao := s.rd (R.NT_DAO n)
  let sn := s.rd (R.SN_STATUS n)
  let par (k : Nat) : Nat := s.rd (R.NT_PARENT n k) % 2 ^ 23
  let root (k : Nat) : Nat := s.rd (R.NT_PARENT n k) / 2 ^ 23 * 2 ^ k
  let st := fld sn 63 61
  [s.rd (R.NT_EUI64 n), s.rd (R.NT_IID n),
    s.rd (R.NT_SHORT n) * 2 ^ 48 + s.rd (R.NT_STATE n) * 2 ^ 45 + fld (s.rd (R.NT_KEY n)) 8 8 * 2 ^ 44 + fld m 27 16 * 2 ^ 32 +
      (root 0 + root 1 + root 2) * 2 ^ 11 + s.rd (R.NT_PIN n) * 2 ^ 10 + s.rd (R.NT_GEN n) * 4] ++
  (wordNums (s.eng.nodes.wkey.at n []) ++ [0, 0, 0]).take 3 ++
  [s.rd (R.NT_FC n), s.rd (R.NT_MIC_TAG n) * 2 ^ 32 + s.rd (R.NT_FW n),
    par 0 * 2 ^ 41 + par 1 * 2 ^ 18 + s.rd (R.NT_RANK n) * 4,
    par 2 * 2 ^ 41 + fld dao 47 40 * 2 ^ 33 + fld dao 32 32 * 2 ^ 32 + fld dao 31 0,
    s.rdTime (R.SN_ANCHOR n 0) / uNs, s.rd (R.SN_DRIFT n) % 2 ^ 32 * 2 ^ 32 + s.rd (R.SN_UNCERT n),
    fld (s.rd (R.SN_LINK n)) 63 26 * 2 ^ 26 + s.rd (R.SN_SERVICE n) * 2 ^ 24 + s.rd (R.SN_PERIOD n) * 2 ^ 8 +
      (if st = 3 then 3 else 0) * 2 ^ 5 + fld sn 60 60 * 2 ^ 4 + fld sn 59 58 * 4 + b2n (s.eng.sn.resets.contains n) * 2,
    fld (s.rd (R.NT_KEY n)) 7 0,
    s.rd (R.NT_LAST_HEARD n) * 2 ^ 32 + fld m 63 48 * 2 ^ 16 + fld m 47 40 * 2 ^ 8 + fld m 39 32,
    fld (s.rd (R.NT_GROUPS n)) 15 0 * 2 ^ 48 + fld c 47 24 * 2 ^ 24 + fld c 23 0]

/-- An entry takes the words of an image. -/
def bindNode (n : Nat) (ws : List Nat) : Act :=
  let w (k : Nat) : Nat := ws.getD k 0
  let par (k v : Nat) : Nat := if bit? (w 2) (11 + k) then 2 ^ 23 else v
  let key := wordsToOctets ((ws.drop 3).take 3 |>.map (BitVec.ofNat 64))
  let valid := fld (w 2) 44 44
  acts [
    wr (R.NT_EUI64 n) (w 0), wr (R.NT_IID n) (w 1), wr (R.NT_SHORT n) (fld (w 2) 63 48), wr (R.NT_STATE n) (fld (w 2) 47 45),
    wr (R.NT_KEY n) (valid * 256 + fld (w 13) 7 0), wr (R.NT_PIN n) (fld (w 2) 10 10), wr (R.NT_GEN n) (fld (w 2) 9 2),
    onlyIf (valid == 1) (setNodes fun g => { g with wkey := g.wkey.set n key }),
    wr (R.NT_FC n) (w 6), wr (R.NT_MIC_TAG n) (fld (w 7) 63 32), wr (R.NT_FW n) (fld (w 7) 31 0),
    wr (R.NT_PARENT n 0) (par 0 (fld (w 8) 63 41)), wr (R.NT_PARENT n 1) (par 1 (fld (w 8) 40 18)),
    wr (R.NT_PARENT n 2) (par 2 (fld (w 9) 63 41)), wr (R.NT_RANK n) (fld (w 8) 17 2),
    wr (R.NT_DAO n) (fld (w 9) 40 33 * 2 ^ 40 + fld (w 9) 32 32 * 2 ^ 32 + fld (w 9) 31 0),
    wrTime (R.SN_ANCHOR n 0) (w 10 * uNs), wri (R.SN_DRIFT n) (sgn 32 (fld (w 11) 63 32)), wr (R.SN_UNCERT n) (fld (w 11) 31 0),
    wr (R.SN_LINK n) (fld (w 12) 63 26 * 2 ^ 26), wr (R.SN_SERVICE n) (fld (w 12) 25 24), wr (R.SN_PERIOD n) (fld (w 12) 23 8),
    wr (R.SN_STATUS n) (fld (w 12) 7 5 * 2 ^ 61 + fld (w 12) 4 4 * 2 ^ 60 + fld (w 12) 3 2 * 2 ^ 58),
    onlyIf (bit? (w 12) 1) (setSn fun g => { g with resets := g.resets ++ [n] }),
    wr (R.NT_LAST_HEARD n) (fld (w 14) 63 32),
    wr (R.NT_METRICS n) (fld (w 14) 31 16 * 2 ^ 48 + fld (w 14) 15 8 * 2 ^ 40 + fld (w 14) 7 0 * 2 ^ 32 + fld (w 2) 43 32 * 2 ^ 16),
    wr (R.NT_GROUPS n) (fld (w 15) 63 48), wr (R.NT_COUNTS n) (fld (w 15) 47 0)]

/-! ## Sections 4 and 5: key tables; section 6: leap bytes; section 7: tally -/

/-- A key table: way `w` of bucket `b` at words 8b + 2w (key) and 8b + 2w + 1 (valid in [63], node), and the stash behind. -/
def State.tableWords (s : State) (t : Nat) : List (Nat × Nat) :=
  (s.eng.nodes.buckets.filter fun e => e.1 / 2 ^ 22 == t).flatMap (fun e =>
    e.2.zipIdx.flatMap fun x => match x.1 with
      | some (key, node) => [(8 * (e.1 % 2 ^ 22) + 2 * x.2, key), (8 * (e.1 % 2 ^ 22) + 2 * x.2 + 1, 2 ^ 63 + node)]
      | none => []) ++
  (s.stash t).zipIdx.flatMap fun (x : (Nat × Nat) × Nat) => [(2 ^ 25 + 2 * x.2, x.1.1), (2 ^ 25 + 2 * x.2 + 1, 2 ^ 63 + x.1.2)]

/-- A key table takes the words of an image. -/
def bindTable (t : Nat) (l : List (Nat × Nat)) : Act :=
  let key (o : Nat) : Nat := (aget l o).getD 0
  let used := l.filter fun x => x.1 % 2 == 1 && bit? x.2 63
  acts [
    forAll (used.filter fun x => decide (x.1 < 2 ^ 25)) fun x => setWay t (x.1 / 8) (x.1 % 8 / 2) (some (key (x.1 - 1), fld x.2 22 0)),
    setStash t ((used.filter fun x => decide (2 ^ 25 ≤ x.1)).map fun x => (key (x.1 - 1), fld x.2 22 0))]

/-- The bins of an account as 32-bit numbers from 20,480 × account: 3,600 closed bins, newest first, then 60 dwell bins for each dwell
channel. -/
def State.tallyWords (s : State) : List (Nat × Nat) :=
  pack 2 32 (s.eng.tally.bins.flatMap fun e =>
    let b := e.2
    (((b.closed ++ List.replicate (3600 - b.closed.length) b.fill).zipIdx.map fun x => (20480 * e.1 + x.2, x.1)) ++
      b.dwell.flatMap fun d => d.2.zipIdx.map fun x => (20480 * e.1 + 3600 + 60 * d.1 + x.2, x.1)).filter fun y => y.2 != 0)

/-- Numbers at positions below `n`, the others zero. -/
def spread (n : Nat) (l : List (Nat × Nat)) : List Nat := dense n 0 l

/-- The tally takes the bins of an image frozen in second `then_` (R408): each bin closed since, and the open one, take the share of the
boot fill. -/
def bindTally (then_ : Nat) (l : List (Nat × Nat)) : Act := .read fun s =>
  let nums := unpack 2 32 l
  let now := s.devTime / uSec
  let share (b : Nat) : Nat := if s.rd R.TL_BOOT_FILL = 1 then cdiv (s.rd (R.SB_BUDGET b) * 1000) 3600 else 0
  let accts := (List.range 768).filter fun a => share (a % 32) != 0 || nums.any fun x => x.1 / 20480 == a
  acts [
    setTally fun t => { t with bins := [], resv := [], openSec := now },
    forAll accts fun a =>
      let mine := (nums.filter fun x => x.1 / 20480 == a).map fun (x : Nat × Nat) => (x.1 % 20480, x.2)
      let closed := (List.replicate (now - then_) (share (a % 32)) ++ spread 3600 (mine.filter fun x => decide (x.1 < 3600))).take 3600
      let chans := ((mine.filter fun x => decide (3600 ≤ x.1)).foldl (fun (acc : Tbl Unit) x => acc.set ((x.1 - 3600) / 60) ()) []).map (·.1)
      let dwell : Tbl (List Nat) := chans.map fun c =>
        (c, (List.replicate (now - then_) 0 ++ spread 60 ((mine.filter fun (x : Nat × Nat) => decide (3600 ≤ x.1) && (x.1 - 3600) / 60 == c).map fun (x : Nat × Nat) =>
          ((x.1 - 3600) % 60, x.2))).take 60)
      let b : Bins := ⟨closed, 0, dwell⟩
      acts [
        setTally fun t =>
          let open_ : List TallyResv := if share (a % 32) = 0 then [] else
            [⟨t.nextResv, a, 0, share (a % 32), 0, some s.devTime, some (share (a % 32))⟩]
          { t with
            bins := t.bins.set a b
            resv := t.resv ++ open_
            nextResv := t.nextResv + 1 },
        wr (R.AC_USED a) (windowSum b), countReserved a, judgeOver a]]

/-! ## The image -/

/-- The sections of an image of the present state, by section and word offset, words that are not zero. -/
def State.sections (s : State) (kek : List Nat) : List ((Nat × Nat) × Nat) :=
  let numbered (ws : List Nat) : List (Nat × Nat) := ws.zipIdx.map fun x => (x.2, x.1)
  sectWords 1 (numbered s.smallState) ++ sectWords 2 (numbered (s.ownerSlots.flatMap (s.slotWords kek))) ++
  sectWords 3 (s.nodeIndexes.flatMap fun n => (s.nodeWords n).zipIdx.map fun x => (16 * n + x.2, x.1)) ++
  sectWords 4 (s.tableWords 0) ++ sectWords 5 (s.tableWords 1) ++ sectWords 6 (pack 8 8 s.eng.keys.leap) ++ sectWords 7 s.tallyWords

/-- The octets of each section (Table PAIR-6). -/
def State.sectionSizes (s : State) (kek : List Nat) : List Nat :=
  [8 * s.smallState.length, 8 * (s.ownerSlots.flatMap (s.slotWords kek)).length, 2 ^ 30, 2 ^ 28 + 1024, 2 ^ 28 + 1024, 2 ^ 23, 62914560]

/-- The image that a freeze now completes. -/
def State.mooring (s : State) (seq : Nat) (kek : List Nat) : Moor :=
  let words := s.sections kek
  let head := [0x4D4F4F52 * 2 ^ 32 + 2 ^ 16 + s.pairProto * 256, seq] ++ t112 s.devTime ++
    [s.rd R.FC_EPOCH * 2 ^ 40 + s.tsAsn, s.rd R.SCHEMA * 2 ^ 32 + 7, s.rd R.UID, s.rd R.DEVNUM]
  let tail := (s.sectionSizes kek).zipIdx.map fun x => (x.2 + 1) * 2 ^ 56 + x.1
  let digest := wordNums (Config.mooringDigest (head ++ [0, 0, 0, 0] ++ tail) words)
  ⟨seq, s.devTime, head ++ (digest ++ [0, 0, 0, 0]).take 4 ++ tail, words⟩

/-- The digest of an image is the one its header names. -/
def Moor.sound (m : Moor) : Bool :=
  let h0 := m.hdr.take 8 ++ [0, 0, 0, 0] ++ m.hdr.drop 12
  (wordNums (Config.mooringDigest h0 m.words) ++ [0, 0, 0, 0]).take 4 == (m.hdr.drop 8).take 4

/-- The words of a section of an image. -/
def Moor.part (m : Moor) (id : Nat) : List (Nat × Nat) := (m.words.filter fun x => x.1.1 == id).map fun x => (x.1.2, x.2)

/-- The words of section 1 or 2, whole. -/
def Moor.whole (m : Moor) (id : Nat) : List Nat := dense (fld (m.hdr.getD (11 + id) 0) 55 0 / 8) 0 (m.part id)

/-- The MOOR_DATA packets of an image: its blocks of 128 words that hold a word. -/
def Moor.blocks (m : Moor) : List (Nat × Nat × List Nat) :=
  ([1, 2, 3, 4, 5, 6, 7].flatMap fun id =>
    let l := m.part id
    ((l.foldl (fun (acc : Tbl Unit) x => acc.set (x.1 / 128) ()) []).map (·.1)).map fun k =>
      (id, 128 * k, dense 128 0 ((l.filter fun x => x.1 / 128 == k).map fun x => (x.1 % 128, x.2))))

/-! ## Binding (R406 step 2, R408) -/

/-- Section 1 is applied to the agents; objects that the image lacks take their defaults (R513). DEDUCED: log 96. -/
def bindSmall (ws : List Nat) : Act := .read fun s0 => acts [
  .eff (.reset fun r => !(smallMember r)),
  loadItems (recordsAll (ws.length + 1) (ws.map (BitVec.ofNat 64))),
  .read fun s => afterApply s0 ((((s0.objs ++ s.objs).map (·.1)).filter fun r => smallMember r && s.moved s0 r).foldl
    (fun acc r => aput refLt acc r ()) [] |>.map (·.1))]

/-- The partitions of the two members are exchanged (R408). -/
def swapPartitions (a b : Nat) : Act := .read fun s => acts [
  wr (R.PT_BASE a) (s.rd (R.PT_BASE b)), wr (R.PT_LIMIT a) (s.rd (R.PT_LIMIT b)),
  wr (R.PT_BASE b) (s.rd (R.PT_BASE a)), wr (R.PT_LIMIT b) (s.rd (R.PT_LIMIT a))]

/-- The own partition is announced on every ordinary link (R408, R430). -/
def announcePartition (vacated : Nat) : Act := .read fun s =>
  forAll s.ordinaryUp fun l => enqueueFab l ⟨⟨0x14, s.rd (R.FB_PEER l), s.rd R.DEVNUM, false, 0, vacated, [s.partBase, s.partLimit]⟩, s.now, none⟩

/-- The node table is empty. DEDUCED: log 97. -/
def clearNodes : Act := acts [
  .eff (.reset fun r => !(r.idx == 0x3100 || r.idx == 0x2310 || r.idx == 0x4420)),
  wr R.NT_COUNT 0, wr (R.TB_STASH 0) 0, wr (R.TB_STASH 1) 0,
  setNodes fun g => { g with
    wkey := []
    buckets := []
    stash := []
    creates := []
    cache := []
    reasms := []
    remotes := []
    input := []
    down := [] },
  setKeys fun g => { g with leap := [] }]

/-- Counters start at zero (R408). DEDUCED: log 97. -/
def clearCounters : Act := .eff (.reset fun r => !(decide (0x1000 ≤ r.idx ∧ r.idx ≤ 0x52FF) && (match row? r with
  | some row => row.cls == .rc
  | none => false)))

/-- What every switch-over clears, an image bound or not (Table TXN-1, Table DICT-7, R350, R361, R448). -/
def clearServices : Act := acts [clearTxns, clearSessions, joinClear, campClear, emptyFifos]

/-- Stores and services that start empty (R408, R521). -/
def startEmpty : Act := acts [
  clearServices, clearTqs, buffersHeld,
  setQ fun g => { g with pkts := [] },
  setSn fun _ => ⟨[], [], [], [], [], [], []⟩,
  setTsch fun g => { g with
    atts := []
    acks := []
    dlAcks := []
    ebKept := [] },
  wipeRo 11, wipeRo 8, clearCounters, forAll (List.range 5) showGate,
  setFlt fun g => { g with audit := [] }, inc R.LG_REBUILDS, lapse 3]

/-- The newest complete image becomes the live state. -/
def bindImage (m : Moor) : Act := .read fun s => acts [
  startEmpty, clearNodes,
  bindKeys (m.whole 2), bindSmall (m.whole 1),
  swapPartitions (fld (m.hdr.getD 7 0) 2 0) (s.rd R.DEVNUM),
  let entries := m.part 3
  let ns := (entries.foldl (fun (acc : Tbl Unit) x => acc.set (x.1 / 16) ()) []).map (·.1)
  forAll ns fun n => bindNode n (dense 16 0 ((entries.filter fun x => x.1 / 16 == n).map fun x => (x.1 % 16, x.2))),
  .read fun s => wr R.NT_COUNT s.usedNodes.length,
  bindTable 0 (m.part 4), bindTable 1 (m.part 5),
  setKeys fun g => { g with leap := unpack 8 8 (m.part 6) },
  bindTally (m.freeze / uSec) (m.part 7),
  wr R.FC_EPOCH (fld (m.hdr.getD 4 0) 47 40),
  wr R.PR_TAKEOVER_AGE ((s.devTime - m.freeze) / (1000000 * uNs)),
  announcePartition (fld (m.hdr.getD 7 0) 2 0)]

end Sys2Proof.Machine
end

