-- ==== Sys2Proof/Machine/Pair.lean ====
section
/-! DEFINITION. Pair members and the witness (17_pair_redundancy.md R392 to R411; 18_fabric.md R430, R431). -/

namespace Sys2Proof.Machine

open Sys2Proof

def setPair (f : PairEng → PairEng) : Act := eng fun e => { e with pair := f e.pair }

/-- The unit is a pair member (R392). -/
def State.inPair (s : State) : Bool := fld (s.rd R.STRAPS) 9 8 == 1

/-! ## States (Tables PAIR-1 and PAIR-3) -/

abbrev psSyncing := 2
abbrev psReady := 3
abbrev psSwitching := 4
abbrev psActive := 5
abbrev psYielding := 6
abbrev psDemoting := 7

/-- The code on PAIR_STATE[1:0] (R395). -/
def State.pairCode (s : State) : Nat :=
  match s.rd R.PR_STATE with
  | 3 | 4 => 1
  | 5 => 2
  | 6 => 3
  | _ => 0

/-- 0x0000/0/7 in a pair-member state (R392). -/
def pairRole (st : Nat) : Nat := if st = 2 ∨ st = 3 then 2 else if st = 4 ∨ st = 5 ∨ st = 6 then 1 else 4

/-- PAIR_STATUS to the partner (R431). -/
def pairStatus : Act := .read fun s => onlyIf s.inPair (acts [
  pairPost 0x35 (s.rd R.PR_STATE) [] none, setPair fun g => { g with statusAt := some s.now }])

/-- A timer of one millisecond has run out since it last acted. -/
def State.msGone (s : State) (last : Option Nat) : Bool := match last with
  | none => true
  | some u => decide (u + 1000000 ≤ s.now)

/-- PAIR_STATUS_TIMER (R431): every millisecond. -/
def pairStatusTimer : Act := .read fun s => onlyIf (s.msGone s.eng.pair.statusAt) pairStatus

/-- A pair member changes its state. -/
def setPairState (st : Nat) : Act := acts [wr R.PR_STATE st, wr R.ROLE (pairRole st), pairStatus]

def pairStatusRx (p : FabPkt) : Act := .read fun s => acts [
  wr R.PR_PEER_STATE (fld p.arg 2 0), setPair fun g => { g with heard := s.now }]

/-- PAIR_STATUS_TIMEOUT. -/
def pairStatusTimeout : Act := .read fun s => onlyIf (decide (s.eng.pair.heard + 10000000 ≤ s.now)) (wr R.PR_PEER_STATE 0)

/-! ## Heartbeat (R393, R394) -/

/-- The heartbeat word of a SEQ (Table PAIR-2). -/
def hbWord (seq : Nat) : Nat := 128 + seq % 8 * 8 + bxor (seq % 8) 5

/-- Nothing keeps the generator at 0; it starts as the unit enters SYNCING (R393, Table PAIR-1). -/
def State.hbRuns (s : State) : Bool :=
  s.inPair && s.eng.rst.stage == 0 && !(s.eng.flt.fatal || s.eng.rst.fault) && s.rd R.PR_STATE != psDemoting && decide (psSyncing ≤ s.rd R.PR_STATE) &&
    decide (s.now < s.eng.pair.refreshed + 8000000)

/-- PAIR_HB is driven at 0. -/
def hbOff : Act := .read fun s => onlyIf s.eng.pair.hbOn (acts [setPair fun g => { g with hbOn := false }, emit (.hb none)])

/-- The heartbeat starts with the word of SEQ 0. -/
def hbStart : Act := .read fun s => setPair fun g => { g with
  hbOn := true
  hbSeq := 0
  hbBit := 0
  refreshed := s.now }

/-- HEARTBEAT_PERIOD: the next bit, most significant first; `refresh` says that the pair service has refreshed the generator since
the last period. DESIGN CHOICE: log 100. -/
def heartbeatPeriod (refresh : Bool) : Act := .read fun s => onlyIf (s.inPair && decide (s.eng.pair.hbLast + 990000 ≤ s.now)) (acts [
  onlyIf refresh (setPair fun g => { g with refreshed := s.now }),
  setPair fun g => { g with hbLast := s.now },
  .read fun s => if s.hbRuns then
      let k := s.eng.pair.hbBit
      acts [emit (.hb (some (bit? (hbWord s.eng.pair.hbSeq) (7 - k)))),
        setPair fun g => { g with
          hbOn := true
          hbBit := (k + 1) % 8
          hbSeq := if k = 7 then (g.hbSeq + 1) % 8 else g.hbSeq }]
    else hbOff])

/-- HEARTBEAT_STOP. -/
def heartbeatStop : Act := .read fun s => onlyIf (!(s.hbRuns)) hbOff

/-! ## Grant lost (R396, R397) -/

/-- A level of PAIR_GRANT or PAIR_FENCE is taken after it has held for 200 ns (R396). -/
def levelTaken (held : Nat) : Bool := decide (200 ≤ held)

/-- GRANT_LOST: 0 grant removed, 1 fence asserted. -/
def grantLost (cause held : Nat) : Act := .read fun s => onlyIf (levelTaken held) <| acts [
  setPair fun g => if cause = 0 then { g with grant := false } else { g with fence := true },
  onlyIf s.inPair (acts [muteFor 1,
    onlyIf (decide (psSwitching ≤ s.rd R.PR_STATE) && decide (s.rd R.PR_STATE ≤ psYielding)) (acts [
      setPairState psDemoting, setLevel 2 true, raise 0x1005 0 (min cause 1), hbOff,
      askReset ⟨8, 2, 0, some 0, false⟩])])]

/-! ## Announcements (R407) -/

/-- An unsolicited Neighbor Advertisement for an address, with the Override flag. -/
def advertisement (mac addr : Nat) : List Nat :=
  let all := 0xFF02 * 2 ^ 112 + 1
  let body (sum : Nat) : List Nat := [136, 0] ++ beOctets 2 sum ++ [0x20, 0, 0, 0] ++ beOctets 16 addr ++ [2, 1] ++ beOctets 6 mac
  let pseudo := beOctets 16 addr ++ beOctets 16 all ++ beOctets 4 32 ++ [0, 0, 0, 58]
  [0x60, 0, 0, 0, 0, 32, 58, 255] ++ beOctets 16 addr ++ beOctets 16 all ++ body (inetSum (pseudo ++ body 0))

/-- A gratuitous ARP request for an address. -/
def gratuitousArp (mac addr : Nat) : List Nat :=
  [0, 1, 8, 0, 6, 4, 0, 1] ++ beOctets 6 mac ++ beOctets 4 addr ++ beOctets 6 0 ++ beOctets 4 addr

/-- A frame leaves on an Ethernet port at once, filled to 60 octets. -/
def sendRaw (e : Nat) (f : List Nat) : Act := .read fun s =>
  let o := f ++ List.replicate (60 - f.length) 0
  onlyIf (s.rd (R.ETH_LINK e) == 1) (acts [emit (.eth e o), inc (R.ETH_TX_FRAMES e), count128 (R.TX_OCTETS e 0) (o.length + 4)])

/-- The announcements of every interface. -/
def announce : Act := .read fun s => forAll (List.range 16) fun i =>
  let e := s.rd (R.IF_PORT i)
  let mac := s.rd (R.ETH_MAC e) % 2 ^ 48
  let vid := if s.rd (R.IF_VID i) = s.rd (R.ETH_PVID e) then none else some (s.rd (R.IF_VID i))
  let a6 := s.rd (R.IF_IPV6 i 0) * 2 ^ 64 + s.rd (R.IF_IPV6 i 1)
  let a4 := s.rd (R.IF_IPV4 i 1) % 2 ^ 32
  onlyIf (decide (e < 5)) (acts [
    onlyIf (s.rd (R.IF_V6_LEN i) != 0) (sendRaw e (ethFrame 0x333300000001 mac vid 0x86DD (advertisement mac a6))),
    onlyIf (s.rd (R.IF_V4_LEN i) != 0) (sendRaw e (ethFrame 0xFFFFFFFFFFFF mac vid 0x0806 (gratuitousArp mac a4)))])

/-- PAIR_ANNOUNCE_REPEAT: 1 s and 2 s after step 7. DEDUCED: log 102. -/
def announceRepeat : Act := .read fun s =>
  match s.eng.pair.step7 with
  | some (t, left) =>
    onlyIf (decide (t + (3 - left) * 1000000000 ≤ s.now)) (acts [announce,
      setPair fun g => { g with step7 := if left ≤ 1 then none else some (t, left - 1) }])
  | none => .skip

/-! ## Switch-over (R406, Table PAIR-8) -/

/-- Step 3: the synthesiser of every port whose transmitter is idle calibrates. -/
def calibrateAll : Act := forAll (List.range 24) fun p => .read fun s =>
  onlyIf (s.rd (R.P_STATE p) == 2) (beginCal p (s.rxCentre p))

/-- Step 4: the pair loop is released. -/
def releaseLoop : Act := .read fun s => acts [
  wri R.SV_FREQ s.eng.pair.freq, setRate s.eng.pair.freq,
  setTime fun g => { g with holdFrom := s.now, count := 0 }, wr R.SV_HOLD_AGE 0, setServo 3,
  setPair fun g => { g with t1 := none, locked := false, good := 0 }]

/-- GRANT_SEEN: the whole switch-over, `gap` SCLK cycles from G to step 7. DESIGN CHOICE: log 101. -/
def grantSeen (fence : Bool) (gap held : Nat) : Act := .read fun s =>
  let g0 := min gap 10000000
  let st := s.rd R.PR_STATE
  let bound := if st = psReady then s.eng.pair.newest else none
  onlyIf (levelTaken held) <| acts [
    setPair fun g => { g with grant := true, fence := fence },
    onlyIf (s.inPair && !fence && (st == psSyncing || st == psReady)) (acts [
      setPairState psSwitching, raise 0x1003 0 (match bound with
        | some (m, _) => m.seq
        | none => 0),
      setPair fun g => { g with rx := none }, perturbClear,
      match bound with
      | some (m, area) => acts [wr R.PR_AREA area, bindImage m]
      | none => acts [wr R.PR_AREA 0, clearServices, clearNodes, wr R.PR_TAKEOVER_AGE (2 ^ 64 - 1)],
      calibrateAll, releaseLoop, leapCounters, announce,
      .eff (.pass g0),
      .read fun s => acts [
        unmuteFor 1, setPairState psActive, wr R.J_SERVE_ASN s.tsAsn, wr R.LEAP_STATE (2 ^ 63 + 1),
        wr R.PR_GAP g0, inc R.PR_SWITCHOVERS, raise 0x1004 0 g0,
        setPair fun g => { g with
          step7 := some (s.now, 2)
          started := s.now
          newest := none }]])]

/-! ## Images on the Active (R401, R409) -/

/-- K_FC of every NETWORK slot. -/
def State.netCounters (s : State) : Tbl Nat :=
  ((s.objs.filter fun e => e.1.idx == 0x4000 && e.1.mem == 0 && kType e.2.toNat == 3).map fun e => e.1.inst).map fun k => (k, s.rd (R.K_FC k))

/-- An image starts: the snapshot is taken and the stream runs. -/
def imageBegins (yield : Bool) : Act := .read fun s => acts [
  setPair fun g => { g with started := s.now },
  match s.pairKey opWrap with
  | none => raise 0x1007 0 0
  | some _ => setPair fun g => { g with
      lastSeq := g.lastSeq + 1
      run := some ⟨g.lastSeq + 1, 0, yield, false⟩ }]

/-- An image is due: its period has passed, a counter has advanced, or the last image has not been acknowledged. -/
def State.imageDue (s : State) : Bool :=
  decide (s.eng.pair.started + s.rd R.PR_PERIOD * 1000000000 ≤ s.now) ||
    (s.netCounters.any fun x => decide (s.eng.pair.acked.at x.1 0 + 2 ^ 22 ≤ x.2)) ||
    (s.eng.pair.sent.isSome && decide (s.eng.pair.started + 100000000 ≤ s.now))

/-- MOORING_IMAGE_START. DEDUCED: log 95, 99. -/
def imageStart : Act := .read fun s =>
  onlyIf (s.rd R.PR_STATE == psActive && s.eng.pair.run.isNone && s.imageDue) (imageBegins (match s.eng.pair.sent with
    | some (_, y) => y
    | none => false))

/-- MOORING_PASS_END: the node entries and buckets left dirty by a stream pass. -/
def passEnd (nodes buckets : Nat) : Act := .read fun s =>
  match s.eng.pair.run with
  | none => .skip
  | some r =>
    if r.ready then .skip
    else if nodes ≤ 2048 ∧ buckets ≤ 2048 then setPair fun g => { g with run := some { r with passes := r.passes + 1, ready := true } }
    else if 16 ≤ r.passes + 1 then acts [inc R.PR_ABANDONED, setPair fun g => { g with run := none, started := s.now }]
    else setPair fun g => { g with run := some { r with passes := r.passes + 1 } }

/-- A PENDING transaction is due within 300 µs. -/
def State.pendingSoon (s : State) : Bool := s.eng.txn.txns.any fun e => s.rd (R.T_STATE e.1) == 3 &&
  (match s.txnInstant e.1 with
   | some u => decide (u ≤ s.devTime + 300000 * uNs)
   | none => true)

/-- MOORING_FREEZE of a length in ns, at whose end T_FREEZE is taken and the image is complete; it goes out in order (R431).
DESIGN CHOICE: log 94. -/
def freeze (ns : Nat) : Act := .read fun s =>
  match s.eng.pair.run, s.pairKey opWrap with
  | some r, some kek =>
    if ¬ r.ready ∨ s.pendingSoon then .skip
    else acts [
      .eff (.pass (min ns 200000)),
      .read fun s =>
        let m := s.mooring r.seq kek
        acts [
          pairStarts s.ownerValues,
          wr R.PR_FREEZE_MAX (max (s.rd R.PR_FREEZE_MAX) (min ns 200000)),
          setPair fun g => { g with run := none, sent := some (m, r.yield) },
          pairPost 0x30 r.seq m.hdr none,
          forAll m.blocks fun b => pairPost 0x31 (b.1 * 2 ^ 56 + 8 * b.2.1) b.2.2 none,
          pairPost 0x32 r.seq [] (some r.seq)]]
  | some _, none => acts [raise 0x1007 0 0, setPair fun g => { g with run := none }]
  | none, _ => .skip

/-- IMAGE_ACK. -/
def imageAck (seq : Nat) : Act := .read fun s =>
  match s.eng.pair.sent with
  | some (m, yield) =>
    if m.seq ≠ seq then .skip
    else acts [
      wr R.PR_IMAGE_SEQ seq, inc R.PR_IMAGES,
      setPair fun g => { g with
        sent := none
        acked := s.netCounters
        newest := some ({ m with words := [] }, s.rd R.PR_AREA) },
      onlyIf (yield && s.rd R.PR_STATE == psActive) (acts [setPairState psYielding, setPair fun g => { g with yieldAt := s.now }])]
  | none => .skip

/-- PR_IMAGE_AGE: ms since T_FREEZE of the newest complete image. -/
def State.imageAge (s : State) : Nat := match s.eng.pair.newest with
  | some (m, _) => (s.devTime - m.freeze) / (1000000 * uNs)
  | none => 0

/-- PR_CMD 1; the status that PR_CMD reads back is 0 OK, 1 STATE, 2 PARTNER or 3 BUSY. -/
def prImage : Act := .read fun s =>
  if s.rd R.PR_STATE ≠ psActive then wr R.PR_CMD 1
  else if s.eng.pair.run.isSome then wr R.PR_CMD 3
  else acts [wr R.PR_CMD 0, imageBegins false]

/-- PR_CMD 2. -/
def prYield : Act := .read fun s =>
  if s.rd R.PR_STATE ≠ psActive then wr R.PR_CMD 1
  else if s.rd R.PR_PEER_STATE ≠ psReady then wr R.PR_CMD 2
  else if s.eng.pair.run.isSome then wr R.PR_CMD 3
  else acts [wr R.PR_CMD 0, imageBegins true]

/-- PR_CMD 3. DEDUCED: log 99. -/
def prCancel : Act := .read fun s =>
  if s.rd R.PR_STATE ≠ psYielding then wr R.PR_CMD 1
  else acts [wr R.PR_CMD 0, setPairState psActive]

/-- PR_YIELD_EXPIRY. -/
def yieldExpiry : Act := .read fun s =>
  onlyIf (s.rd R.PR_STATE == psYielding && s.eng.pair.grant && decide (s.eng.pair.yieldAt + s.rd R.PR_YIELD_MS * 1000000 ≤ s.now))
    (acts [setPairState psActive, raise 0x100A 0 0])

/-! ## Images on the Standby (R402 to R404) -/

def State.standby (s : State) : Bool := s.rd R.PR_STATE == psSyncing || s.rd R.PR_STATE == psReady

/-- SYNCING ends with a young enough image and a locked time loop. -/
def checkReady : Act := .read fun s =>
  onlyIf (s.rd R.PR_STATE == psSyncing && s.eng.pair.newest.isSome && decide (s.imageAge ≤ s.rd R.PR_MAX_AGE * 1000) && s.eng.pair.locked)
    (setPairState psReady)

/-- An image being received is discarded. -/
def imageBad (seq : Nat) : Act := acts [inc R.PR_IMAGES_BAD, raise 0x1002 0 seq, setPair fun g => { g with rx := none }]

def moorHeader (p : FabPkt) : Act := .read fun s => onlyIf s.standby
  (setPair fun g => { g with rx := some (⟨p.payload.getD 1 0, ofT112 (p.payload.getD 2 0) (p.payload.getD 3 0), p.payload, []⟩, s.now) })

def moorData (p : FabPkt) : Act := .read fun s =>
  match s.eng.pair.rx with
  | some (m, _) =>
    let id := fld p.arg 63 56
    let off := fld p.arg 55 0 / 8
    let words := (p.payload.zipIdx).foldl (fun (acc : List ((Nat × Nat) × Nat)) x =>
      if x.1 = 0 then adel acc (id, off + x.2) else aput pairLt acc (id, off + x.2) x.1) m.words
    setPair fun g => { g with rx := some ({ m with words := words }, s.now) }
  | none => .skip

/-- R513: the Standby accepts the version and schema of an image. -/
def State.imageAccepted (s : State) (m : Moor) : Bool :=
  let proto := fld (m.hdr.getD 0 0) 15 8
  let schema := fld (m.hdr.getD 5 0) 63 32
  let own := s.rd R.SCHEMA
  protoCompatible s.pairProto (imgField s.runImage 22 1) proto 0 && schema / 65536 == own / 65536 &&
    decide (schema % 65536 ≤ own % 65536 + 1) && decide (own % 65536 ≤ schema % 65536 + 1)

/-- MOOR_END. DEDUCED: log 95. -/
def moorEnd (l : Nat) (p : FabPkt) : Act := .read fun s =>
  match s.eng.pair.rx with
  | some (m, _) =>
    if m.seq = p.arg ∧ m.sound ∧ s.imageAccepted m then
      let area := match s.eng.pair.newest with
        | some (_, a) => 1 - a
        | none => 0
      acts [
        setPair fun g => { g with
          rx := none
          newest := some (m, area) },
        wr R.PR_AREA area, wr R.PR_IMAGE_SEQ m.seq, inc R.PR_IMAGES, raise 0x1001 0 m.seq,
        fabAnswer l p 0xB2 m.seq [], checkReady]
    else imageBad p.arg
  | none => .skip

/-- MOOR_STREAM_TIMEOUT. -/
def moorTimeout : Act := .read fun s =>
  match s.eng.pair.rx with
  | some (m, last) => onlyIf (decide (last + 100000000 ≤ s.now)) (imageBad m.seq)
  | none => .skip

/-- A READY unit is no longer: 0 image age, 1 time loop. -/
def notReady (why : Nat) : Act := acts [setPairState psSyncing, raise 0x1006 0 why]

/-- PR_IMAGE_AGE_EXPIRY. -/
def imageAgeExpiry : Act := .read fun s =>
  onlyIf (s.rd R.PR_STATE == psReady && decide (s.rd R.PR_MAX_AGE * 1000 < s.imageAge)) (notReady 0)

/-- PR_TIME_HOLD_EXPIRY. -/
def timeHoldExpiry : Act := .read fun s =>
  onlyIf (s.rd R.PR_STATE == psReady && !(s.eng.pair.locked) && decide (s.eng.pair.unlocked + s.rd R.PR_TIME_HOLD * 1000000000 ≤ s.now)) (notReady 1)

/-! ## Time across the pair link (R405, R431) -/

/-- TIME_SYNC_TIMER. -/
def timeSyncTimer : Act := .read fun s =>
  onlyIf (decide (psSwitching ≤ s.rd R.PR_STATE) && decide (s.rd R.PR_STATE ≤ psYielding) &&
    (s.rd R.PR_PEER_STATE == psSyncing || s.rd R.PR_PEER_STATE == psReady) && s.msGone s.eng.pair.syncAt)
    (acts [pairPost 0x33 0 [0, 0] none, setPair fun g => { g with syncAt := some s.now }])

/-- A TIME_SYNC arrives: t1 and t2; t3 is taken as the TIME_DREQ leaves. -/
def timeSyncRx (p : FabPkt) : Act := .read fun s => onlyIf s.standby (acts [
  setPair fun g => { g with t1 := some (ofT112 (p.payload.getD 0 0) (p.payload.getD 1 0), s.devTime, s.devTime) },
  pairPost 0x34 0 [] (some 0)])

/-- A TIME_DREQ arrives: its arrival time goes back. -/
def timeReqRx (l : Nat) (p : FabPkt) : Act := .read fun s => fabAnswer l p 0xB4 0 (t112 s.devTime)

/-- The loop steers device time. DEDUCED: log 98. -/
def pairServo (o : Int) : Act := .read fun s =>
  let m : Int := s.rd R.SV_RATE_MAX
  if 0 < s.rd R.SV_STEP_NS ∧ s.rd R.SV_STEP_NS < o.natAbs then stepBy (-o)
  else
    let f := clampRate m (s.eng.pair.freq - (s.rd R.SV_KI : Int) * o)
    acts [setPair fun g => { g with freq := f }, setRate (clampRate m (f - (s.rd R.SV_KP : Int) * o))]

/-- A TIME_DRESP completes an exchange. -/
def timeResp (p : FabPkt) : Act := .read fun s =>
  match s.eng.pair.t1 with
  | none => .skip
  | some (t1, t2, t3) => onlyIf s.standby (
    let t4 := ofT112 (p.payload.getD 0 0) (p.payload.getD 1 0)
    let sync : Int := (t2 : Int) - t1
    let d := (sync + ((t4 : Int) - t3)) / 2
    let o := roundDiv (sync - d) uNs - s.rdi R.PR_LINK_ASYM
    let small := decide (o.natAbs ≤ s.rd R.SV_LOCK_NS)
    let n := if small then s.eng.pair.good + 1 else 0
    acts [
      wri R.PR_TIME_ERR o, pairServo o,
      setPair fun g => { g with
        t1 := none
        good := n
        lastExch := s.now
        unlocked := if g.locked && !small then s.now else g.unlocked
        locked := if small then g.locked || decide (s.rd R.SV_LOCK_COUNT ≤ n) else false },
      checkReady])

/-- PAIR_TIME_LOOP_TIMEOUT. -/
def timeLoopTimeout : Act := .read fun s =>
  onlyIf (decide (s.eng.pair.lastExch + 10000000 ≤ s.now)) (setPair fun g => { g with
    unlocked := if g.locked then s.now else g.unlocked
    locked := false
    good := 0 })

/-! ## The witness (R398, R399, Tables PAIR-4 and PAIR-5) -/

def setWit (f : WitEng → WitEng) : Act := eng fun e => { e with wit := f e.wit }

/-- The unit is a witness. -/
def State.isWitness (s : State) : Bool := fld (s.rd R.STRAPS) 9 8 == 2

def State.witAlive (s : State) (x : Nat) : Bool := s.eng.wit.alive.contains x
def State.witCode (s : State) (x : Nat) : Nat := s.eng.wit.codes.at x 0

/-- WIT_UNITS follows what the witness sees; the outputs follow their levels. -/
def witShow : Act := .read fun s => acts [
  wr R.WIT_UNITS (b2n (s.witAlive 0) * 32 + s.witCode 0 * 8 + b2n (s.witAlive 1) * 4 + s.witCode 1),
  emit (.wit s.eng.wit.grants s.eng.wit.fences)]

/-- The unit that holds the grant. -/
def State.granted (s : State) : Option Nat := if s.rd R.WIT_STATE = 2 then some 0 else if s.rd R.WIT_STATE = 3 then some 1 else none

/-- Grant rises at a unit. -/
def grantUnit (x : Nat) : Act := .read fun s => acts [
  wr R.WIT_STATE (2 + x),
  setWit fun g => { g with
    grants := [x]
    grantAt := s.now
    since := s.now
    shown := decide (2 ≤ s.witCode x)
    failed := false
    reported := false },
  witShow]

/-- Table PAIR-4 steps 1 and 2: the grant leaves unit `x` for the other one. -/
def witMove (x : Nat) (cold : Bool) : Act := .read fun s => acts [
  wr R.WIT_STATE 4,
  setWit fun g => { g with
    grants := []
    fences := x :: g.fences.filter (· != x)
    since := s.now
    target := 1 - x },
  inc R.WIT_MOVES, raise 0x1008 0 (1 - x + 2 * b2n cold), witShow]

/-- The granted unit has failed (R399). -/
def State.witFailed (s : State) (x : Nat) : Bool := !(s.witAlive x) || s.eng.wit.failed

/-- What the witness does about its granted unit (Table PAIR-5). -/
def witJudge : Act := .read fun s =>
  match s.granted with
  | none => .skip
  | some x =>
    let y := 1 - x
    let failed := s.witFailed x
    if (failed ∨ s.witCode x = 3) ∧ s.witAlive y ∧ s.witCode y = 1 then witMove x false
    else if failed ∧ s.witAlive y ∧ s.rd R.WIT_COLD_OK = 1 then witMove x true
    else if failed ∧ ¬ s.eng.wit.reported then acts [setWit fun g => { g with reported := true }, raise 0x1009 0 x]
    else if ¬ failed then setWit fun g => { g with reported := false }
    else .skip

/-- WIT_START_WAIT_EXPIRY. -/
def witStart : Act := .read fun s =>
  onlyIf (s.isWitness && s.rd R.WIT_STATE == 0 && decide (s.eng.wit.since + s.rd R.WIT_START_WAIT * 1000000 ≤ s.now))
    (if s.witAlive 0 then grantUnit 0 else if s.witAlive 1 then grantUnit 1
     else acts [wr R.WIT_STATE 1, setWit fun g => { g with since := s.now }])

/-- A heartbeat period as a receiver judges it (R394): length and high time in ns; none when it is not valid. -/
def hbPeriod (p : Nat × Nat) : Option Bool :=
  if p.1 < 900000 ∨ 1100000 < p.1 then none
  else if 150000 ≤ p.2 ∧ p.2 ≤ 350000 then some false
  else if 650000 ≤ p.2 ∧ p.2 ≤ 850000 then some true
  else none

/-- Eight periods as a valid word: its SEQ (R394, Table PAIR-2). -/
def hbSeqOf (ps : List (Nat × Nat)) : Option Nat := do
  let bits ← ps.mapM hbPeriod
  let w := bits.foldl (fun a b => 2 * a + b2n b) 0
  if bits.length = 8 ∧ w = hbWord (fld w 5 3) then some (fld w 5 3) else none

/-- Sixteen periods are two consecutive valid words. -/
def hbAlive (ps : List (Nat × Nat)) : Bool :=
  match hbSeqOf (ps.take 8), hbSeqOf (ps.drop 8) with
  | some a, some b => b == (a + 1) % 8
  | _, _ => false

/-- WIT_HEARTBEAT_ALIVE: two valid words of unit `x`. DESIGN CHOICE: log 186. -/
def witAliveNow (x : Nat) (ps : List (Nat × Nat)) : Act := .read fun s => onlyIf (s.isWitness && hbAlive ps) (acts [
  setWit fun g => { g with alive := x :: g.alive.filter (· != x), words := g.words.set x s.now }, witShow,
  .read fun s => if s.rd R.WIT_STATE = 1 then (if s.witAlive 0 then grantUnit 0 else grantUnit 1) else witJudge])

/-- WIT_HEARTBEAT_LOST: no valid word has ended within WIT_HB_LOSS. DESIGN CHOICE: log 186. -/
def witLost (x : Nat) : Act := .read fun s => onlyIf (s.isWitness && s.witAlive x &&
    decide (s.eng.wit.words.at x 0 + s.rd R.WIT_HB_LOSS * 1000000 ≤ s.now)) (acts [
  setWit fun g => { g with alive := g.alive.filter (· != x) }, witShow, witJudge])

/-- WIT_TAKE_TIMEOUT. -/
def witTake : Act := .read fun s =>
  onlyIf (s.isWitness && s.granted.isSome && !(s.eng.wit.shown) && decide (s.eng.wit.grantAt + s.rd R.WIT_TAKE_MS * 1000000 ≤ s.now))
    (acts [setWit fun g => { g with failed := true }, witJudge])

/-- WIT_STATE_CODE: unit `x` shows a code. DEDUCED: log 103. -/
def witCodeNow (x code held : Nat) : Act := .read fun s => onlyIf (s.isWitness && decide (1000 ≤ held)) (acts [
  onlyIf (s.witCode x != code) (setWit fun g => { g with codes := g.codes.set x code, held := g.held.set x (s.now - held) }),
  onlyIf (s.granted == some x) (
    if code = 2 ∨ code = 3 then setWit fun g => { g with shown := true, failed := g.failed && !(decide (code = 2)) }
    else onlyIf (code == 0 && s.eng.wit.shown) (setWit fun g => { g with failed := true })),
  witShow, witJudge])

/-- WIT_CMD 1; the status read back is 0 OK, 1 STATE or 2 PARTNER. -/
def witCmd : Act := .read fun s =>
  match s.granted with
  | none => wr R.WIT_CMD 1
  | some x => if s.witAlive (1 - x) ∧ s.witCode (1 - x) = 1 then acts [wr R.WIT_CMD 0, witMove x false] else wr R.WIT_CMD 2

/-- WIT_FENCE_GAP_EXPIRY. -/
def witGap : Act := .read fun s =>
  onlyIf (s.isWitness && s.rd R.WIT_STATE == 4 && decide (s.eng.wit.since + s.rd R.WIT_FENCE_GAP ≤ s.now)) (grantUnit s.eng.wit.target)

/-- WIT_FENCE_RELEASE of unit `x`. -/
def witFence (x : Nat) : Act := .read fun s =>
  onlyIf (s.isWitness && s.eng.wit.fences.contains x && s.witAlive x && decide (s.witCode x ≤ 1) &&
      decide (s.eng.wit.held.at x 0 + 1000000 ≤ s.now))
    (acts [setWit fun g => { g with fences := g.fences.filter (· != x) }, witShow])

end Sys2Proof.Machine
end

