-- ==== Sys2Proof/Machine/Update.lean ====
section
/-! DEFINITION. Update images, activation, the boot record and the end of the boot flow (22_device_update.md R501 to R515;
21_reset_clocks_power.md R489, R490), life-cycle transitions (13_keys_crypto.md R327 to R329) and the measurement report
(14_join_attestation.md R356). -/

namespace Sys2Proof.Machine

open Sys2Proof

def setUp (f : UpEng → UpEng) : Act := eng fun e => { e with up := f e.up }

/-! ## Images (R501, R502) -/

/-- Part `i` of an image, 0 to 5: ID, OFFSET, SIZE and DIGEST. -/
def partId (o : List Nat) (i : Nat) : Nat := imgField o (48 + 48 * i) 1
def partOff (o : List Nat) (i : Nat) : Nat := imgField o (56 + 48 * i) 4
def partSize (o : List Nat) (i : Nat) : Nat := imgField o (60 + 48 * i) 4
def partDigest (o : List Nat) (i : Nat) : List Nat := (o.drop (64 + 48 * i)).take 32

/-- Step 1 of R502, for a device of a revision. -/
def imageForm (siRev : Nat) (o : List Nat) : Bool :=
  imgField o 0 4 == 0x44554F46 && imgField o 4 1 == 1 && imgField o 5 1 == 6 && imgField o 8 4 == 0x9624 && imgField o 12 2 == siRev &&
    imgField o 32 8 == o.length && (List.range 6).all fun i =>
      partId o i == i + 1 && partOff o i % 8 == 0 && decide (10864 ≤ partOff o i) && decide (partOff o i + partSize o i ≤ o.length) &&
        (i == 5 || decide (partOff o i + partSize o i ≤ partOff o (i + 1)))

/-- Step 4: every part matches its DIGEST. -/
def partsMatch (o : List Nat) : Bool :=
  (List.range 6).all fun i => Config.shake256 ((o.drop (partOff o i)).take (partSize o i)) == partDigest o i

/-- A signature over the manifest under the key whose digest a slot holds. -/
def State.manifestSigned (s : State) (slot : Nat) (o : List Nat) (pk sig : Nat) (ctx : String) : Bool :=
  let key := (o.drop pk).take 1952
  (match s.keyFor slot opVerify with
   | some d => Config.shake256 key == d
   | none => false) && Config.mldsaVerify key (o.take 336) ((o.drop sig).take 3309) ctx

/-- R502: the status of an image, 0 when it is verified. -/
def State.updateStatus (s : State) (o : List Nat) : Nat :=
  let schema := imgField o 16 4
  firstOf [failIf (!(imageForm (s.rd R.SI_REV) o)) 2,
    failIf (!(s.manifestSigned 3 o 336 2288 "FOLORI UPDATE VENDOR")) 3,
    failIf (s.keyHeld 4 && !(s.manifestSigned 4 o 5597 7549 "FOLORI UPDATE OWNER")) 4,
    failIf (!(partsMatch o)) 5,
    failIf (decide (imgField o 24 4 < s.rd R.UP_FLOOR)) 6,
    failIf (!(schema / 65536 == s.rd R.SCHEMA / 65536 && decide (s.rd R.SCHEMA % 65536 ≤ schema % 65536))) 7]

/-- What runs shows: schema, version, and the protocols offered. -/
def showImage : Act := .read fun s =>
  let o := s.eng.up.run
  if o.isEmpty then forAll [R.SCHEMA, R.UP_RUN_VER, R.FB_PROTO, R.FB_BRIDGE] fun r => wr r (dflt r)
  else acts [wr R.SCHEMA (imgField o 16 4), wr R.UP_RUN_VER (imgField o 28 4), wr R.FB_PROTO (imgField o 21 1), wr R.FB_BRIDGE (imgField o 22 1)]

/-! ## The boot record (R505, R506) -/

/-- The record with the higher SEQ. -/
def State.bootRec (s : State) : Option BootRec :=
  match aget s.eng.up.records 0, aget s.eng.up.records 1 with
  | some a, some b => some (if a.seq < b.seq then b else a)
  | some a, none => some a
  | none, r => r

/-- A record is written into the copy with the lower SEQ. -/
def putRecord (bank : Nat) (confirmed : Bool) (tries : Nat) : Act := .read fun s =>
  let seqOf (k : Nat) : Nat := match aget s.eng.up.records k with
    | some r => r.seq
    | none => 0
  let copy := if seqOf 1 < seqOf 0 then 1 else 0
  acts [setUp fun g => { g with records := g.records.set copy ⟨max (seqOf 0) (seqOf 1) + 1, bank, confirmed, tries⟩ }, wr R.UP_TRIES tries]

/-- The device boots from flash (BOOT_SRC 0b00 or 0b01). -/
def State.flashBoot (s : State) : Bool := decide (fld (s.rd R.STRAPS) 5 4 ≤ 1)

/-- The bank that the boot record does not name. -/
def State.spareBank (s : State) : Nat := match s.bootRec with
  | some r => 1 - r.bank
  | none => 1

/-! ## Transfer and staging (R503, R504) -/

/-- UP_WRITE of `n` octets. -/
def upWrite (n : Nat) : Act := .read fun s =>
  let off := s.rd R.UP_OFFSET
  acts [setUp fun g => { g with area := patch g.area off (s.dataOctets R.UP_DATA n) },
    wr R.UP_LENGTH (max (if s.rd R.UP_STATE = 0 then 0 else s.rd R.UP_LENGTH) (off + n)), wr R.UP_OFFSET (off + n), wr R.UP_STATE 1]

def upStatus (st : Nat) : Act := wr R.UP_CMD st

/-- UP_CMD 1. DEDUCED: log 122. -/
def upVerify : Act := .read fun s =>
  if [1, 3, 4].contains (s.rd R.UP_STATE) then postJob 4 .update (acts [wr R.UP_STATE 2, upStatus 0]) .skip else upStatus 1

/-- A verification or check has failed. -/
def upBad (st : Nat) : Act := acts [wr R.UP_STATE 4, upStatus st, inc R.UP_BAD, raise 0x1202 0 st]

/-- UP_VERIFY_DONE: `flashOk` says that the copy in flash was read back right. DEDUCED: log 123. -/
def upVerifyDone (flashOk : Bool) : Act := .read fun s =>
  if s.rd R.UP_STATE ≠ 2 ∨ ((s.jobs 4).contains .update ∧ ¬ s.nextJob.any fun x => x.2.1 == .update) then .skip
  else
    let o := s.eng.up.area.take (s.rd R.UP_LENGTH)
    let st := s.updateStatus o
    let good := acts [wr R.UP_STATE 3, upStatus 0, wr R.UP_STAGED_VER (imgField o 28 4), wr R.UP_STAGED_SCHEMA (imgField o 16 4),
      raise 0x1201 0 (imgField o 28 4)]
    acts [endJob 4 .update,
      onlyIf (s.keyServes 3 opVerify && imageForm (s.rd R.SI_REV) o) (keyStarts 3),
      onlyIf (s.keyServes 4 opVerify && (st == 0 || decide (4 ≤ st))) (keyStarts 4),
      if st ≠ 0 then upBad st
      else if s.flashBoot then acts [setUp fun g => { g with banks := g.banks.set s.spareBank o }, if flashOk then good else upBad 11]
      else good]

/-! ## Arming (R507, R513) -/

/-- The staged image. -/
def State.staged (s : State) : List Nat := s.eng.up.area.take (s.rd R.UP_LENGTH)

/-- The image works with every fabric peer whose link is UP, and with the partner. -/
def State.compatible (s : State) (o : List Nat) : Bool :=
  let bridge := imgField o 22 1
  ((List.range 6).all fun l => !(s.linkUp l) ||
    protoCompatible (imgField o 21 1) bridge (s.flink l).offer.1 (s.flink l).offer.2) &&
  (!(s.inPair) || (match s.eng.pair.newest with
    | some (m, _) => s.standby == false || protoCompatible (imgField o 20 1) bridge (fld (m.hdr.getD 0 0) 15 8) 0
    | none => true))

/-- Why an image may not be activated now: 8 ROLE, 9 COMPAT. -/
def State.armFault (s : State) : Nat := firstOf [
  failIf (s.inPair && decide (psSwitching ≤ s.rd R.PR_STATE) && decide (s.rd R.PR_STATE ≤ psYielding)) 8,
  failIf (!(s.compatible s.staged)) 9]

/-- The instant that UP_INSTANT, UP_ASN and UP_TIME name. -/
def State.upInstant (s : State) : Nat :=
  if s.rd R.UP_INSTANT = 1 then s.slotStart (s.rd R.UP_ASN % 2 ^ 40) else if s.rd R.UP_INSTANT = 2 then s.rdTime (R.UP_TIME 0) else s.devTime

/-- The instant of an armed image: an ASN's start moves with the epoch, a time stands (R507). -/
def State.armedAt (s : State) (a : Nat × Nat) : Nat := if a.1 = 1 then s.slotStart a.2 else a.2

/-- UP_CMD 2. DEDUCED: log 125. -/
def upArm : Act := .read fun s =>
  let kind := s.rd R.UP_INSTANT
  if s.rd R.UP_STATE ≠ 3 then upStatus 1
  else if s.armFault ≠ 0 then upStatus s.armFault
  else if !(s.instantOk kind (s.rd R.UP_ASN % 2 ^ 40) (s.rdTime (R.UP_TIME 0))) || (kind != 0 && decide (s.upInstant ≤ s.devTime)) then upStatus 10
  else acts [wr R.UP_STATE 5, upStatus 0, setUp fun g => { g with
    armed := some (kind, if kind = 1 then s.rd R.UP_ASN % 2 ^ 40 else s.upInstant) }, raise 0x1203 0 kind]

/-- UP_CMD 3. -/
def upDisarm : Act := .read fun s =>
  if s.rd R.UP_STATE ≠ 5 then upStatus 1
  else acts [wr R.UP_STATE 3, upStatus 0, setUp fun g => { g with armed := none }]

/-- UP_CMD 4. DEDUCED: log 122. -/
def upDiscard : Act := .read fun s =>
  if [0, 1, 3, 4].contains (s.rd R.UP_STATE) then
    acts [wr R.UP_STATE 0, upStatus 0, wr R.UP_LENGTH 0, setUp fun g => { g with area := [] }]
  else upStatus 1

/-- UP_CMD 5 (R511). -/
def upConfirm : Act := .read fun s =>
  if s.rd R.UP_RUN_STATE ≠ 1 then upStatus 1
  else acts [
    onlyIf s.flashBoot (match s.bootRec with
      | some r => putRecord r.bank true r.tries
      | none => .skip),
    wr R.UP_FLOOR (max (s.rd R.UP_FLOOR) (imgField s.runImage 24 4)), wr R.UP_RUN_STATE 0, upStatus 0,
    raise 0x1205 0 (s.rd R.UP_RUN_VER)]

/-! ## Activation (R508 to R510) -/

/-- An image of the configuration store with another schema and its digest anew. -/
def stamped (schema : Nat) (o : List Nat) : List Nat :=
  let p := o.take 12 ++ leOctets 4 schema ++ o.drop 16
  p.take 40 ++ imageDigest p (imgField p 20 4) ++ p.drop 72

/-- Step 5: VALID slots carry the new schema. -/
def restamp : Act := acts [
  forAll (List.range 34) fun k => .read fun s => onlyIf (s.rd (R.SL_STATE k) == 2)
    (let o := stamped (s.rd R.SCHEMA) (s.slot k)
     acts [putSlot k o, match parseImage o with
      | some im => acts [wr (R.SL_SCHEMA k) im.schema, wrs (R.SL_DIGEST k 0) (im.digest.map (·.toNat))]
      | none => .skip]),
  .read fun s => showConfig (s.rd R.RUN_BASE) (s.rd R.ACTIVE_MODES)]

/-- What the pause clears (R510). -/
def pauseClears : Act := .read fun s => acts [
  forAll s.eng.txn.txns fun e => putTxn e.1 { e.2 with resp := .none },
  forAll s.eng.txn.txns fun e => abortTxn e.1 8 none,
  setTxns fun g => { g with waits := [], seqs := [], snaps := [] }, forAll (List.range 18) fun m => wr (R.A_BIND m) 0,
  clearSessions, joinClear, stopRings, emptyFifos,
  irqBlockReset, setIrq fun q => { q with
    latched := []
    evq := []
    evLost := 0
    evOverflow := false
    pba := 0 },
  wr R.EV_DEPTH 0, irqResume,
  addTo R.UP_RX_DROPPED ((s.eng.lane.queues.map fun e => e.2.length).foldl (· + ·) 0),
  setLaneEng fun g => { g with queues := [] }]

/-- Links whose offer has changed leave UP and train again. DEDUCED: log 104. -/
def retrainLinks (proto bridge : Nat) : Act := .read fun s =>
  onlyIf (s.rd R.FB_PROTO != proto || s.rd R.FB_BRIDGE != bridge) (acts [
    forAll ((List.range 6).filter s.linkUp) fun l => acts [dropLink l 3, wr (R.FB_STATE l) 1, inc (R.FB_RETRAINS l)],
    routesChanged, showPairLink])

/-- Steps 3 to 7. `rf` and `bh` are the two spans of the pause in µs. DESIGN CHOICE: log 124. -/
def activate (rf bh : Nat) : Act := .read fun s =>
  let o := s.staged
  let pause := max rf bh * 1000
  acts [
    onlyIf s.flashBoot (acts [putRecord s.spareBank false 3, wr R.UP_BANK s.spareBank]),
    pauseClears,
    setUp fun g => { g with run := o, armed := none }, showImage, restamp,
    forAll (List.range 8) fun c => onlyIf (s.rd (R.AC_STATE c) != 3) (acts [coreReset c, coreRelease c]),
    onlyIf s.standby (acts [setPair fun g => { g with rx := none }, setPairState psSyncing]),
    .eff (.pass pause),
    .read fun s => acts [
      setTsch fun g => { g with idleUntil := max g.idleUntil s.devTime },
      wr R.J_SERVE_ASN s.tsAsn, wr R.UP_STATE 0, wr R.UP_LENGTH 0,
      wr R.UP_PAUSE_RF rf, wr R.UP_PAUSE_BH bh, inc R.UP_ACTIVATIONS, wr R.UP_RUN_STATE 1,
      unmuteFor 4, raise 0x1204 0 (rf % 2 ^ 32 + bh % 2 ^ 32 * 2 ^ 32)],
    retrainLinks (s.rd R.FB_PROTO) (s.rd R.FB_BRIDGE)]

/-- UP_ACTIVATION. DESIGN CHOICE: log 124. -/
def upActivation (rf bh : Nat) : Act := .read fun s =>
  match s.eng.up.armed with
  | none => .skip
  | some a =>
    if s.rd R.UP_STATE ≠ 5 ∨ s.devTime < s.armedAt a then .skip
    else if s.armFault ≠ 0 then acts [wr R.UP_STATE 3, setUp fun g => { g with armed := none }, raise 0x1207 0 s.armFault]
    else acts [muteFor 4,
      if partsMatch s.staged then activate (min rf 300000) (min bh 300000)
      else acts [setUp fun g => { g with armed := none }, upBad 5, unmuteFor 4]]

/-! ## The end of the boot flow (R489, R490, R495, R506, Table RESET-4 steps 10 to 12) -/

/-- The outage record is checked (R495). -/
def checkRecord : Act := .read fun s =>
  match s.eng.rst.record with
  | none => .skip
  | some (fields, nets, sound) => acts [
      if sound then acts [wr R.PW_REC 1,
        forAll nets fun x => .read fun s => onlyIf (kType (s.rd (R.K_ATTR x.1)) == 3) (wr (R.K_FC x.1) (max (s.rd (R.K_FC x.1)) x.2)),
        wr R.PW_LAST_OUTAGE (if s.rd R.RTC_VALID = 1 ∧ fields.getD 1 0 ≠ 0 then (s.rtcNow - fields.getD 1 0) * 1000 / 32768 else 0)]
      else acts [wr R.PW_REC 2, raise 0x0207 0 0],
      setRst fun g => { g with record := none }]

/-- The role decides what the mute line does (R485, R392). -/
def roleStarts : Act := .read fun s =>
  match fld (s.rd R.STRAPS) 9 8 with
  | 0 => unmuteFor 0
  | 1 => acts [muteFor 1, unmuteFor 0, setPairState psSyncing, hbStart]
  | _ => acts [muteFor 6, unmuteFor 0, setWit fun g => { g with since := s.now }]

/-- Steps 11 and 12 once an image has been verified. -/
def bootEnds : Act := .read fun s => acts [
  wr R.BT_STAGE 3, checkRecord,
  .read fun s0 => acts [bootLoad (s0.rd R.BOOT_BASE) (s0.rd R.BOOT_MODES), .read fun s1 => afterApply s0 (s1.objs.map (·.1))],
  tallyRestart,
  setRst fun g => { g with stage := 0 },
  forAll releaseOrder releaseBlock, settleCores, clockLevel,
  raise 0x0201 0 (s.rd R.RC_LAST),
  roleStarts, .read fun s => wr R.J_SERVE_ASN s.tsAsn,
  onlyIf (s.eng.rst.wake && s.eng.radio.wake.isSome) (raise 0x040A 0 (s.rd R.WK_LAST * 256)),
  setRst fun g => { g with wake := false }, setRadio fun g => { g with wake := none }]

/-- The boot ROM's judgement of an image: steps 1 to 5 of R502. -/
def State.bootStatus (s : State) (o : List Nat) : Nat := if 7 ≤ s.updateStatus o then 0 else s.updateStatus o

/-- A flash bank may hold an image that verifies: its octets verify, or the model has not been told them.
DESIGN CHOICE: log 190. -/
def State.bankBoots (s : State) (k : Nat) : Bool := (s.eng.up.banks.at k []).isEmpty || s.bootStatus (s.eng.up.banks.at k []) == 0

/-- The bank the record chooses (R506 steps 1 and 2). -/
def State.chosenBank (s : State) : Option Nat := s.bootRec.map fun r => if r.confirmed || decide (0 < r.tries) then r.bank else 1 - r.bank

/-- R506: the ROM boots the chosen bank, and the other one only when that fails R502. DESIGN CHOICE: log 190. -/
def State.mayBoot (s : State) (bank : Nat) : Bool := s.bankBoots bank && (match s.chosenBank with
  | none => true
  | some c => bank == c || (s.eng.up.banks.at c []).isEmpty || !(s.bankBoots c))

/-- The record of a flash boot is kept (R506 steps 1 and 2); the state of the image that runs. DEDUCED: log 123. -/
def bootCounts (bank : Nat) : Act := .read fun s =>
  match s.bootRec with
  | none => acts [wr R.UP_RUN_STATE 0, wr R.UP_TRIES 0]
  | some r =>
    if r.confirmed then wr R.UP_RUN_STATE 0
    else if 0 < r.tries then acts [putRecord r.bank false (r.tries - 1), wr R.UP_RUN_STATE (b2n (bank == r.bank))]
    else acts [putRecord (1 - r.bank) true 0, wr R.UP_RUN_STATE 0]

/-- BOOT_IMAGE_VERIFIED: the image of a bank, or the one the host has loaded. -/
def bootVerified (bank : Nat) : Act := .read fun s =>
  let named := s.bootRec
  if s.eng.rst.stage ≠ 2 then .skip
  else if s.flashBoot then
    if s.rd R.BT_STAGE ≠ 0 ∨ 2 ≤ bank ∨ ¬ s.mayBoot bank then .skip
    else acts [
      setUp fun g => { g with run := g.banks.at bank [] }, showImage, wr R.UP_BANK bank, bootCounts bank, bootEnds,
      match named with
      | some r => onlyIf (r.bank != bank) (raise 0x1206 0 bank)
      | none => .skip]
  else if s.rd R.BT_STAGE ≠ 2 ∨ s.bootStatus s.eng.rst.image ≠ 0 then .skip
  else acts [setUp fun g => { g with run := s.eng.rst.image }, showImage, wr R.UP_BANK 255, wr R.UP_RUN_STATE 0, bootEnds]

/-- BOOT_FAILED: no bank verifies (R489). -/
def bootFailed : Act := .read fun s => onlyIf (s.eng.rst.stage == 2 && s.rd R.BT_STAGE == 0 &&
    [0, 1].all fun k => (s.eng.up.banks.at k []).isEmpty || !(s.bankBoots k)) (acts [
  wr R.BT_STAGE 4, setRst fun g => { g with stage := 3, fault := true }])

/-- BT_WRITE of `n` octets and BT_DONE. -/
def btWrite (n : Nat) : Act := .read fun s =>
  let off := s.rd R.BT_OFFSET
  acts [setRst fun g => { g with image := patch g.image off (s.dataOctets R.BT_DATA n) }, wr R.BT_OFFSET (off + n)]

def btDone (len : Nat) : Act := acts [setRst fun g => { g with image := g.image.take len }, wr R.BT_STAGE 2]

/-- BOOT_IMAGE_REFUSED: the image the host has loaded fails R502. -/
def bootRefused : Act := .read fun s => onlyIf (s.eng.rst.stage == 2 && s.rd R.BT_STAGE == 2 && s.bootStatus s.eng.rst.image != 0) (acts [
  wr R.BT_STAGE 1, raise 0x020A 0 0])

/-! ## Life cycle (R327 to R329, Table KEYS-5) -/

/-- The unlock signature of the import buffer is right (R328). -/
def State.unlocked (s : State) : Bool :=
  let b := s.importOctets 5261
  let pk := b.drop 3309
  (match s.keyFor 3 opVerify with
   | some d => Config.shake256 pk == d
   | none => false) &&
  Config.mldsaVerify pk (leOctets 8 (s.rd R.UID) ++ [4, 1] ++ leOctets 8 (s.rd R.LC_NONCE)) (b.take 3309) ""

/-- The status of a request, 0 when it runs. -/
def State.lcFault (s : State) (a b : Nat) : Nat :=
  let held (ks : List Nat) : Bool := ks.all s.keyHeld
  let allowed := (a == 0 && b == 1) || (a == 1 && b == 2 && held [1, 2, 3]) || (a == 2 && b == 3 && held [4]) || (a == 3 && b == 2) ||
    ((a == 2 || a == 3) && b == 4) || (a == 4 && b == 1) || (a != 5 && b == 5)
  firstOf [
    failIf (!allowed || s.rd R.LC_RECORDS_LEFT == 0 || (s.rd R.LC_RECORDS_LEFT == 1 && b != 5)) 9,
    failIf (a == 4 && b == 1 && !(s.unlocked)) 10]

/-- The attributes of the derived key-wrapping key (R321). -/
def nodeKwk : Nat := 2 * 2 ^ 60 + 2 ^ opWrap + 2 ^ opUnwrap + 2 ^ 47 + 2 ^ 44 + 2 ^ 45

/-- At entry to Provisioned slot 0 is derived. DEDUCED: log 79. -/
def deriveKwk : Act := .read fun s =>
  onlyIf (!(s.keyHeld 0 && s.anyKeyValid))
    (installKey 0 nodeKwk 0 (deriveValue s.eng.keys.rootKey ("NODE KWK".toList.map Char.toNat) 0 nodeKwk))

/-- The root key is burnt from the random source (R319). -/
def burnRoot : Act := takeRandom fun o => setKeys fun g => { g with rootKey := (o ++ List.replicate 32 0).take 32 }

/-- A request to state `b` is judged, and the transition runs (R327 to R329). -/
def lcRuns (b : Nat) : Act := .read fun s =>
  let a := s.rd R.LC_STATE
  let st := s.lcFault a b
  let slots := (s.objs.filter fun e => e.1.idx == 0x4000 && e.1.mem == 1).map fun e => e.1.inst
  let gone (k : Nat) : Bool := b == 5 || !(kScope (s.rd (R.K_ATTR k)) b) || (b == 4 && kOwner (s.rd (R.K_ATTR k)))
  acts [wr R.LC_REQUEST st,
    onlyIf (a == 4 && b == 1 && (st == 0 || st == 10)) (keyStarts 3),
    if st ≠ 0 then newNonce
    else acts [
      onlyIf (a == 0 && b == 1) burnRoot,
      forAll (slots.filter gone) zeroize,
      onlyIf (b == 4) (forAll s.usedNodes nodeRemove),
      onlyIf (b == 5) (wr R.LC_ROOT_KILLED 1),
      onlyIf (b == 2) deriveKwk,
      onlyIf (b == 3) (wr R.FX_PT_ALLOW 0),
      wr R.LC_STATE b, wr R.LIFECYCLE b, wr R.LC_RECORDS_LEFT (s.rd R.LC_RECORDS_LEFT - 1),
      raise 0x0C05 0 (a + b * 16), newNonce, pulse 9 2 0]]

/-- LC_REQUEST 1: its checks are a request of crypto queue 5 (Table KEYS-7). -/
def lcRequest : Act := .read fun s =>
  let b := s.rd R.LC_TARGET
  if s.eng.keys.cmd.isSome ∨ ((s.jobs 5).any fun j => j != .key) then acts [wr R.LC_REQUEST 1, newNonce]
  else .seq (wr R.LC_REQUEST 1) (askJob 5 (.life b) (lcRuns b) newNonce)

/-! ## The measurement report (R356, Table JOIN-9) -/

/-- The signed octets of a report. -/
def State.report (s : State) : List Nat :=
  let t := t112 s.devTime
  let words (r : Nat → Ref) (n : Nat) : List Nat := wordsToOctets ((List.range n).map fun k => s.word (r k))
  [1, s.rd R.LC_STATE, s.rd R.ROLE, 0] ++ leOctets 4 (s.rd R.PART) ++ leOctets 2 (s.rd R.SI_REV) ++ List.replicate 6 0 ++
    leOctets 8 (s.rd R.UID) ++ words R.AT_NONCE 4 ++
    leOctets 8 (t.getD 0 0) ++ leOctets 4 (t.getD 1 0 / 65536) ++ leOctets 2 (t.getD 1 0) ++ [0, 0] ++
    (List.range 6).flatMap (fun i => (partDigest s.runImage i ++ List.replicate 32 0).take 32) ++
    words R.CONFIG_HASH 4 ++ leOctets 8 (s.rd R.ACTIVE_MODES) ++ [s.rd R.RUN_BASE] ++ List.replicate 7 0

/-- AT_CMD 1. DEDUCED: log 88. -/
def atCommand : Act := .read fun s =>
  if s.rd R.UP_STATE = 6 then wr R.AT_STATUS 3
  else postJob 4 .attest (acts [wr R.AT_STATUS 1, setJoin fun g => { g with report := s.report }]) (wr R.AT_STATUS 3)

/-- AT_REPORT_READY: the signature is done; without slot 1 there is no report. DEDUCED: log 88. -/
def reportReady : Act := .read fun s => onlyIf ((s.jobs 4).contains .attest) (acts [endJob 4 .attest,
  withKey 1 opSign (fun k => acts [
      setJoin fun g => { g with report := g.report.take 312 ++ Config.mldsaSign k (g.report.take 312) "FOLORI ATTEST" },
      wr R.AT_STATUS 2, raise 0x0D06 0 0]) (wr R.AT_STATUS 0)])

/-- AT_DATA: report octets from AT_OFFSET. -/
def State.reportWord (s : State) (k : Nat) : Nat :=
  if s.rd R.AT_STATUS = 2 then le ((s.eng.join.report.drop (s.rd R.AT_OFFSET + 8 * k)).take 8) else 0

end Sys2Proof.Machine
end

