-- ==== Sys2Proof/Machine/Access.lean ====
section
/-! DEFINITION. The three ways to an object: items of a session, the aperture, and writes that a transaction stages
(03_object_dictionary.md R54 to R70, R554, R555; 04_transactions_configurations.md R91 to R97, R105;
16_backhaul_time.md R379; 23_ledger_faults_debug.md R523). -/

namespace Sys2Proof.Machine

open Sys2Proof

/-! ## What a read returns (R60, R379, Table DICT-9) -/

/-- The type and access codes of a descriptor. -/
def tyCode : Ty → Nat
  | .bool => 0
  | .u8 => 1
  | .u16 => 2
  | .u32 => 3
  | .u64 => 4
  | .s32 => 5
  | .s64 => 6
  | .enum => 7
  | .bits => 8
  | .time => 9
  | .eui => 10
  | .ipv6 => 11
  | .octets _ => 12

def clsCode : Cls → Nat
  | .ro => 0
  | .rw => 1
  | .wo => 2
  | .rc => 3
  | .cmd => 4
  | .txn => 5

/-- DESCRIBE: the descriptor of a member; the split of IRQ_PENDING and IRQ_ENABLE is that of IRQ_MODE (R462).
DESIGN CHOICE: log 24. -/
def State.describe (s : State) (x m : Nat) : Nat :=
  match family? x with
  | none => 0
  | some f => match rowOf? f m with
    | none => 0
    | some row =>
      tyCode row.ty * 2 ^ 56 + clsCode row.cls * 2 ^ 52 + row.priv * 2 ^ 50 + b2n (row.split && (!(x == 0x0301 || x == 0x0302) || s.rd R.IRQ_MODE == 0)) * 2 ^ 49 + b2n f.group * 2 ^ 48 +
        min 0xFFFF (f.hi - f.lo) * 2 ^ 32 + (match row.ty with
          | .octets n => n * 2 ^ 16
          | _ => 0) + ((f.rows.map fun r => r.cnt).foldl (· + ·) 0 - 1) * 256

/-- Word `k` of a list of numbers. -/
def nth (l : List Nat) (k : Nat) : Nat := (l[k]?).getD 0

/-- The value of a member at this moment. Most members are stored; some show what an engine holds. -/
def State.live (s : State) (r : Ref) : Nat :=
  match r.idx, r.mem with
  | 0x0060, m => s.describe r.inst m
  | 0x0240, 19 | 0x0240, 20 => if s.rd R.RTC_VALID = 1 then nth (t112 s.rtcTime) (r.mem - 19) else 0
  | 0x0304, 1 => s.claimValue r.inst
  | 0x0306, m => nth (evWords s.eng.irq.evLatch) m
  | 0x0390, 0 => s.popItem r.inst
  | 0x1030, 3 => ((s.groupPorts r.inst).map fun p => 2 ^ p).foldl (· + ·) 0
  | 0x1411, 4 => s.dgain r.inst
  | 0x1411, 5 => s.noiseFloor r.inst
  | 0x2000, 10 => s.tsAsn
  | 0x2301, 0 => s.psFree
  | 0x3000, 3 => s.ntFree
  | 0x2310, _ | 0x3100, _ => if s.nodeState r.inst = 0 then (if r.idx = 0x3100 ∧ r.mem = 18 then 0 else dflt r) else s.rd r
  | 0x4011, 2 => s.publicKey.length
  | 0x4011, m => if 3 ≤ m then le ((s.publicKey.drop (s.rd R.KP_OFFSET + 8 * (m - 3))).take 8) else s.rd r
  | 0x4320, m => if 7 ≤ m then s.reportWord (m - 7) else s.rd r
  | 0x5200, 0 | 0x5200, 1 => nth (t112 s.devTime) r.mem
  | 0x5201, 11 => s.holdAge
  | 0x5210, 0 => (s.tqWord r.inst).1
  | 0x5300, 11 => s.imageAge
  | 0x7000, m =>
    let c := s.ledger r.inst
    if m < 4 then nth [c.1, c.2.1, c.2.2.1, c.2.2.2] m else s.rd r
  | 0x7020, m => if 4 ≤ m ∧ m ≤ 35 then s.fdWord (m - 4) else s.rd r
  | x, _ => if 0x0310 ≤ x ∧ x ≤ 0x0317 then s.srcWord ((x - 0x0310) * 256 + r.inst) else s.rd r

/-- What a read does besides: it claims, pops, marks, or clears an RC member (R387, R444, R458, R465, R524, R334, R60). -/
def readEffect (row : Row) (r : Ref) : Act :=
  match r.idx, r.mem with
  | 0x0304, 1 => claim r.inst
  | 0x0306, _ => .skip
  | 0x0390, 0 => popFifo r.inst
  | 0x3100, 9 => leapNode r.inst
  | 0x4011, 3 => exportStarts
  | 0x5210, 0 => tqPop r.inst
  | 0x7010, 0 => .read fun s => onlyIf (bit? (s.rd r) 63) (wrBit r 62 true)
  | _, _ => onlyIf (row.cls == .rc) (wrs r (List.replicate row.width 0))

/-- What happens before a member is read: the head event, or the head's timestamp, moves to the latch, a counter leaps (R465, R387,
R334). -/
def readFirst (r : Ref) : Act :=
  if r.idx = 0x0306 ∧ r.mem = 0 then evPop else if r.idx = 0x3100 ∧ r.mem = 9 then leapNode r.inst
  else if r.idx = 0x5210 ∧ r.mem = 0 then .read fun s => wrTime (R.TQ_TIME r.inst 0) (s.tqWord r.inst).2 else .skip

/-- The members that a read of TQ_ENTRY or of EV_POP latches for the reading master (R387, R465). -/
def poppedWith (r : Ref) : Bool :=
  (r.idx == 0x0306 && decide (1 ≤ r.mem)) || (r.idx == 0x5210 && (r.mem == 1 || r.mem == 2))

/-- The member is the lowest of its value: reading it reads the object, the others show what it left. -/
def Row.lowest (row : Row) (r : Ref) : Bool := (r.mem - row.m0) % row.width == 0 && !(poppedWith r)

/-- The members that a read of the lowest one covers. -/
def Row.span (row : Row) (r : Ref) : Nat :=
  if r.idx = 0x0306 then 4 else if r.idx = 0x5210 ∧ r.mem = 0 then 3 else row.width

/-- The members after the lowest of a value are kept for the reading master (R68, R379). DEDUCED: log 26. -/
def latchRest (w : Who) (r : Ref) (width : Nat) : Act := .read fun s => setTxns fun g =>
  let mine (e : (Who × Ref) × Word) : Bool :=
    e.1.1 == w && e.1.2.idx == r.idx && e.1.2.inst == r.inst && decide (r.mem < e.1.2.mem ∧ e.1.2.mem < r.mem + width)
  let now := (List.range (width - 1)).map fun j =>
    let q : Ref := ⟨r.idx, r.inst, r.mem + 1 + j⟩
    ((w, q), BitVec.ofNat 64 (s.live q))
  { g with snaps := g.snaps.filter (fun e => !(mine e)) ++ now }

/-- A wide value of R379: a TIME112, or a count that spans two members. -/
def Row.wide (row : Row) : Bool := row.ty == .time || (row.cls == .rc && row.width == 2)

/-- One member is read. DEDUCED: log 25. -/
def readMember (w : Who) (r : Ref) (k : Word → Act) : Act := .read fun s =>
  match row? r with
  | none => k 0
  | some row =>
    if row.cls = .wo then k 0
    else if row.lowest r then
      acts [readFirst r, .read fun s => acts [
        onlyIf (decide (1 < row.span r)) (latchRest w r (row.span r)), readEffect row r, k (BitVec.ofNat 64 (s.live r))]]
    else match s.eng.txn.snaps.find? fun e => e.1.1 == w && e.1.2 == r with
      | some e => k e.2
      | none => if row.wide || poppedWith r then k 0 else k (BitVec.ofNat 64 (s.live r))

/-- Consecutive members are read in ascending order. -/
def readMembers (w : Who) (r : Ref) : Nat → (List Word → Act) → Act
  | 0, k => k []
  | n + 1, k => readMember w r fun v => readMembers w ⟨r.idx, r.inst, r.mem + 1⟩ n fun vs => k (v :: vs)

/-! ## Commands (R60) -/

/-- A_OPEN of a master (Table TXN-3). -/
def apOpen (m : Nat) : Act :=
  openTxn (.ap m) (fun h => acts [wr (R.A_BIND m) h, wr (R.A_OPEN m) h]) (wr (R.A_OPEN m) (stResource * 256))

/-- A_COMMIT of a master (Table TXN-3). DEDUCED: log 22. -/
def apCommit (m : Nat) : Act := .read fun s =>
  let h := s.rd (R.A_BIND m)
  if s.rd (R.T_STATE h) ≠ 1 ∨ h = 0 then wr (R.A_COMMIT m) stTxnUnknown
  else if bit? (s.rd (R.T_LINK h)) 11 then wr (R.A_COMMIT m) stAccess
  else acts [wr (R.A_COMMIT m) 0, unbindAll h, .read fun s =>
    commitTxn h (s.rd (R.A_INSTANT m)) (s.rd (R.A_ASN m) % 2 ^ 40) (s.rdTime (R.A_TIME m 0)) (.ap m)]

/-- A_ABORT of a master (Table TXN-3). DEDUCED: log 22. -/
def apAbort (m : Nat) : Act := .read fun s =>
  let h := s.rd (R.A_BIND m)
  if s.rd (R.T_STATE h) ≠ 1 ∨ h = 0 then wr (R.A_ABORT m) stTxnUnknown else acts [wr (R.A_ABORT m) 0, abortTxn h 4 none]

/-- A doorbell: ignored while its mailbox is BUSY (R73). DEDUCED: log 142. -/
def doorbell (i : Nat) : Act := .read fun s =>
  if s.rd (R.MBX_STATUS i) = 1 then inc R.BAD_MSG else acts [wr (R.MBX_STATUS i) 1, note (.mailbox i)]

/-- SN_CMD 1 to 3, NT_CMD 1 and 2, CA_CMD 1 to 5, PR_CMD 1 to 3 and UP_CMD 1 to 5. -/
def sleepyCommand (n v : Nat) : Act := if v = 1 then snLeave n else if v = 2 then snFreeFrames n else snResetEstimate n

def nodeCommand (n v : Nat) : Act := if v = 1 then nodeRemove n else nodeClear n

def campCommand (c : Nat) : Nat → Act
  | 1 => campStart c
  | 2 => campPause c
  | 3 => campResume c
  | 4 => campAbort c
  | _ => campRelease c

def pairCommand : Nat → Act
  | 1 => prImage
  | 2 => prYield
  | _ => prCancel

def updateCommand : Nat → Act
  | 1 => upVerify
  | 2 => upArm
  | 3 => upDisarm
  | 4 => upDiscard
  | _ => upConfirm

/-- Later accesses of a released master go on (R525). -/
def resumeAll (l : List (Nat × Bool × Ref × Nat × Word)) : Act := forAll l fun a => note (.access a.1 a.2.1 a.2.2.1 a.2.2.2.1 a.2.2.2.2)

/-- The tamper inputs' levels that a BK_TAMPER_CLR finds: given from outside, or open. DESIGN CHOICE: log 132. -/
def clearTamper : Option Nat → Act
  | some high => tamperClear high
  | none => takeFree tamperClear

/-- A command of a checked value starts. `x` holds the tamper inputs' levels where the outside gives them. -/
def command (w : Who) (x : Option Nat) (r : Ref) (v : Nat) : Act := .read fun s =>
  let i := r.inst
  match r.idx, r.mem with
  | 0x0021, _ => closeSession i 1 none
  | 0x0030, _ => doorbell i
  | 0x0101, 0 => apOpen i
  | 0x0101, 6 => apCommit i
  | 0x0101, _ => apAbort i
  | 0x0111, _ => modeApply
  | 0x0112, _ => slotErase i
  | 0x0113, 34 => slotWrite v
  | 0x0113, _ => slotSeal (s.whoPriv w)
  | 0x0201, 0 => resetRequest v
  | 0x0201, _ => resetRelease v
  | 0x0203, _ => wdKick i
  | 0x0220, _ => enterHold
  | 0x0230, 34 => btWrite v
  | 0x0230, _ => btDone v
  | 0x0240, 18 => clearTamper x
  | 0x0240, _ => if v = 1 then rtcSet else rtcInvalid
  | 0x02F0, _ => legacyReset
  | 0x0320, _ => timerCmd i
  | 0x0391, 3 => abortPacket i
  | 0x0393, _ => ringStart i
  | 0x1000, _ => txUnlock i
  | 0x2310, _ => sleepyCommand i v
  | 0x3001, _ => createCommand i
  | 0x3100, _ => nodeCommand i v
  | 0x4000, _ => zeroize i
  | 0x4010, 38 => keyWrite v
  | 0x4010, _ => keyCommand v
  | 0x4020, _ => lcRequest
  | 0x4301, 33 => statementWrite v
  | 0x4301, _ => statementSeal v
  | 0x4310, 37 => issuerWrite i v
  | 0x4310, _ => issuerSeal i
  | 0x4320, _ => atCommand
  | 0x4400, 38 => imageWrite i v
  | 0x4400, 39 => imageSeal i
  | 0x4400, _ => imageErase i
  | 0x4410, _ => campCommand i v
  | 0x5002, _ => mdioStart v
  | 0x5200, _ => if v = 1 then tuStep else tuSet
  | 0x5300, _ => pairCommand v
  | 0x5310, _ => witCmd
  | 0x6000, 34 => upWrite v
  | 0x6000, _ => updateCommand v
  | 0x7011, _ => vrRelease v resumeAll
  | 0x7020, 1 => fatalError 6 v
  | 0x7020, _ => fdErase v
  | 0x7F00, 2 => fuseBurn
  | 0x7F00, _ => if v = 1 then rawRead else rawWrite
  | _, _ => .skip

/-- A crypto queue is full (R336). -/
def State.queueFull (s : State) (c : Nat) : Bool := decide (4096 ≤ (s.jobs c).length)

/-- The owning block cannot take the command now: the access ends BUSY (R269, R336, R371). -/
def State.cmdBusy (s : State) (r : Ref) (v : Nat) : Bool :=
  match r.idx, r.mem with
  | 0x3001, 3 => (aget s.eng.nodes.creates r.inst).isSome
  | 0x5002, 1 => s.eng.time.mdio.isSome
  | 0x4320, 4 => s.rd R.AT_STATUS == 1
  | 0x4400, 39 => s.queueFull 4
  | 0x6000, 36 => v == 1 && [1, 3, 4].contains (s.rd R.UP_STATE) && s.queueFull 4
  | _, _ => false

/-- A command reaches its block, unless that is held in reset (ISOERR, R487) or busy; the member then reads its status, unless its chapter
gives it another value (R60). DEDUCED: log 27. -/
def startCommand (w : Who) (x : Option Nat) (r : Ref) (v : Nat) (k : Nat → Act) : Act := .read fun s =>
  if !(s.ownerUp r) then acts [inc (R.BL_ISO_ERR ((blockOf r).getD 0)), wr r stBusy, k stBusy]
  else if s.cmdBusy r v then acts [onlyIf (r.idx == 0x4400 || r.idx == 0x6000) (command w x r v), wr r stBusy, k stBusy]
  else acts [wr r 0, command w x r v, k 0]

/-- The commands of an item start one after the other; the first status that is not OK is the item's. DEDUCED: log 18. -/
def startCommands (w : Who) (x : Option Nat) : List (Ref × Nat) → Nat → (Nat → Act) → Act
  | [], st, k => k st
  | c :: rest, st, k => startCommand w x c.1 c.2 fun st' => startCommands w x rest (if st = 0 then st' else st) k

/-! ## Direct writes (R97) -/

/-- The object instances of a target. -/
def Target.objects (t : Target) : List (Nat × Nat) := t.insts.map fun i => (t.fam.idx, i)

/-- The commands a checked item names, and the items it stores. -/
def cmdsOf (t : Target) (vs : List (Row × Nat × List Word)) : List (Ref × Nat) :=
  t.insts.flatMap fun i => (vs.filter fun v => v.1.cls == .cmd).map fun v => (⟨t.fam.idx, i, v.2.1⟩, (v.2.2.headD 0).toNat)

/-- A write outside any transaction: it waits for its locks, is judged under them, and applies at once. A command writes no value: it
advances no commit sequence (R102). DEDUCED: log 18, 23. -/
def directWrite (w : Who) (x : Option Nat) (it : Item) (wait : Act) (k : Nat → Act) : Act := .read fun s =>
  match s.address w it true with
  | .inl st => k st
  | .inr t =>
    if (locksFor t.objects).any (s.locked 0) then wait
    else match s.checkWrite w false it with
      | .inl st => k st
      | .inr (t, vs) =>
        let items := stagedOf it.op t (vs.filter fun v => v.1.cls != .cmd)
        match s.reserveFault 0 items s.devTime with
        | some (st, _) => k st
        | none => acts [
            onlyIf (!(items.isEmpty)) (acts [markCommit t.objects, storeItems items]),
            startCommands w x (cmdsOf t vs) 0 k]

/-! ## Staging (R91, R93 to R95) -/

/-- An item is staged in a transaction. DEDUCED: log 42. -/
def stageWrite (w : Who) (h : Nat) (it : Item) (k : Nat → Act) : Act := .read fun s =>
  match s.txn? h with
  | none => k stTxnUnknown
  | some y =>
    if y.who ≠ w then k stTxnUnknown
    else if s.rd (R.T_STATE h) ≠ 1 then k stAccess
    else match s.checkWrite w true it with
      | .inl st => k st
      | .inr (t, vs) =>
        let items := stageOver y.items (stagedOf it.op t vs)
        let n := (objectsOf items).length
        if 256 < n then k stResource
        else acts [putTxn h { y with items := items, touched := s.now }, wr (R.T_OBJECTS h) n, k 0]

/-! ## The aperture (R65 to R70, R93) -/

/-- The aperture address of a member or of one of its aliases. -/
def apAddress (r : Ref) (op : Nat) : Nat :=
  0x4000000000 + r.idx * 0x100000 + r.inst * 0x1000 + r.mem * 8 + (if op = 1 then 0x800 else if op = 2 then 0xC00 else 0)

/-- The member, and the alias, that an aperture address names. -/
def apDecode (addr : Nat) : Ref × Nat :=
  let a := addr - 0x4000000000
  let off := a % 0x1000
  let at_ (o : Nat) : Ref := ⟨a / 0x100000, a / 0x1000 % 256, o / 8⟩
  if off < 0x800 then (at_ off, 0) else if off < 0xC00 then (at_ (off - 0x800), 1) else (at_ (off - 0xC00), 2)

/-- An access that reaches no member (R66). -/
def apError (w : Who) (addr st : Nat) : Act := acts [inc R.APERTURE_ERR, raise 0x0005 0 addr, answer w st []]

/-- The member an aperture access reaches, with its row; none is R66. -/
def State.apTarget (s : State) (m : Nat) (r : Ref) (write : Bool) : Option (Row × Ref) :=
  if 0x8000 ≤ r.idx ∨ 256 ≤ r.inst then none
  else
    let r? := if r.idx = 0x3009 then s.windowTarget r else some r
    match r? with
    | none => none
    | some q => match family? q.idx with
      | none => none
      | some f => match s.instances (.ap m) f q.inst write (r.idx == 0x3009), rowOf? f q.mem with
        | some [_], some row => some (row, q)
        | _, _ => none

/-- An access ends with a status: a privilege failure and an access of a master that is not the right one are violations, a wrong
address is R66, any other failure is an error response (R69, R523, R555). DEDUCED: log 19. -/
def apEnds (m : Nat) (write : Bool) (r : Ref) (op st : Nat) : Act := .read fun s =>
  let bad (kind : Nat) : Act := acts [violate m kind (b2n write) (apAddress r op) [], onlyIf (m == 16) (answer (.ap m) st [])]
  if st = 0 then answer (.ap m) 0 []
  else if st = stPrivilege then bad kindPrivilege
  else if st = stAccess ∧ s.notItsMaster (.ap m) r write then bad kindProtocol
  else if st ≤ stMember then apError (.ap m) (apAddress r op) st
  else answer (.ap m) st []

/-- A write of a master outside any transaction; the push members of a FIFO answer for themselves (R445, R446). -/
def apDirect (m : Nat) (x : Option Nat) (it : Item) (wait : Act) (k : Nat → Act) : Act := .read fun s =>
  if it.ref.idx = 0x0391 ∧ it.ref.mem ≤ 2 then
    match s.address (.ap m) it true with
    | .inl st => k st
    | .inr t =>
      if (locksFor t.objects).any (s.locked 0) then wait
      else match s.checkWrite (.ap m) false it with
        | .inl st => k st
        | .inr (t, _) => acts [
            onlyIf (it.ref.mem != 0) (markCommit t.objects),
            if it.ref.mem = 2 then endPacket (.ap m) it.ref.inst (it.vals.headD 0).toNat
            else pushItem (.ap m) it.ref.inst it.ref.mem (it.vals.headD 0).toNat]
  else directWrite (.ap m) x it wait k

/-- A whole value is written: staged while the master is bound, except in its own 0x0101 instance (R93). -/
def apWhole (m : Nat) (x : Option Nat) (r : Ref) (op : Nat) (it : Item) : Act := .read fun s =>
  let h := s.rd (R.A_BIND m)
  if m < 18 ∧ h ≠ 0 ∧ r.idx ≠ 0x0101 then stageWrite (.ap m) h it (apEnds m true r op)
  else apDirect m x it (addWait (.item (.ap m) it)) (apEnds m true r op)

/-- The words of a sequence that a master has written so far. -/
def State.seqWord (s : State) (m : Nat) (r : Ref) : Option Word := aget s.eng.txn.seqs (m, r)

/-- A write of one member of a longer value, other than its highest: the word waits for the rest (R68). -/
def apPart (m : Nat) (r q : Ref) (row : Row) (v : Word) : Act := .read fun s =>
  let staged := decide (m < 18) && s.rd (R.A_BIND m) != 0 && r.idx != 0x0101
  let st := firstOf [s.writeClass (.ap m) staged 0 row q v.toNat, s.writeRights (s.whoPriv (.ap m)) row q v.toNat,
    s.writeLife (s.whoPriv (.ap m)) q, failIf (!staged && row.cls == .txn) stNeedTxn]
  acts [
    onlyIf (st == 0) (setTxns fun g => { g with seqs := g.seqs.filter (fun e => e.1 != (m, q)) ++ [((m, q), v)] }),
    apEnds m true r 0 st]

/-- The agent of an index: one for each owner of Table SCOPE-4. DEDUCED: log 170. -/
def agentOf (idx : Nat) : Nat :=
  ([0x100, 0x200, 0x300, 0x1000, 0x1400, 0x1600, 0x2000, 0x2300, 0x2400, 0x3000, 0x3400, 0x4000, 0x4300, 0x4400, 0x5000, 0x5300, 0x5400,
    0x6000, 0x7000, 0x7F00].filter fun b => decide (b ≤ idx)).length

/-- The members that earlier writes of a master are still to reach: they wait for a lock, hold their handshake, or are behind one that
does. -/
def State.unwritten (s : State) (m : Nat) : List Ref :=
  (s.eng.txn.waits.flatMap fun w => match w.what with
    | .item who it => if who = .ap m then (it.mems it.ref.mem).map fun j => ⟨it.ref.idx, it.ref.inst, j⟩ else []
    | _ => []) ++
  (s.eng.host.inp.filterMap fun e => e.2.held.bind fun h => if h.who = .ap m then some ⟨0x0391, e.1, h.mem⟩ else none) ++
  (s.eng.txn.behind.filterMap fun b => if b.m = m ∧ b.write then some b.ref else none)

/-- R70: an access of a master comes behind earlier writes of it: to the same agent for a write, to the same member for a read.
DEDUCED: log 170. -/
def State.comesBehind (s : State) (m : Nat) (write : Bool) (r : Ref) : Bool :=
  (s.unwritten m).any fun q => if write then agentOf q.idx == agentOf r.idx else q == r

/-- An aperture master that a reset holds makes no access (R45, R476): a core, the SM core, the PCIe host, or the debug module. -/
def State.masterUp (s : State) (m : Nat) : Bool :=
  if m < 16 then !(s.coreHeld (m / 2)) && s.blockUp 0
  else if m = 17 then s.blockUp 14
  else s.eng.rst.stage != 1 && (m != 16 || s.eng.rst.stage != 3 || fld (s.rd R.STRAPS) 5 4 != 3)

/-- An access is held behind earlier ones of its master. -/
def holdAccess (m : Nat) (write : Bool) (r : Ref) (op : Nat) (v : Word) : Act := .read fun s =>
  setTxns fun g => { g with behind := g.behind ++ [⟨m, write, r, op, v, s.now⟩] }

/-- A 64-bit write in the aperture. DEDUCED: log 20. -/
def apWrite (m : Nat) (x : Option Nat) (r : Ref) (op : Nat) (v : Word) : Act := .read fun s =>
  if !(s.masterUp m) then .skip
  else if s.frozen m then setFlt fun g => { g with waiting := g.waiting ++ [(m, true, r, op, v)] }
  else if s.comesBehind m true r then holdAccess m true r op v
  else match s.apTarget m r true with
    | none => apError (.ap m) (apAddress r op) stMember
    | some (row, q) =>
      let pos := (q.mem - row.m0) % row.width
      let low (j : Nat) : Ref := ⟨q.idx, q.inst, q.mem - pos + j⟩
      let before := (List.range pos).map fun j => s.seqWord m (low j)
      if op ≠ 0 ∧ !(s.splitNow row q) then apError (.ap m) (apAddress r op) stMember
      else if row.width ≤ 1 then apWhole m x r op ⟨r, 1, op, [v]⟩
      else if before.any (·.isNone) then answer (.ap m) stMember []
      else if pos + 1 < row.width then apPart m r q row v
      else acts [
        setTxns fun g => { g with seqs := g.seqs.filter fun e => !(e.1.1 == m && (List.range pos).any fun j => low j == e.1.2) },
        apWhole m x r 0 ⟨⟨r.idx, r.inst, r.mem - pos⟩, row.width, 0, before.map (·.getD 0) ++ [v]⟩]

/-- A 64-bit read in the aperture: of a member, or of an alias. -/
def apRead (m : Nat) (r : Ref) (op : Nat) : Act := .read fun s =>
  if !(s.masterUp m) then .skip
  else if s.frozen m then setFlt fun g => { g with waiting := g.waiting ++ [(m, false, r, op, 0)] }
  else if s.comesBehind m false r then holdAccess m false r op 0
  else match s.apTarget m r false with
    | none => apError (.ap m) (apAddress r op) stMember
    | some (row, q) =>
      if op ≠ 0 ∧ !(s.splitNow row q) then apError (.ap m) (apAddress r op) stMember
      else match s.checkRead (.ap m) ⟨r, 1, 0, []⟩ with
        | .inl st => apEnds m false r op st
        | .inr _ => readMember (.ap m) q fun v => answer (.ap m) 0 [v]

/-- A waiting access of a released master, or one of the debug module, goes on. -/
def apAccess (m : Nat) (write : Bool) (r : Ref) (op : Nat) (v : Word) : Act :=
  if write then apWrite m none r op v else apRead m r op

/-- The accesses held behind another from a place of their list on have been held since `u`. -/
def stampHeld (n u : Nat) : Act := setTxns fun g =>
  { g with behind := g.behind.take n ++ (g.behind.drop n).map fun b => { b with since := u } }

/-- An aperture access that its agent has not completed within 2^20 SCLK cycles (R64). -/
def State.accessLate (s : State) (since : Nat) : Bool := decide (since + 2 ^ 20 ≤ s.now)

/-- Accesses that were held go on as far as nothing is before them any more (R70); one that is too late ends with an error response
(R64). -/
def resumeHeld : Act := .read fun s => acts [setTxns fun g => { g with behind := [] },
  forAll s.eng.txn.behind fun b =>
    if s.accessLate b.since then answer (.ap b.m) stBusy []
    else .read fun s1 => acts [apAccess b.m b.write b.ref b.op b.val, stampHeld s1.eng.txn.behind.length b.since]]

/-- An access that names no 64-bit aligned member (R66): nothing for one that does. -/
def apBad (m addr size : Nat) (write : Bool) : Act := .read fun s =>
  let d := apDecode addr
  let inside := decide (0x4000000000 ≤ addr) && decide (addr < 0x4800000000)
  let good := size == 8 && addr % 8 == 0 && (match s.apTarget m d.1 write with
    | some (row, q) => d.2 == 0 || s.splitNow row q
    | none => false)
  onlyIf (inside && !good && !(s.frozen m) && s.masterUp m) (apError (.ap m) addr stMember)

/-! ## The address space behind the debug module and the cores (R435, R534) -/

/-- One word of the address space of Table CPU-2 outside the aperture is read or written. DESIGN CHOICE: log 135. -/
def busAccess (m addr : Nat) (write : Bool) (v : Nat) : Act := .read fun s =>
  let bad := violate m kindWindow (b2n write) addr []
  let dram := addr - 0x8000000000
  if s.frozen m ∨ !(s.masterUp m) then .skip
  else if 0x20000000 ≤ addr ∧ addr ≤ 0x20000FFF then
    (if write then acts [setRst fun g => { g with sram := g.sram.set (addr / 8) v }, answer (.ap m) 0 []]
     else answer (.ap m) 0 [BitVec.ofNat 64 (s.eng.rst.sram.at (addr / 8) 0)])
  else if 0x10000000000 ≤ addr ∧ addr ≤ 0x1FFFFFFFFFF then
    let a := (s.rd R.PCI_OUT_BASE + (addr - 0x10000000000)) % 2 ^ 64
    (if write then acts [emit (.bus a (some v)), answer (.ap m) 0 []]
     else acts [emit (.bus a none), hostWords 1 fun ws => answer (.ap m) 0 (ws.map fun x => BitVec.ofNat 64 x)])
  else if 0x8000000000 ≤ addr ∧ dram < s.rd R.MC_CAPACITY then
    (if s.coreDram dram then
      if write then acts [setRst fun g => { g with dram := g.dram.set (dram / 8) v }, answer (.ap m) 0 []]
      else answer (.ap m) 0 [BitVec.ofNat 64 (s.eng.rst.dram.at (dram / 8) 0)]
    else if !write ∧ 0x80000000 ≤ dram ∧ dram < 0x90000000 then
      let o := dram - 0x80000000
      answer (.ap m) 0 [BitVec.ofNat 64 (((s.eng.flt.slots.at (o / 0x4000000) [])[o % 0x4000000 / 8]?).getD 0)]
    else bad)
  else bad

/-- An access of the debug module (R534, Table FAULT-2): to the aperture with Administrator rights, or to the rest of the address
space as a core in machine mode. -/
def debugAccess (addr : Nat) (write : Bool) (v : Word) : Act := .read fun s =>
  if !(s.debugOpen 0) then .skip
  else if addr % 8 ≠ 0 then apBad 18 addr 8 write
  else if 0x4000000000 ≤ addr ∧ addr < 0x4800000000 then
    let d := apDecode addr
    apAccess 18 write d.1 d.2 v
  else busAccess 18 addr write v.toNat

/-! ## Writes of one member -/

/-- The write of one item ends with a status. -/
def itemEnds (w : Who) (it : Item) (st : Nat) : Act :=
  match w with
  | .ap m => apEnds m true it.ref it.op st
  | _ => answer w st []

/-- How a master reaches a member: a member of the node table through the lowest window that names its node (R57, R293).
DESIGN CHOICE: log 17. -/
def State.viaWindow (s : State) (r : Ref) : Ref :=
  match family? r.idx with
  | some f =>
    if f.scope = .node then
      match (List.range 32).find? fun k => s.rd (R.NW_FAMILY k) == r.idx && s.rd (R.NW_NODE k) == r.inst with
      | some k => ⟨0x3009, k, r.mem⟩
      | none => r
    else r
  | none => r

/-- A master writes one member in the aperture, or an open session writes it with an item of its own. `x` is as for `command`.
DESIGN CHOICE: log 16. -/
def writeMember (w : Who) (x : Option Nat) (r : Ref) (v : Word) : Act := .read fun s =>
  let it : Item := ⟨r, 1, 0, [v]⟩
  match w with
  | .ap m => apWrite m x (s.viaWindow r) 0 v
  | .ddp k => onlyIf (s.rd (R.S_STATE k) == 2) (directWrite w x it (addWait (.item w it)) (itemEnds w it))
  | .dev => .skip

/-! ## Locks that are granted, or not (R97, R99, R101) -/

/-- A direct write that waited goes on. -/
def itemGoesOn (who : Who) (it : Item) (wait : Act) : Act :=
  match who with
  | .ap m => apDirect m none it wait (itemEnds who it)
  | _ => directWrite who none it wait (itemEnds who it)

/-- Of what waits now, what waited before stands first, in its order and with its old instant; a commit's wait is for its present lock. -/
def keptWaits (old new : List LockWait) : List LockWait :=
  let again (w : LockWait) : Option LockWait := (new.find? fun y => y.what == w.what).map fun y => match w.what with
    | .commit _ => y
    | _ => w
  old.filterMap again ++ new.filter fun y => !(old.any fun w => w.what == y.what)

/-- Waits fail with TIMEOUT, those of sessions under `fail`. -/
def waitsFail (fail : DdpRun → Act) (ws : List LockWait) : Act := .read fun s => forAll ws fun w => acts [dropWait w.what,
  match w.what with
  | .item who it => acts [inc R.LOCK_TIMEOUTS, itemEnds who it stTimeout]
  | .run r => acts [inc R.LOCK_TIMEOUTS, fail r]
  | .commit h => match s.txn? h with
    | some x => abortTxn h 3 (((s.lockPrefix h (locksFor (objectsOf x.items))).2).map fun o => ⟨o.1, o.2, 0⟩)
    | none => .skip]

/-- TXN_LOCK_GRANTED: what waits goes on, in the order in which it began to wait; what has waited more than 10 µs fails instead
(R97, R99). Requests of sessions go on under `run`, and fail under `fail`. Whatever still waits for the same lock has waited for it since
it began to. -/
def lockGranted (run fail : DdpRun → Act) : Act := .read fun s => acts [
  waitsFail fail (s.eng.txn.waits.filter fun w => decide (w.since + 10000 < s.now)),
  .read fun s => acts [
    forAll s.eng.txn.waits fun w => match w.what with
      | .item who it => acts [dropWait w.what, itemGoesOn who it (addWait w.what)]
      | .run r => acts [dropWait w.what, run r]
      | .commit h => commitStep h,
    setTxns fun g => { g with waits := keptWaits s.eng.txn.waits g.waits }]]

/-- TXN_LOCK_TIMEOUT: what has waited 10 µs fails. -/
def lockTimeout (fail : DdpRun → Act) : Act := .read fun s =>
  waitsFail fail (s.eng.txn.waits.filter fun w => decide (w.since + 10000 ≤ s.now))

/-- AGENT_ACCESS_TIMEOUT (R64): what `w` has had under way for 2^20 cycles, or over DDP for 10 ms, ends with an error response or BUSY
and has no effect. With nothing held, an access that the agent never took ends so. DEDUCED: log 41. -/
def agentTimeout (w : Who) (fail : DdpRun → Act) : Act := .read fun s =>
  let limit := if isDdp w then 10000000 else 2 ^ 20
  let ovr := s.eng.txn.waits.filter fun x => decide (x.since + limit ≤ s.now) && match x.what with
    | .item who _ => who == w
    | .run r => w == .ddp r.slot
    | .commit _ => false
  let pushes := s.eng.host.inp.filter fun e => match e.2.held with
    | some h => h.who == w && decide (h.since + limit ≤ s.now)
    | none => false
  let behind := s.eng.txn.behind.filter fun b => w == .ap b.m && s.accessLate b.since
  if ovr.isEmpty ∧ pushes.isEmpty ∧ behind.isEmpty then answer w stBusy []
  else acts [
    forAll ovr fun x => acts [dropWait x.what, match x.what with
      | .item who it => itemEnds who it stBusy
      | .run r => fail r
      | .commit _ => .skip],
    forAll pushes fun e => acts [setHost fun g => { g with inp := g.inp.set e.1 { e.2 with held := none } }, answer w stBusy []],
    setTxns fun g => { g with behind := g.behind.filter fun b => !(behind.contains b) }, forAll behind fun _ => answer w stBusy []]

end Sys2Proof.Machine
end

