-- ==== Sys2Proof/Machine/Ddp.lean ====
section
/-! DEFINITION. The Darod Dictionary Protocol: messages, sessions, sequencing and requests (03_object_dictionary.md R71 to R89). -/

namespace Sys2Proof

open Machine

/-! ## Messages (R74, Table DICT-3) -/

def DdpMsg.w0 (m : DdpMsg) : Nat := (m.words.getD 0 0).toNat
def DdpMsg.w1 (m : DdpMsg) : Nat := (m.words.getD 1 0).toNat
def DdpMsg.type (m : DdpMsg) : Nat := fld m.w0 63 56
def DdpMsg.flags (m : DdpMsg) : Nat := fld m.w0 55 48
def DdpMsg.session (m : DdpMsg) : Nat := fld m.w0 47 32
def DdpMsg.seq (m : DdpMsg) : Nat := fld m.w0 31 0
def DdpMsg.txn (m : DdpMsg) : Nat := fld m.w1 31 24
def DdpMsg.payload (m : DdpMsg) : List Word := m.words.drop 2

/-- Header and payload agree. -/
def DdpMsg.parses (m : DdpMsg) : Bool := decide (2 ≤ m.words.length) && fld m.w1 63 48 == 8 * m.payload.length

/-- The octets of a message on its transport; a MIC follows where PROT is set. -/
def DdpMsg.size (m : DdpMsg) : Nat := 8 * m.words.length + (if bit? m.flags 5 then 16 else 0)

end Sys2Proof

namespace Sys2Proof.Machine

open Sys2Proof

/-! ## Types and limits (R71, R76, Table DICT-4) -/




/-- The largest message of a transport (R71). -/
def sizeLimit (transport : Nat) : Nat := if transport = 1 then 4096 else 1232

abbrev tyHello := 0x01
abbrev tyAuth := 0x03
abbrev tyClose := 0x05
abbrev tyKeepalive := 0x08
abbrev tyRead := 0x10
abbrev tyWrite := 0x12
abbrev tySet := 0x14
abbrev tyClear := 0x15
abbrev tyOpen := 0x20
abbrev tyCommit := 0x22
abbrev tyAbort := 0x24
abbrev tySubscribe := 0x30
abbrev tyError := 0x7F

/-- The message types a manager sends. -/
def managerTypes : List Nat := [tyHello, tyAuth, tyClose, tyKeepalive, tyRead, tyWrite, tySet, tyClear, tyOpen, tyCommit, tyAbort, tySubscribe]

/-- The type is one of the version's (R76, R81, R88). -/
def typeIn (version type : Nat) : Bool :=
  [tyClose, tyKeepalive, tyRead, tyWrite].contains type ||
    (version / 16 == 3 && ([tyOpen, tyCommit, tyAbort, tySubscribe].contains type ||
      ([tySet, tyClear].contains type && decide (1 ≤ version % 16))))

/-- An answer outside the sequencing of a session: to a HELLO, or an ERROR. -/
def reply (m : DdpMsg) (slot : Nat) (ws : List Word) : Act := acts [emit (.ddp slot ws),
  if m.transport = 1 then mailboxDone m.bind ws else .skip]

/-- ERROR with a status (Table DICT-4). -/
def replyError (m : DdpMsg) (status : Nat) : Act := reply m 64 (ddpWords tyError 128 m.session m.seq status (fld m.w1 39 32) 0 [])

/-! ## HELLO (R77, R80, R81, R83) -/

/-- The version one offer byte yields. -/
def versionOf (b : Nat) : Option Nat :=
  if b / 16 = 3 then some (0x30 + min (b % 16) 2)
  else if b / 16 = 2 ∧ 3 ≤ b % 16 then some (0x20 + min (b % 16) 4) else none

/-- The version of an offer word: that of its first entry that yields one (R81). -/
def chooseVersion (offer : Nat) : Option Nat :=
  [fld offer 31 24, fld offer 23 16, fld offer 15 8, fld offer 7 0].findSome? versionOf

/-- A manager key: an ACTIVE slot of type MANAGER that allows DDP_AUTH (R82). -/
def State.managerKey (s : State) (k : Nat) : Bool := s.keyServes k opAuth

/-- The privilege a HELLO is granted (R73, R83). DEDUCED: log 39. -/
def State.grantedPriv (s : State) (transport version key want : Nat) : Nat :=
  let most := if transport = 1 then s.rd R.PCIE_PRIV else if key = 0xFFFF then 0 else fld (s.rd (R.K_ATTR key)) 39 38
  let cap := if transport = 2 then s.rd R.MESH_PRIV_MAX else 3
  let old := if version / 16 = 2 then s.rd R.LEGACY_PRIV_MAX else 3
  let life := if s.rd R.LC_STATE ≤ 1 then 3 else 2
  min (min want most) (min cap (min old life))

/-- The block that carries a transport: the Ethernet MACs, the PCIe endpoint, the forwarding pipelines. While it is held no message
comes through it: after a boot that a reserved BOOT_SRC stops, none at all (R45). -/
def transportBlock (transport : Nat) : Nat := if transport = 0 then 12 else if transport = 1 then 14 else 10

/-- A message on a transport that is open (R71, and R392 for a port that carries no frames); clearing MESH_EN leaves the sessions that are open (R90). -/
def State.transportOpen (s : State) (m : DdpMsg) : Bool := s.blockUp (transportBlock m.transport) &&
  if m.transport = 0 then bit? (s.rd R.UDP_EN) m.eth && s.backhaulOn m.eth
  else if m.transport = 2 then s.rd R.MESH_EN == 1 || (List.range 64).any fun k =>
    s.rd (R.S_STATE k) != 0 && s.rd (R.S_TRANSPORT k) == 2 && s.rd (R.S_ID k) == m.session
  else true

/-- A manager key slot is locked out: for 60 s (R84). -/
def State.lockedOut (s : State) (key : Nat) : Bool := match aget s.eng.txn.shut key with
  | some u => decide (s.now < u + 60000000000)
  | none => false

/-- Why a HELLO is refused, 0 if it is accepted: its version, then its key, then a slot and credits. DEDUCED: log 30. -/
def State.helloFault (s : State) (m : DdpMsg) (version : Option Nat) (key credits : Nat) : Nat :=
  let anon := key == 0xFFFF
  let keyOk := if m.transport = 1 then anon else if anon then s.rd R.ANON_OBSERVER == 1 && m.transport == 0 else s.managerKey key
  firstOf [failIf (version.isNone || (version.getD 0 / 16 == 2 && s.rd R.LEGACY_EN == 0)) stVersion,
    failIf (s.lockedOut key || !keyOk) stAuthFail,
    failIf (credits == 0 || (List.range 64).all fun k => s.rd (R.S_STATE k) != 0) stResource]

/-- HELLO. -/
def hello? (m : DdpMsg) : Act := .read fun s =>
  if m.payload.length ≠ 4 then inc R.BAD_MSG
  else
    let p (k : Nat) : Nat := (m.payload.getD k 0).toNat
    let version := chooseVersion (p 2)
    let key := fld (p 3) 63 48
    let credits := min (min (fld (p 3) 7 0) (s.rd R.CREDITS)) (1024 - s.sessionCredits)
    let fault := s.helloFault m version key credits
    let k := ((List.range 64).find? fun k => s.rd (R.S_STATE k) == 0).getD 0
    let v := version.getD 0
    let id := s.eng.txn.lastSid % 65534 + 1
    let priv := s.grantedPriv m.transport v key (fld (p 3) 41 40)
    let opens := decide (m.transport = 1 ∨ key = 0xFFFF)
    if fault ≠ 0 then replyError m fault
    else takeRandom fun o =>
      let nonce := (octetsToWords ((o ++ List.replicate 16 0).take 16)).take 2
      let ack := ddpWords 0x02 128 id m.seq 0 v 0
        (nonce ++ [BitVec.ofNat 64 (priv * 2 ^ 40 + s.rd R.KEEPALIVE * 2 ^ 8 + credits)])
      acts [
        wr (R.S_STATE k) (if opens then 2 else 1), wr (R.S_ID k) id, wr (R.S_TRANSPORT k) m.transport, wr (R.S_VERSION k) v,
        wr (R.S_PRIV k) priv, wr (R.S_KEY k) key, wr (R.S_CREDITS k) credits,
        wr (R.S_PEER k 0) m.peerHi.toNat, wr (R.S_PEER k 1) m.peerLo.toNat, wr (R.S_BIND k) m.bind, wr (R.S_REQUESTS k) 0,
        setTxns fun g => { g with lastSid := id },
        setSess k ⟨1, [], [], [], [], 0, 0, s.now, s.now, m.words, ack, [], 0, none, []⟩,
        reply m k ack, onlyIf opens (raise 0x0001 k k)]

/-! ## AUTH (R82, R84) -/

/-- Failures on a key slot within 60 s count; the eighth locks the slot out. DEDUCED: log 32. -/
def authFailure (key : Nat) : Act := .read fun s =>
  let recent := (s.eng.txn.fails.at key []).filter fun u => decide (s.now < u + 60000000000)
  acts [inc R.AUTH_FAILS, setTxns fun g => { g with fails := g.fails.set key (recent ++ [s.now]) },
    onlyIf (decide (7 ≤ recent.length)) (acts [
      setTxns fun g => { g with
        fails := g.fails.clear key
        shut := g.shut.set key s.now },
      raise 0x0004 0 key])]

/-- The session key (R82): over the manager's nonce, the device's and SESSION. DEDUCED: log 168. -/
def Sess.newKey (q : Sess) (k : List Nat) (id : Nat) : List Nat :=
  Config.kmac256 k (wordsToOctets ((q.hello.drop 2).take 2 ++ (q.helloAck.drop 2).take 2) ++ leOctets 2 id) 128 "DDP3 session"

/-- AUTH in an OFFERED session, within 2 s of its HELLO_ACK (R84). -/
def auth (k : Nat) (m : DdpMsg) : Act := .read fun s =>
  match aget s.eng.sess k with
  | none => .skip
  | some q =>
    let key := s.rd (R.S_KEY k)
    let heard := wordsToOctets (q.hello ++ q.helloAck)
    let fails := acts [authFailure key, replyError m stAuthFail, freeSession k, raise 0x0003 k key]
    if q.offered + 2000000000 < s.now then acts [freeSession k, raise 0x0003 k key]
    else if m.payload.length ≠ 2 then inc R.BAD_MSG
    else withKey key opAuth (fun v =>
      if Config.kmac256 v heard 128 "DDP3 manager" = wordsToOctets m.payload then
        let tag := octetsToWords (Config.kmac256 v (heard ++ wordsToOctets m.words) 128 "DDP3 device")
        acts [wr (R.S_STATE k) 2, setSess k { q with
            heard := s.now
            key := q.newKey v (s.rd (R.S_ID k)) },
          reply m k (ddpWords 0x04 128 (s.rd (R.S_ID k)) m.seq 0 (s.rd (R.S_VERSION k)) 0 tag), raise 0x0001 k k]
      else fails) fails

/-- AUTH_TIMEOUT. -/
def authTimeout (k : Nat) : Act := .read fun s =>
  match aget s.eng.sess k with
  | none => .skip
  | some q => onlyIf (s.rd (R.S_STATE k) == 1 && decide (q.offered + 2000000000 ≤ s.now))
      (acts [freeSession k, raise 0x0003 k (s.rd (R.S_KEY k))])

/-- AUTH_LOCKOUT_END. -/
def lockoutEnd (key : Nat) : Act := .read fun s =>
  match aget s.eng.txn.shut key with
  | none => .skip
  | some u => onlyIf (decide (u + 60000000000 ≤ s.now)) (setTxns fun g => { g with shut := g.shut.clear key })

/-- The keepalive period a session was granted, in SCLK cycles (R77, R90). -/
def Sess.period (q : Sess) : Nat := fld (q.helloAck.getD 4 0).toNat 39 8 * 1000000

/-- KEEPALIVE_TIMEOUT. -/
def keepaliveTimeout (k : Nat) : Act := .read fun s =>
  match aget s.eng.sess k with
  | none => .skip
  | some q => onlyIf (decide (q.heard + 3 * q.period ≤ s.now)) (closeSession k 2 none)

/-! ## Items (R78, R79, R88) -/

/-- The item a ref word names in a version, without its words. DESIGN CHOICE: log 154. -/
def itemIn (version : Nat) (w : Word) (op : Nat) : Item :=
  let x := w.toNat
  if version / 16 = 2 then
    let i := fld x 47 32
    ⟨⟨fld x 63 48, if i = 0xFFFF then 0xFFFFFF else i, fld x 31 24⟩, if fld x 23 16 = 0 then 256 else fld x 23 16, op, []⟩
  else itemOf w op []

/-- A ref word with its status. -/
def echo (w : Word) (st : Nat) : Word := BitVec.ofNat 64 (setFld w.toNat 7 0 st)

/-- The items of a WRITE, SET_BITS or CLEAR_BITS payload; none when it does not parse. -/
def writeItemsOf (version op : Nat) : Nat → List Word → Option (List (Word × Item))
  | _, [] => some []
  | 0, _ => none
  | fuel + 1, w :: rest =>
    let it := itemIn version w op
    if rest.length < it.count then none
    else (writeItemsOf version op fuel (rest.drop it.count)).map fun l => (w, { it with vals := rest.take it.count }) :: l

/-- The items of a READ payload. -/
def readItemsOf (version : Nat) (ws : List Word) : List (Word × Item) := ws.map fun w => (w, itemIn version w 0)

/-- A request of a session executes its items in payload order; one that waits for a lock goes on later. -/
def runItems (r : DdpRun) : Nat → Act
  | 0 => respond r.slot r.seq (if r.type = tyRead then 0x11 else 0x13) 0 0 r.done
  | n + 1 => match r.items with
    | [] => respond r.slot r.seq (if r.type = tyRead then 0x11 else 0x13) 0 0 r.done
    | (w, it) :: rest =>
      let next (ws : List Word) : Act := runItems { r with items := rest, done := r.done ++ ws } n
      if r.type = tyRead then .read fun s => match s.checkRead (.ddp r.slot) it with
        | .inl st => next [echo w st]
        | .inr t => readMembers (.ddp r.slot) ⟨t.fam.idx, t.insts.headD 0, t.mem⟩ it.count fun vs => next (echo w 0 :: vs)
      else directWrite (.ddp r.slot) none it (addWait (.run r)) fun st => next [echo w st]

/-- A request goes on. -/
def runOn (r : DdpRun) : Act := runItems r (r.items.length + 1)

/-- A request whose first item fails with a status: it waited 10 µs for a lock, or 10 ms for its agent (R97, R64). -/
def runFail (st : Nat) (r : DdpRun) : Act :=
  match r.items with
  | [] => runOn r
  | (w, _) :: rest => runOn { r with items := rest, done := r.done ++ [echo w st] }

/-- The items of a request that names a transaction are staged in it. DEDUCED: log 42. -/
def stageItems (k seq h : Nat) : List (Word × Item) → List Word → Act
  | [], out => respond k seq 0x13 0 h out
  | (w, it) :: rest, out => stageWrite (.ddp k) h it fun st => stageItems k seq h rest (out ++ [echo w st])

/-- The items of an ATOMIC request are staged in its implicit transaction, which then commits. -/
def stageAll (k h : Nat) (ok : Act) : List (Word × Item) → Act
  | [] => ok
  | (_, it) :: rest => stageWrite (.ddp k) h it fun st => if st = 0 then stageAll k h ok rest else abortWith h 4 st none

/-- ATOMIC: the items are staged in an implicit transaction, which commits IMMEDIATE or, where an item fails, aborts; all
items apply, or none and every item carries the abort status (R79, R104). DEDUCED: log 36, 141. -/
def atomicWrite (k seq : Nat) (items : List (Word × Item)) : Act :=
  openTxn (.ddp k) (fun h => .read fun s => match s.txn? h with
      | none => .skip
      | some x => acts [putTxn h { x with resp := .atomic k seq (items.map (·.1)) },
          stageAll k h (commitTxn h 0 0 0 (.atomic k seq (items.map (·.1)))) items])
    (respond k seq 0x13 0 0 (items.map fun p => echo p.1 stResource))

/-- The object instances that items of a READ name. -/
def State.readObjects (s : State) (w : Who) (items : List (Word × Item)) : List (Nat × Nat) :=
  sortPairs (items.flatMap fun p => match s.checkRead w p.2 with
    | .inl _ => []
    | .inr t => t.objects)

/-- An ATOMIC READ: an implicit transaction wraps its items, under the limit of R95 on its objects. It commits, and every item is read; or
it aborts, nothing is read, and every item carries the abort status (R79, R104). DEDUCED: log 36. -/
def atomicRead (k seq : Nat) (items : List (Word × Item)) : Act :=
  let no (st : Nat) : Act := respond k seq 0x11 0 0 (items.map fun p => echo p.1 st)
  openTxn (.ddp k) (fun h => .read fun s =>
      let st := firstOf (items.map (fun p => match s.checkRead (.ddp k) p.2 with
        | .inl st => st
        | .inr _ => 0) ++ [failIf (decide (256 < (s.readObjects (.ddp k) items).length)) stResource])
      if st = 0 then acts [commitTxn h 0 0 0 .none, runOn ⟨k, seq, tyRead, items, []⟩]
      else acts [abortWith h (if st = stResource then 2 else 4) st none, no st])
    (no stResource)

/-! ## Requests (R76, R77, R79) -/

/-- TXN_COMMIT and TXN_ABORT of a session. -/
def ddpCommit (k seq : Nat) (m : DdpMsg) : Act := .read fun s =>
  let h := m.txn
  let no (st : Nat) : Act := respond k seq 0x23 st h [0, 0]
  let p (j : Nat) : Nat := (m.payload.getD j 0).toNat
  match s.txn? h with
  | none => no stTxnUnknown
  | some x =>
    if x.who ≠ .ddp k then no stTxnUnknown
    else if s.rd (R.T_STATE h) ≠ 1 ∨ bit? (s.rd (R.T_LINK h)) 11 then no stAccess
    else acts [updSess k fun q => { q with waiting := q.waiting ++ [(seq, h)] },
      commitTxn h (fld (p 0) 7 0) (fld (p 1) 39 0) (ofT112 (p 2) (p 3)) (.commit k seq)]

def ddpAbort (k seq : Nat) (m : DdpMsg) : Act := .read fun s =>
  let h := m.txn
  let no (st : Nat) : Act := respond k seq 0x25 st h []
  match s.txn? h with
  | none => no stTxnUnknown
  | some x =>
    if x.who ≠ .ddp k then no stTxnUnknown
    else if 3 ≤ s.rd (R.T_STATE h) ∧ bit? (s.rd (R.T_LINK h)) 11 then no stAccess
    else acts [abortTxn h 4 none, no 0]

/-- The operation of a writing type. -/
def opOf (type : Nat) : Nat := if type = tySet then 1 else if type = tyClear then 2 else 0

/-- The payload of a request parses (R76). -/
def bodyOk (m : DdpMsg) (version : Nat) : Bool :=
  let n := m.payload.length
  if m.type = tyCommit then n == 4
  else if m.type = tySubscribe then decide (n ≤ 16)
  else if m.type = tyWrite ∨ m.type = tySet ∨ m.type = tyClear then (writeItemsOf version 0 n m.payload).isSome
  else m.type == tyRead || n == 0

/-- The octets of a READ_RSP: an item that fails has no values in it (R78). -/
def readSize (k : Nat) (items : List (Word × Item)) (s : State) : Nat :=
  16 + 8 * (items.map fun p => match s.checkRead (.ddp k) p.2 with
    | .inl _ => 1
    | .inr _ => 1 + p.2.count).foldl (· + ·) 0 + (if bit? (s.ddpFlags k true) 5 then 16 else 0)

/-- Why a message in an open session is no request of its version, 0 if it is one (R71, R76). -/
def requestFault (version : Nat) (m : DdpMsg) : Nat :=
  firstOf [failIf (decide (sizeLimit m.transport < m.size)) stTooBig,
    failIf (!m.parses || !(typeIn version m.type) || fld m.flags 4 0 != 0 || bit? m.flags 7 || (bit? m.flags 6 && version != 0x32) ||
      !(bodyOk m version)) stBadMessage]

/-- One request executes. DEDUCED: log 33, 34. DESIGN CHOICE: log 206. -/
def execute (k : Nat) (m : DdpMsg) : Act := .read fun s =>
  let v := s.rd (R.S_VERSION k)
  let items := (writeItemsOf v (opOf m.type) m.payload.length m.payload).getD []
  let reads := readItemsOf v m.payload
  if requestFault v m ≠ 0 then respond k m.seq tyError (requestFault v m) 0 []
  else if m.type = tyClose then closeSession k 0 (some m.seq)
  else if m.type = tyKeepalive then respond k m.seq 0x09 0 0 []
  else if m.type = tyOpen then openTxn (.ddp k) (fun h => respond k m.seq 0x21 0 h [BitVec.ofNat 64 h])
    (respond k m.seq 0x21 stResource 0 [0])
  else if m.type = tyCommit then ddpCommit k m.seq m
  else if m.type = tyAbort then ddpAbort k m.seq m
  else if m.type = tySubscribe then acts [
    updSess k fun q => { q with filters := m.payload.map fun w => (fld w.toNat 63 48, fld w.toNat 47 32) },
    respond k m.seq 0x31 0 0 []]
  else if m.type = tyRead then
    (if sizeLimit (s.rd (R.S_TRANSPORT k)) < readSize k reads s then respond k m.seq tyError stTooBig 0 []
    else if bit? m.flags 6 then atomicRead k m.seq reads
    else runOn ⟨k, m.seq, tyRead, reads, []⟩)
  else if m.txn ≠ 0 then stageItems k m.seq m.txn items []
  else if bit? m.flags 6 then atomicWrite k m.seq items
  else runOn ⟨k, m.seq, m.type, items, []⟩

/-- Requests that have arrived execute in SEQ order, as far as none before them waits (R86). DEDUCED: log 35. -/
def serve (k : Nat) : Nat → Act
  | 0 => .skip
  | n + 1 => .read fun s => match aget s.eng.sess k with
    | none => .skip
    | some q =>
      match q.held.find? fun h => h.1 == q.nextSeq with
      | none => .skip
      | some (n0, m) =>
        if s.itemWaits k ∨ s.rd (R.S_STATE k) ≠ 2 then .skip
        else acts [
          setSess k { q with
            nextSeq := n0 + 1
            held := q.held.filter fun h => h.1 != n0 },
          inc (R.S_REQUESTS k), execute k m, onlyIf (n0 == 0xFFFFFFFF) (closeSession k 3 none), serve k n]

/-- The requests a session can serve now. -/
def serveAll (k : Nat) : Act := serve k 33

/-- A request that waited goes on, and those behind it follow. -/
def resumeRun (r : DdpRun) : Act := acts [runOn r, serveAll r.slot]
def failRun (st : Nat) (r : DdpRun) : Act := acts [runFail st r, serveAll r.slot]

/-! ## Arrival (R72, R75, R76, R86) -/

/-- A request of an open session by its SEQ. DEDUCED: log 34. -/
def sequenced (k : Nat) (m : DdpMsg) : Act := .read fun s =>
  match aget s.eng.sess k with
  | none => .skip
  | some q =>
    let c := s.rd (R.S_CREDITS k)
    if q.nextSeq ≤ m.seq ∧ m.seq < q.nextSeq + c then
      acts [onlyIf (!(q.held.any fun h => h.1 == m.seq)) (setSess k { q with held := q.held ++ [(m.seq, m)] }), serveAll k]
    else match q.cache.find? fun e => e.1 == m.seq with
      | some e => acts [emit (.ddp k e.2), if m.transport = 1 then mailboxDone m.bind e.2 else .skip]
      | none => inc R.SEQ_DROP

/-- A message of an open session in the clear: opened under the session key where its transport asks for protection; none when it is not
protected as it should be, or its MIC is wrong (R75). DEDUCED: log 29. -/
def State.openMsg (s : State) (k : Nat) (m : DdpMsg) : Option DdpMsg :=
  if m.transport = 1 ∨ s.rd (R.S_KEY k) = 0xFFFF then (if bit? m.flags 5 then none else some m)
  else if bit? m.flags 5 then
    (Config.ccmOpen (s.sessKey k) (ddpNonce m.session 0 m.seq) (wordsToOctets (m.words.take 2)) (wordsToOctets m.payload ++ m.mic)
      16).map fun o => { m with words := m.words.take 2 ++ octetsToWords o }
  else none

/-- A message in an open session. DEDUCED: log 33, 34. -/
def inSession (k : Nat) (m : DdpMsg) : Act := .read fun s => acts [updSess k fun q => { q with heard := s.now }, sequenced k m]

/-- A message of an open session is opened and acted on; one whose MIC fails is dropped (R75). -/
def openIn (k : Nat) (m : DdpMsg) : Act := .read fun s =>
  onlyIf (s.rd (R.S_STATE k) == 2 && s.rd (R.S_ID k) == m.session) (match s.openMsg k m with
    | some m' => inSession k m'
    | none => inc R.INTEGRITY_DROP)

/-- A message arrives. A request that finds queue 2 full is dropped, and its manager sends it again.
DEDUCED: log 38. DESIGN CHOICE: log 207. -/
def ddpRx (m : DdpMsg) : Act := .read fun s =>
  let k? := (List.range 64).find? fun k => s.rd (R.S_STATE k) != 0 && s.rd (R.S_ID k) == m.session
  let bound (k : Nat) : Bool := s.rd (R.S_TRANSPORT k) == m.transport && s.rd (R.S_BIND k) == m.bind &&
    (m.transport != 0 || (s.word (R.S_PEER k 0) == m.peerHi && s.word (R.S_PEER k 1) == m.peerLo))
  if !(s.transportOpen m) then .skip
  else if m.words.length < 2 then inc R.BAD_MSG
  else if m.session = 0 then
    if m.parses && m.type == tyHello && m.flags == 0 && m.size ≤ sizeLimit m.transport then hello? m else inc R.BAD_MSG
  else match k? with
    | none => if m.parses then replyError m stNoSession else inc R.BAD_MSG
    | some k =>
      if !(bound k) then inc R.INTEGRITY_DROP
      else .seq (keepaliveTimeout k) (.read fun s => match s.rd (R.S_STATE k) with
        | 1 => if m.parses ∧ m.type = tyAuth then auth k m else inc R.BAD_MSG
        | 2 => if bit? m.flags 5 then askJob 2 (.ddpIn k m) (openIn k m) .skip else openIn k m
        | _ => onlyIf (!m.parses) (inc R.BAD_MSG))

/-- A message of a type arrives; a type that no row of the table names comes with any of them. -/
def ddpRow (type : Nat) (m : DdpMsg) : Act :=
  if m.type ≠ type ∧ managerTypes.contains m.type then .skip else ddpRx m

/-! ## Mailboxes (R73) -/

/-- The message of a doorbell is read from host memory and processed; an exchange that draws no response ends DONE. A
commit that is to apply later draws its response later, and does not hold the mailbox: its owner may still abort it.
DEDUCED: log 39. DESIGN CHOICE: log 208. -/
def mailboxTake (i : Nat) : Act := .read fun s =>
  if s.eng.host.busBad then acts [wr (R.MBX_STATUS i) 3, setHost fun g => { g with busBad := false }]
  else hostWords (cdiv (s.rd (R.MBX_REQ_LEN i)) 8) fun ws => acts [
    ddpRx ⟨1, 0, 0, i, 0, ws.map fun x => BitVec.ofNat 64 x, []⟩,
    .read fun s =>
      let waits := (List.range 64).any fun k =>
        s.rd (R.S_STATE k) != 0 && s.rd (R.S_TRANSPORT k) == 1 && s.rd (R.S_BIND k) == i && s.waitsForLock k
      onlyIf (s.rd (R.MBX_STATUS i) == 1 && !waits) (mailboxDone i [])]

/-! ## Events toward sessions (R87) -/

/-- DDP_EVENT_SEND. -/
def eventSend (k : Nat) : Act := .read fun s =>
  match aget s.eng.sess k with
  | none => .skip
  | some q =>
    let box := s.rd (R.S_BIND k)
    let mailbox := s.rd (R.S_TRANSPORT k) == 1
    match q.evq with
    | [] => .skip
    | e :: rest =>
      if s.rd (R.S_STATE k) ≠ 2 ∨ (mailbox ∧ s.rd (R.MBX_STATUS box) = 1) then .skip
      else
        let ws := sealDdp q.key 2 (ddpWords 0x32 (s.ddpFlags k false) (s.rd (R.S_ID k)) (q.evSeq + 1) 0 (s.rd (R.S_VERSION k)) 0
          ((evWords { e with lost := min q.evLost 0xFFFF }).map fun x => BitVec.ofNat 64 x))
        acts [setSess k { q with
            evq := rest
            evSeq := q.evSeq + 1
            evLost := 0 },
          sendSealed k ws, if mailbox then mailboxDone box ws else .skip]

/-! ## Crypto requests (R335) -/

/-- A crypto engine completes the request at its turn (CRYPTO_OP_DONE): a verification of an update goes on to its copy in flash
(R504). -/
def cryptoDone : Act := serveJob fun c j => match j with
  | .key => keyDone
  | .join id => verifyDone id
  | .attest => reportReady
  | .image k => imageSealDone k
  | .update => endJob c j
  | .life b => .seq (endJob c j) (lcRuns b)
  | .ddpIn k m => .seq (endJob c j) (openIn k m)
  | .ddpOut k ws => .seq (endJob c j) (emit (.ddp k ws))
  | .accept id n fresh => .seq (endJob c j) (acceptJoin id n fresh)
  | .resume eui seg path b => .seq (endJob c j) (judgeResume eui seg path b)
  | .resumed eui seg b rs path n => .seq (endJob c j) (acceptResume eui seg b rs path n)

/-! ## Locks -/

/-- TXN_LOCK_GRANTED and TXN_LOCK_TIMEOUT. -/
def locksGranted : Act := lockGranted resumeRun (failRun stTimeout)
def locksTimeout : Act := lockTimeout (failRun stTimeout)

/-- AGENT_ACCESS_TIMEOUT. -/
def accessTimeout (w : Who) : Act := agentTimeout w (failRun stBusy)

end Sys2Proof.Machine
end

