-- ==== Sys2Proof/Machine/Pcie.lean ====
section
/-! DEFINITION. The PCIe endpoint's events (19_processors_memory.md R450; 21_reset_clocks_power.md Table RESET-1). -/

namespace Sys2Proof.Machine

open Sys2Proof

/-- The PCIe link comes up with a width and a rate in GT/s, or goes down. DEDUCED: log 107. -/
def pcieLink (up : Bool) (width rate : Nat) : Act := .read fun s =>
  let x := s.eng.pcie
  if up ∧ (x.perst ∨ s.blockUp 14 = false) then .skip
  else if up = x.up ∧ (¬ up ∨ (width = x.width ∧ rate = x.rate)) then .skip
  else acts [
    eng fun e => { e with pcie := { x with
      up := up
      width := if up then width else 0
      rate := if up then rate else 0 } },
    onlyIf (!up) stopRings,
    raise 0x0386 0 (if up then 1 + width % 16 * 256 + rate % 32 * 65536 else 0)]

/-- PCIE_FLR: a function-level reset, a pulse (R477). -/
def pcieFlr : Act := pulse 12 1 14

/-- PERST_N falls: the endpoint is held. DEDUCED: log 107. -/
def perstLow : Act := .read fun s => onlyIf (!s.eng.pcie.perst) (acts [
  pcieLink false 0 0,
  eng fun e => { e with pcie := { e.pcie with perst := true } },
  assertSrc ⟨11, 1, 14, none, false⟩])

/-- PERST_N rises: the endpoint is released and its link may train. -/
def perstHigh : Act := .read fun s => onlyIf s.eng.pcie.perst (acts [
  eng fun e => { e with pcie := { e.pcie with perst := false } },
  releaseSrcs fun x => x.cause == 11])

end Sys2Proof.Machine
end

