-- ==== Sys2Proof/Machine/Drain.lean ====
section
/-! DEFINITION. The signals that the engines leave for each other during a command, and what each of them does. -/

namespace Sys2Proof.Machine

open Sys2Proof

/-- A PARTITION arrives (R430): one IMMEDIATE transaction of the SM core. DEDUCED: log 49. -/
def partitionRx (p : FabPkt) : Act :=
  let d := p.src
  let gone := if p.arg % 256 < 8 then some (p.arg % 256) else none
  let put (r : Ref) (v : Nat) : Staged := ⟨r, 0, BitVec.ofNat 64 v⟩
  let items := (match gone with
    | some v => if v = d then [] else [put (R.PT_BASE v) 0, put (R.PT_LIMIT v) 0]
    | none => []) ++ [put (R.PT_BASE d) (p.payload.getD 0 0), put (R.PT_LIMIT d) (p.payload.getD 1 0)]
  openTxn .dev (fun h => .read fun s => match s.txn? h with
      | none => .skip
      | some x => acts [putTxn h { x with items := items, resp := .partition d gone },
          wr (R.T_OBJECTS h) (objectsOf items).length, commitTxn h 0 0 0 (.partition d gone)])
    (raise 0x1105 0 (d + 2 * 256))

/-- A packet for this device (Table FAB-4). -/
def fabRx (l : Nat) (p : FabPkt) : Act :=
  match p.type with
  | 0x01 => prepareRx l p
  | 0x02 => commitRx p
  | 0x03 => abortRx p
  | 0x04 => queryRx l p
  | 0x10 | 0x11 | 0x12 | 0x13 => whenUp 10 (nodeRequest l p)
  | 0x14 => partitionRx p
  | 0x15 => fabTopoRx l p.arg
  | 0x20 => whenUp 11 (frameRx p)
  | 0x30 => moorHeader p
  | 0x31 => moorData p
  | 0x32 => moorEnd l p
  | 0x33 => timeSyncRx p
  | 0x34 => timeReqRx l p
  | 0x35 => pairStatusRx p
  | _ => .skip

/-- A response of type `p.type` to a request of type `type` that its asker numbered `info`. -/
def fabResponse (p : FabPkt) (type info : Nat) : Act :=
  match type with
  | 0x01 => if p.type = 0x81 then preparedBy info p.src else peerAborts info (causeStatus (fld p.arg 15 8))
  | 0x04 => outcomeAnswered info p.arg
  | 0x10 => claimAnswered info p.src p.arg
  | 0x12 => lookupAnswered info p.src p.arg
  | 0x32 => imageAck p.arg
  | 0x34 => timeResp p
  | _ => .skip

/-- A request of ours that no device answers (R421). DEDUCED: log 44. -/
def fabLost (type dst info : Nat) : Act :=
  match type with
  | 0x01 => peerAborts info stTimeout
  | 0x10 => retryCreate info dst
  | 0x12 => lookupAnswered info dst 0
  | _ => .skip

/-- A transmit request ended: its owner hears of it. -/
def sendEnded (r : TxReq) (st : Nat) : Act := acts [airEnded r st,
  match r.owner with
  | .ack => ackEnded r st
  | .sleepy => snEnded r st
  | _ => attEnded r st,
  campSettle r.port]

/-- A port entered KEYED: its owner hears of it. -/
def sendKeyed (r : TxReq) : Act :=
  match r.owner with
  | .ack => ackKeyed r
  | .sleepy => snKeyed r
  | _ => .read fun s => acts [
      match (s.att? r.id).bind fun x => x.pkt with
      | some i => campKeyed r.port i r.t0
      | none => .skip,
      attKeyed r]

/-- One signal is acted on. -/
def heed : Note → Act
  | .txEnd r st => sendEnded r st
  | .keyed r => sendKeyed r
  | .portUp _ | .portDown _ => .skip
  | .ackSof req sof => ackSofNoted req sof
  | .fabRx l p => fabRx l p
  | .fabRsp p type info => fabResponse p type info
  | .fabGone type dst info => fabLost type dst info
  | .ethSent e ts fin => ethStamp e ts fin
  | .joinRx r f o => joinRx r f o
  | .created _ result => joinCreated result
  | .airKeyed req ts u => airStamp req ts u
  | .airLost ts => airLost ts
  | .breach l p => violate (19 + l) kindProtocol 3 (fabWord0 p) [p]
  | .nodeGone n => acts [snGone n, campForget n]
  | .campLeft i => campLeft i
  | .snEnd => snEndNoted
  | .keyChanged k => statementKey k
  | .mailbox i => mailboxTake i
  | .access m write r op v => apAccess m write r op v

/-- The signals left are acted on in order, and those that this leaves in turn. -/
def drainIn : Nat → Act
  | 0 => .skip
  | n + 1 => .read fun s => match s.eng.notes with
    | [] => .skip
    | x :: rest => acts [eng fun e => { e with notes := rest }, heed x, drainIn n]

/-- All signals of a command. DESIGN CHOICE: log 14. -/
def drain : Act := drainIn 4096

/-- What every command does: resets whose instant is over assert (R479), steps of keyed frames that are due come (Table PORT-7), each
with what follows; then its own effect, and what follows from it. DESIGN CHOICE: log 163. -/
def work (a : Act) : Act := acts [assertDue, keyStepsDue, drain, a, drain, resumeHeld, drain]

end Sys2Proof.Machine
end

