-- ==== Sys2Proof/WellFormed.lean ====
section
/-! DEFINITION. Which commands are well formed: the instances the device has, by family of the dictionary or by engine. -/

namespace Sys2Proof

/-- The write bit of MD_CMD (R371). -/
def mdioWrites (v : Word) : Bool := v.getLsbD 62

def portOk (p : Nat) : Bool := decide (p < 24)
def tileOk (t : Nat) : Bool := decide (t < 4)
def laneOk (l : Nat) : Bool := decide (l < 2048)
/-- LDPC decoders and combine groups (R183, R186). -/
def decoderOk (d : Nat) : Bool := decide (d < 32)
def dlGroupOk (g : Nat) : Bool := decide (g < 4096)
def sessOk (k : Nat) : Bool := decide (k < 64)
def txnOk (h : Nat) : Bool := decide (1 ≤ h) && decide (h ≤ 64)
def keyOk (k : Nat) : Bool := decide (k < 4096)
def nodeOk (n : Nat) : Bool := decide (1 ≤ n) && decide (n < 2 ^ 23)
def createOk (k : Nat) : Bool := decide (k < 16)
def pipeOk (k : Nat) : Bool := decide (k < 4)
/-- Ethernet ports with MGMT (4), and those without. -/
def ethOk (e : Nat) : Bool := decide (e < 5)
def portEthOk (e : Nat) : Bool := decide (e < 4)
def queueOk (q : Nat) : Bool := decide (q < 4096)
/-- Host FIFOs of one direction, and rings of both. -/
def fifoOk (f : Nat) : Bool := decide (f < 32)
def ringOk (i : Nat) : Bool := decide (i < 64)
def linkOk (l : Nat) : Bool := decide (l < 6)
def imageOk (k : Nat) : Bool := decide (k < 64)
def campOk (c : Nat) : Bool := decide (c < 4)
/-- The units a witness watches: 0 A, 1 B. -/
def unitOk (x : Nat) : Bool := decide (x < 2)
def arbOk (k : Nat) : Bool := decide (k < 8)
/-- Interrupt sources with a hardware edge (Table IRQ-1). -/
def edgeOk (src : Nat) : Bool := (decide (32 ≤ src) && decide (src ≤ 52)) || (decide (64 ≤ src) && decide (src ≤ 195))
/-- Critical interrupt sources with a level (Table IRQ-1). -/
def critOk (src : Nat) : Bool := decide (1 ≤ src) && decide (src ≤ 31)
def timerOk (k : Nat) : Bool := decide (k < 64)
def coreOk (c : Nat) : Bool := decide (c < 8)
def resetBlockOk (b : Nat) : Bool := decide (b < 17)
def domainOk (d : Nat) : Bool := decide (d < 14)
def hartOk (h : Nat) : Bool := decide (h < 10)
def pinsOk (p : Nat) : Bool := decide (p < 2 ^ 12)
/-- The fatal causes (Table FAULT-4). -/
def causeOk (c : Nat) : Bool := decide (1 ≤ c) && decide (c ≤ 6)
/-- The installed GiB of DRAM (R438). -/
def capOk (g : Nat) : Bool := decide (8 ≤ g) && decide (g ≤ 64)
/-- The aperture masters (Table FAULT-2). -/
def masterOk (m : Nat) : Bool := decide (m < 19)
def octets (l : List Nat) : Bool := l.all fun o => decide (o < 256)
def words (l : List Nat) : Bool := l.all fun w => decide (w < 2 ^ 64)

/-- Who may send an access: an aperture master or a session slot. -/
def whoOk : Who → Bool
  | .ap m => masterOk m
  | .ddp k => sessOk k
  | .dev => false

/-- A DDP message of the UDP or the mesh transport. Those of a mailbox come with its doorbell (R73). -/
def msgOk (m : DdpMsg) : Bool := (m.transport == 0 && ethOk m.eth) || m.transport == 2

/-- The operands name instances that the device has, and octets and words hold what fits into them. DESIGN CHOICE: log 4. -/
def wellFormed : Instr → Bool
  | .objectWrite _ w _ _ => whoOk w
  | .setAliasWrite _ m _ _ => masterOk m
  | .clearAliasWrite _ m _ _ => masterOk m
  | .apertureError _ m _ _ _ => masterOk m
  | .agentAccessTimeout _ w => whoOk w
  | .wideValueRead _ m _ => masterOk m
  | .hello _ msg => msgOk msg
  | .auth _ msg => msgOk msg
  | .authTimeout _ k => sessOk k
  | .authLockoutEnd _ key => keyOk key
  | .close _ msg => msgOk msg
  | .keepalive _ msg => msgOk msg
  | .keepaliveTimeout _ k => sessOk k
  | .sessionCloseComplete _ k => sessOk k
  | .sKill _ w _ => whoOk w
  | .read _ msg => msgOk msg
  | .write _ msg => msgOk msg
  | .setBits _ msg => msgOk msg
  | .clearBits _ msg => msgOk msg
  | .txnOpen _ msg => msgOk msg
  | .txnCommit _ msg => msgOk msg
  | .txnAbort _ msg => msgOk msg
  | .subscribe _ msg => msgOk msg
  | .ddpEventSend _ k => sessOk k
  | .mbxDoorbell _ w _ _ _ _ => whoOk w
  | .aOpen _ m => masterOk m
  | .aBind _ m _ => masterOk m
  | .aCommit _ m => masterOk m
  | .aAbort _ m => masterOk m
  | .tLinkWrite _ w _ _ => whoOk w
  | .txnLockTimeout _ => true
  | .txnLockGranted _ => true
  | .txnApply _ h => txnOk h
  | .txnIdleTimeout _ => true
  | .txnOutcomeQueryTimer _ h => txnOk h
  | .txnOutcomeTimeout _ h => txnOk h
  | .wWrite _ w _ => whoOk w
  | .wSeal _ w => whoOk w
  | .slErase _ w _ => whoOk w
  | .modeApply _ w => whoOk w
  | .tileTimedCommand _ p _ _ => portOk p
  | .rxBlockCrcFail _ p => portOk p
  | .txBlockCrcFail _ p => portOk p
  | .pEnable _ w _ _ => whoOk w
  | .rxSynthUnlock _ p => portOk p
  | .portStarted _ p _ => portOk p
  | .tsCalibrationDone _ p _ => portOk p
  | .tsCalibrationFail _ p => portOk p
  | .coexGrantSample _ p _ _ => portOk p
  | .keyingStart _ p _ => portOk p
  | .txFrameEnd _ p => portOk p
  | .coexGrantWithdrawn _ tile _ _ => tileOk tile
  | .maskViolation _ p _ _ _ => portOk p
  | .pTxUnlock _ w _ => whoOk w
  | .agcBreak _ p clipped => portOk p && decide (clipped ≤ 128)
  | .agcSettlingEnd _ p _ => portOk p
  | .lnaBypassChange _ p _ => portOk p
  | .wakePatternAccepted _ _ delimiter word => decide (word < 2 ^ 32) && decide (delimiter < 2 ^ 8)
  | .laneBindCell _ p => portOk p
  | .laneUnbind _ p => portOk p
  | .preambleDetect _ l _ _ _ => laneOk l
  | .preambleCapture _ l _ => laneOk l
  | .syncMiss _ l => laneOk l
  | .sfdDetect _ l _ _ _ _ => laneOk l
  | .phrReceived _ l _ _ _ _ _ => laneOk l
  | .rxFrameEnd _ l psdu _ => laneOk l && octets psdu
  | .edDetectorFree _ p => portOk p
  | .edResult _ _ _ => true
  | .dlHeaderDecode _ l _ => laneOk l
  | .dlCopyCombine _ => true
  | .dlDecodeGrant _ => true
  | .dlDecodeEnd _ d => decoderOk d
  | .dlGroupExpire _ g => dlGroupOk g
  | .tsRun _ w _ => whoOk w
  | .txDecision _ p => portOk p
  | .txRetuneInstant _ p => portOk p
  | .ackWaitBind _ p => portOk p
  | .ackTimeout _ p => portOk p
  | .rxRecord _ tile _ _ => tileOk tile
  | .dlSurplusReport _ => true
  | .ebPeriod _ p => portOk p
  | .wheelBucket _ => true
  | .snFollowOn _ n => nodeOk n
  | .snDlNextCopy _ n => nodeOk n
  | .snAckTimeout _ n => nodeOk n
  | .ritRequestMissed _ n => nodeOk n
  | .psTtlSweep _ => true
  | .overflowGrant _ => true
  | .snEn _ w _ => whoOk w
  | .snNodeConfigWrite _ w _ j _ => whoOk w && decide (j < 3)
  | .snCmdLeaveUnreachable _ w _ => whoOk w
  | .snCmdFreeFrames _ w _ => whoOk w
  | .snCmdResetEstimate _ w _ => whoOk w
  | .tallyBinClose _ => true
  | .crCmd _ w _ => whoOk w
  | .ntClaimTimeout _ k => createOk k
  | .ntCmdRemove _ w _ => whoOk w
  | .ntCmdClearCounts _ w _ => whoOk w
  | .pipelineUplink _ k => pipeOk k
  | .pipelineDownlink _ k => pipeOk k
  | .pipelineHostPacket _ f _ => fifoOk f
  | .reasmTimeout _ k => pipeOk k
  | .ntRemoteTimeout _ k => pipeOk k
  | .nodeWindowAccess _ m win mem _ _ => masterOk m && decide (win < 32) && decide (mem < 256)
  | .shaperRefill _ => true
  | .meterRefill _ => true
  | .ethRelease _ e => ethOk e
  | .meshRelease _ q => queueOk q
  | .hostRelease _ q => queueOk q
  | .fabricRelease _ q => queueOk q
  | .gateEntryChange _ e => portEthOk e
  | .gateBankSwitch _ e => portEthOk e
  | .cellsFreed _ _ => true
  | .kiWrite _ w _ => whoOk w
  | .kiCmdImport _ w => whoOk w
  | .kiCmdGenerate _ w => whoOk w
  | .kiCmdDerive _ w => whoOk w
  | .keyCommandDone _ => true
  | .kZeroize _ w _ => whoOk w
  | .keyPromote _ k => keyOk k
  | .lcRequest _ w => whoOk w
  | .cryptoOpDone _ => true
  | .leapSweep _ upTo => decide (upTo < 2 ^ 23)
  | .joinSegment _ => true
  | .joinReasmTimeout _ => true
  | .joinVerifyDone _ _ => true
  | .joinRelay _ => true
  | .joinStepTimeout _ _ => true
  | .joinLingerExpiry _ _ => true
  | .jEnWrite _ w _ => whoOk w
  | .jEnSeal _ w => whoOk w
  | .isWrite _ w _ _ => whoOk w
  | .isSeal _ w _ => whoOk w
  | .atCmd _ w => whoOk w
  | .atReportReady _ => true
  | .imWrite _ w _ _ => whoOk w
  | .imSeal _ w _ => whoOk w
  | .imSealDone _ k => imageOk k
  | .imErase _ w _ => whoOk w
  | .caCmdStart _ w _ => whoOk w
  | .caCmdPause _ w _ => whoOk w
  | .caCmdResume _ w _ => whoOk w
  | .caCmdAbort _ w _ => whoOk w
  | .caCmdRelease _ w _ => whoOk w
  | .caMulticastStart _ c => campOk c
  | .caBlockSend _ c p => campOk c && portOk p
  | .caStatus _ n msg => nodeOk n && octets msg
  | .caStatusTimeout _ c n => campOk c && nodeOk n
  | .ethRxFrame _ e f _ => ethOk e && octets f
  | .ethLinkUp _ e _ => ethOk e
  | .ethLinkDown _ e => ethOk e
  | .mdioRead _ w v => whoOk w && !(mdioWrites v)
  | .mdioWrite _ w v => whoOk w && mdioWrites v
  | .mdioDone _ _ => true
  | .tuCmdStep _ w => whoOk w
  | .tuCmdSet _ w => whoOk w
  | .ptpSyncTimer _ e => portEthOk e
  | .ptpDelayReqTimer _ e => portEthOk e
  | .ptpPdelayReqTimer _ e => portEthOk e
  | .ptpSyncRx _ e _ => portEthOk e
  | .ptpFollowUpRx _ e _ => portEthOk e
  | .ptpDelayReqRx _ e _ => portEthOk e
  | .ptpDelayRespRx _ e _ => portEthOk e
  | .ptpPdelayReqRx _ e _ => portEthOk e
  | .ptpPdelayRespRx _ e _ _ => portEthOk e
  | .ppState _ w _ _ => whoOk w
  | .ppParentWrite _ w _ _ _ => whoOk w
  | .svLossTimeout _ => true
  | .svSource _ w _ => whoOk w
  | .tqEntryRead _ m _ => masterOk m
  | .ppsInEdge _ _ => true
  | .ppsInLost _ => true
  | .ppsOutPulse _ => true
  | .ppsEn _ w => whoOk w
  | .trefValidityChange _ _ => true
  | .heartbeatPeriod _ _ => true
  | .heartbeatStop _ => true
  | .grantLost _ _ _ => true
  | .grantSeen _ _ _ _ => true
  | .pairAnnounceRepeat _ => true
  | .mooringImageStart _ => true
  | .mooringPassEnd _ _ _ => true
  | .mooringFreeze _ _ => true
  | .moorStreamTimeout _ => true
  | .prImageAgeExpiry _ => true
  | .prTimeHoldExpiry _ => true
  | .prCmdImage _ w => whoOk w
  | .prCmdYield _ w => whoOk w
  | .prCmdCancelYield _ w => whoOk w
  | .prYieldExpiry _ => true
  | .timeSyncTimer _ => true
  | .pairTimeLoopTimeout _ => true
  | .pairStatusTimer _ => true
  | .pairStatusTimeout _ => true
  | .witStartWaitExpiry _ => true
  | .witHeartbeatAlive _ x _ => unitOk x
  | .witHeartbeatLost _ x => unitOk x
  | .witTakeTimeout _ => true
  | .witStateCode _ x code _ => unitOk x && decide (code < 4)
  | .witCmd _ w => whoOk w
  | .witFenceGapExpiry _ => true
  | .witFenceRelease _ x => unitOk x
  | .fbEn _ w _ _ => whoOk w
  | .fbLaneLock _ l lanes => linkOk l && lanes.length == 4
  | .fbTrainTimeout _ l => linkOk l
  | .fbHelloTimer _ l => linkOk l
  | .fbHelloRx _ l ws => linkOk l && words ws
  | .fbRefusedExpiry _ l => linkOk l
  | .fbLinkDown _ l _ => linkOk l
  | .fbPacketRx _ l ws => linkOk l && words ws
  | .fbNakRx _ l ws => linkOk l && words ws
  | .fbStatusRx _ l ws => linkOk l && words ws
  | .fbStatusTimer _ l => linkOk l
  | .topoTimer _ => true
  | .arbDecide _ k _ => arbOk k
  | .dramEccError _ chan _ _ => decide (chan < 2)
  | .dramPatrolScrub _ found => found.all fun (x : Nat × Nat × Bool) => decide (x.1 < 2)
  | .hfPop _ m _ => masterOk m
  | .hfStart _ m _ _ => masterOk m
  | .hfData _ m _ _ => masterOk m
  | .hfEnd _ m _ _ => masterOk m
  | .hfAbort _ m _ => masterOk m
  | .hfHeldWriteDone _ f => fifoOk f
  | .hfStallTimeout _ f => fifoOk f
  | .hfNoticeTimer _ f => fifoOk f
  | .hfMode _ w _ _ => whoOk w
  | .hrCmd _ w _ _ _ => whoOk w
  | .hrHostIdx _ w _ _ _ _ => whoOk w
  | .ringBusError _ k => ringOk k
  | .pcieFlr _ => true
  | .perstNAssert _ => true
  | .perstNRelease _ => true
  | .pcieLinkChange _ _ width rate => decide (width ≤ 16) && decide (rate ≤ 16)
  | .irqEdge _ src => edgeOk src
  | .irqLevelChange _ src _ => critOk src
  | .irqSoftwareSet _ w j _ => whoOk w && decide (j < 32)
  | .irqSoftwareClear _ w j _ => whoOk w && decide (j < 32)
  | .irqMode _ w _ => whoOk w
  | .cxClaim _ m _ => masterOk m
  | .cxComplete _ m _ _ => masterOk m
  | .msixUnmask _ v => decide (v < 64)
  | .evPop _ m => masterOk m
  | .timerTick _ k => timerOk k
  | .timerWrap _ k => timerOk k
  | .timerMatch _ k => timerOk k
  | .tmCmd _ w _ => whoOk w
  | .tmCtrl _ w _ _ => whoOk w
  | .vbatPor _ _ _ => true
  | .railsGood _ pins mv => pinsOk pins && decide (mv.length = 24)
  | .brownOut _ mv => mv.all fun x => decide (x.1 < 24)
  | .resetNAssert _ pins _ => pinsOk pins
  | .resetNRelease _ pins _ => pinsOk pins
  | .pllLock _ d => domainOk d
  | .clockGood _ d pins => domainOk d && pinsOk pins
  | .dramTrained _ pins cap _ _ => pinsOk pins && capOk cap
  | .bootImageVerified _ bank => decide (bank < 2)
  | .bootFailed _ => true
  | .btWrite _ w _ => whoOk w
  | .btDone _ w _ => whoOk w
  | .clockWindow _ _ => true
  | .smWatchdogExpiry _ _ => true
  | .smLockup _ _ => true
  | .acWatchdogExpiry _ c => coreOk c
  | .acLockup _ c _ => coreOk c
  | .acWdKick _ w _ => whoOk w
  | .legacyReset _ w => whoOk w
  | .rsReqCore _ w c _ => whoOk w && decide (c < 32)
  | .rsReqBlock _ w blk _ => whoOk w && decide (blk < 32)
  | .rsReqSystem _ w => whoOk w
  | .rsReqChip _ w => whoOk w
  | .rsReqBackup _ w => whoOk w
  | .rsRelease _ w reach target => whoOk w && decide (reach < 8) && decide (target < 32)
  | .debugResetRequest _ hart _ pins => decide (hart ≤ 10) && pinsOk pins
  | .blockResetAssert _ blk _ => resetBlockOk blk
  | .wrapperOpen _ blk => resetBlockOk blk
  | .coreReset _ c => coreOk c
  | .dozeEntry _ _ => true
  | .dozeExit _ _ => true
  | .pfailWarning _ _ => true
  | .mainsGood _ _ _ => true
  | .holdAfterExpiry _ => true
  | .holdExit _ _ => true
  | .pwCmd _ w => whoOk w
  | .tamperLatch _ n _ => decide (n < 2)
  | .bkTamperClr _ w _ => whoOk w
  | .rtcCmdSet _ w => whoOk w
  | .rtcCmdInvalidate _ w => whoOk w
  | .rtcAutoSet _ => true
  | .crystalFail _ => true
  | .thermalSample _ _ => true
  | .upWrite _ w _ => whoOk w
  | .upCmdVerify _ w => whoOk w
  | .upVerifyDone _ _ => true
  | .upCmdArm _ w => whoOk w
  | .upCmdDisarm _ w => whoOk w
  | .upCmdDiscard _ w => whoOk w
  | .upCmdConfirm _ w => whoOk w
  | .upActivation _ _ _ => true
  | .ledgerAudit _ upset => upset.all fun q => decide (q < 800)
  | .accessViolation _ m kind access _ => decide (m < 25) && decide (1 ≤ kind) && decide (kind < 4) && decide (access < 4)
  | .vrWordRead _ m _ => masterOk m
  | .vrRelease _ w _ => whoOk w
  | .fatalError _ cause detail => causeOk cause && decide (detail < 2 ^ 64)
  | .ftDeclare _ w _ => whoOk w
  | .dumpComplete _ _ harts sram => words harts && words sram
  | .fdErase _ w _ => whoOk w
  | .peEn _ w _ _ => whoOk w
  | .perturbationApply _ point _ => decide (point < 256)
  | .fxFuseBurn _ w => whoOk w
  | .fxRawRead _ w => whoOk w
  | .fxRawWrite _ w => whoOk w
  | .debugHalt _ hart => hartOk hart
  | .debugResume _ hart => hartOk hart
  | .debugSystemBusAccess _ _ _ _ => true
  | .tapIdcode _ => true
  | .tapSamplePreload _ _ => true
  | .tapExtest _ => true
  | .tapHighz _ => true
  | .tapClamp _ => true
  | .tapDtmcs _ => true
  | .tapDmi _ => true
  | .tapBypass _ => true
  | .readClears _ m _ => masterOk m
  | .resetPulseEnd _ pins => pinsOk pins
  | .bootImageRefused _ => true

end Sys2Proof
end

