-- ==== Sys2Proof/Machine/RowOps.lean ====
section
/-! DEFINITION. What the rows of the opcode table share: the writes of several words or of a mask, what a command finds in host memory,
and the arbiters. -/

namespace Sys2Proof.Machine

open Sys2Proof

/-- A master writes words to consecutive members, or an open session writes them as one item. DESIGN CHOICE: log 16. -/
def writeItem (w : Who) (r : Ref) (vals : List Word) : Act := .read fun s =>
  let it : Item := ⟨r, vals.length, 0, vals⟩
  match w with
  | .ap m => forAll vals.zipIdx fun (x : Word × Nat) => apWrite m none ⟨r.idx, r.inst, r.mem + x.2⟩ 0 x.1
  | .ddp k => onlyIf (s.rd (R.S_STATE k) == 2) (directWrite w none it (addWait (.item w it)) (itemEnds w it))
  | .dev => .skip

/-- A master writes a mask to the set alias (`op` 1) or the clear alias (2) of a member, or an open session sends SET_BITS or
CLEAR_BITS for it (R67, R554). -/
def maskMember (w : Who) (r : Ref) (op : Nat) (mask : Word) : Act := .read fun s =>
  let it : Item := ⟨r, 1, op, [mask]⟩
  match w with
  | .ap m => apWrite m none r op mask
  | .ddp k => onlyIf (s.rd (R.S_STATE k) == 2) (directWrite w none it (addWait (.item w it)) (itemEnds w it))
  | .dev => .skip

/-- What the device will find in host memory: words, or a bus error (R73, R447). DESIGN CHOICE: log 28. -/
def hostMemory (ws : List Word) (bad : Bool) : Act := setHost fun g => { g with
  bus := ws
  busBad := bad }

/-- The word of RS_REQ (Table RESET-9). -/
def resetWord (reach target : Nat) (hold : Bool) : Word := BitVec.ofNat 64 (reach + target * 2 ^ 8 + b2n hold * 2 ^ 16)

/-- A decision of arbiter `k` (Table CPU-6). The DRAM's waiting requesters, with the instants of their head requests, come from outside;
which of them it serves first shows in its counters alone. DEDUCED: log 108. -/
def arbRow (k : Nat) (waiting : List (Nat × Nat)) : Act := .read fun s =>
  if k = 0 then
    let ws := (List.range 16).filterMap fun r => (waiting.find? fun (x : Nat × Nat) => x.1 == r).map fun x =>
      (r, x.2, s.rd (R.AR_TICKETS r))
    arbGrant 0 ws fun _ => .skip
  else if k = 1 then whenUp 6 dlGrant
  else whenUp 13 (arbGrant k (s.fabWaiting (k - 2)) fun w => transmitFab (k - 2) (w == 1))

end Sys2Proof.Machine
end

