-- ==== Sys2Proof/Machine/AccessRows.lean ====
section
/-! DEFINITION. Rows of object accesses, DDP messages, transactions and configurations (chapters 03 and 04; Table CPU-2). -/

namespace Sys2Proof.Machine

open Sys2Proof

/-- OBJECT_WRITE (R97). -/
def execObjectWrite (t : Nat) (w : Who) (r : Ref) (vals : List Word) (s : State) : Host.Outcome State Fault Refusal :=
  doneIf (whoOk w) t (work (writeItem w r vals)) s

/-- SET_ALIAS_WRITE (R67). -/
def execSetAliasWrite (t : Nat) (m : Nat) (r : Ref) (v : Word) (s : State) : Host.Outcome State Fault Refusal :=
  doneIf (masterOk m) t (work (apWrite m none r 1 v)) s

/-- CLEAR_ALIAS_WRITE (R67). -/
def execClearAliasWrite (t : Nat) (m : Nat) (r : Ref) (v : Word) (s : State) : Host.Outcome State Fault Refusal :=
  doneIf (masterOk m) t (work (apWrite m none r 2 v)) s

/-- APERTURE_ERROR (R66). -/
def execApertureError (t : Nat) (m : Nat) (addr : Nat) (size : Nat) (write : Bool) (s : State) : Host.Outcome State Fault Refusal :=
  doneIf (masterOk m) t (work (apBad m addr size write)) s

/-- AGENT_ACCESS_TIMEOUT (R64). The access ends with an error response in the aperture, and BUSY over DDP. DEDUCED: log 41. -/
def execAgentAccessTimeout (t : Nat) (w : Who) (s : State) : Host.Outcome State Fault Refusal :=
  doneIf (whoOk w) t (work (accessTimeout w)) s

/-- WIDE_VALUE_READ (R379). -/
def execWideValueRead (t : Nat) (m : Nat) (r : Ref) (s : State) : Host.Outcome State Fault Refusal :=
  doneIf (masterOk m) t (work (apRead m r 0)) s

/-- HELLO (R81). -/
def execHello (t : Nat) (msg : DdpMsg) (s : State) : Host.Outcome State Fault Refusal :=
  doneIf (msgOk msg) t (work (ddpRow tyHello msg)) s

/-- AUTH (R84). -/
def execAuth (t : Nat) (msg : DdpMsg) (s : State) : Host.Outcome State Fault Refusal :=
  doneIf (msgOk msg) t (work (ddpRow tyAuth msg)) s

/-- AUTH_TIMEOUT (R84). -/
def execAuthTimeout (t : Nat) (k : Nat) (s : State) : Host.Outcome State Fault Refusal :=
  doneIf (sessOk k) t (work (authTimeout k)) s

/-- AUTH_LOCKOUT_END (R84). -/
def execAuthLockoutEnd (t : Nat) (key : Nat) (s : State) : Host.Outcome State Fault Refusal :=
  doneIf (keyOk key) t (work (lockoutEnd key)) s

/-- CLOSE (R85). -/
def execClose (t : Nat) (msg : DdpMsg) (s : State) : Host.Outcome State Fault Refusal :=
  doneIf (msgOk msg) t (work (ddpRow tyClose msg)) s

/-- KEEPALIVE (R84). -/
def execKeepalive (t : Nat) (msg : DdpMsg) (s : State) : Host.Outcome State Fault Refusal :=
  doneIf (msgOk msg) t (work (ddpRow tyKeepalive msg)) s

/-- KEEPALIVE_TIMEOUT (R84). -/
def execKeepaliveTimeout (t : Nat) (k : Nat) (s : State) : Host.Outcome State Fault Refusal :=
  doneIf (sessOk k) t (work (keepaliveTimeout k)) s

/-- SESSION_CLOSE_COMPLETE (R85). -/
def execSessionCloseComplete (t : Nat) (k : Nat) (s : State) : Host.Outcome State Fault Refusal :=
  doneIf (sessOk k) t (work (closeComplete k)) s

/-- S_KILL (R84). -/
def execSKill (t : Nat) (w : Who) (k : Nat) (s : State) : Host.Outcome State Fault Refusal :=
  doneIf (whoOk w) t (work (writeMember w none (R.S_KILL k) 1)) s

/-- READ (R79). -/
def execRead (t : Nat) (msg : DdpMsg) (s : State) : Host.Outcome State Fault Refusal :=
  doneIf (msgOk msg) t (work (ddpRow tyRead msg)) s

/-- WRITE (R79). -/
def execWrite (t : Nat) (msg : DdpMsg) (s : State) : Host.Outcome State Fault Refusal :=
  doneIf (msgOk msg) t (work (ddpRow tyWrite msg)) s

/-- SET_BITS (R554). -/
def execSetBits (t : Nat) (msg : DdpMsg) (s : State) : Host.Outcome State Fault Refusal :=
  doneIf (msgOk msg) t (work (ddpRow tySet msg)) s

/-- CLEAR_BITS (R554). -/
def execClearBits (t : Nat) (msg : DdpMsg) (s : State) : Host.Outcome State Fault Refusal :=
  doneIf (msgOk msg) t (work (ddpRow tyClear msg)) s

/-- TXN_OPEN (R92). -/
def execTxnOpen (t : Nat) (msg : DdpMsg) (s : State) : Host.Outcome State Fault Refusal :=
  doneIf (msgOk msg) t (work (ddpRow tyOpen msg)) s

/-- TXN_COMMIT (R99). -/
def execTxnCommit (t : Nat) (msg : DdpMsg) (s : State) : Host.Outcome State Fault Refusal :=
  doneIf (msgOk msg) t (work (ddpRow tyCommit msg)) s

/-- TXN_ABORT (R103). -/
def execTxnAbort (t : Nat) (msg : DdpMsg) (s : State) : Host.Outcome State Fault Refusal :=
  doneIf (msgOk msg) t (work (ddpRow tyAbort msg)) s

/-- SUBSCRIBE (R77). -/
def execSubscribe (t : Nat) (msg : DdpMsg) (s : State) : Host.Outcome State Fault Refusal :=
  doneIf (msgOk msg) t (work (ddpRow tySubscribe msg)) s

/-- DDP_EVENT_SEND (R87). -/
def execDdpEventSend (t : Nat) (k : Nat) (s : State) : Host.Outcome State Fault Refusal :=
  doneIf (sessOk k) t (work (eventSend k)) s

/-- MBX_DOORBELL (R73). `msg` and `bad` are what the device finds in host memory: the message's words, or a bus error; `rspBad` says that
the write of the response ends with one. -/
def execMbxDoorbell (t : Nat) (w : Who) (k : Nat) (msg : List Word) (bad : Bool) (rspBad : Bool) (s : State) :
    Host.Outcome State Fault Refusal :=
  doneIf (whoOk w) t (work (acts [hostMemory msg bad, setHost fun g => { g with rspBad := rspBad }, writeMember w none (R.MBX_DOORBELL k) 1])) s

/-- A_OPEN (R91). -/
def execAOpen (t : Nat) (m : Nat) (s : State) : Host.Outcome State Fault Refusal :=
  doneIf (masterOk m) t (work (apWrite m none (R.A_OPEN m) 0 1)) s

/-- A_BIND (R93). -/
def execABind (t : Nat) (m : Nat) (h : Word) (s : State) : Host.Outcome State Fault Refusal :=
  doneIf (masterOk m) t (work (apWrite m none (R.A_BIND m) 0 h)) s

/-- A_COMMIT (R99). -/
def execACommit (t : Nat) (m : Nat) (s : State) : Host.Outcome State Fault Refusal :=
  doneIf (masterOk m) t (work (apWrite m none (R.A_COMMIT m) 0 1)) s

/-- A_ABORT (R103). -/
def execAAbort (t : Nat) (m : Nat) (s : State) : Host.Outcome State Fault Refusal :=
  doneIf (masterOk m) t (work (apWrite m none (R.A_ABORT m) 0 1)) s

/-- T_LINK_WRITE (R106). -/
def execTLinkWrite (t : Nat) (w : Who) (h : Nat) (v : Word) (s : State) : Host.Outcome State Fault Refusal :=
  doneIf (whoOk w) t (work (writeMember w none (R.T_LINK h) v)) s

/-- TXN_LOCK_TIMEOUT (R99). -/
def execTxnLockTimeout (t : Nat) (s : State) : Host.Outcome State Fault Refusal :=
  done t (work (locksTimeout)) s

/-- TXN_LOCK_GRANTED (R101). -/
def execTxnLockGranted (t : Nat) (s : State) : Host.Outcome State Fault Refusal :=
  done t (work (locksGranted)) s

/-- TXN_APPLY (R102). -/
def execTxnApply (t : Nat) (h : Nat) (s : State) : Host.Outcome State Fault Refusal :=
  doneIf (txnOk h) t (work (txnApply h)) s

/-- TXN_IDLE_TIMEOUT (R103). -/
def execTxnIdleTimeout (t : Nat) (s : State) : Host.Outcome State Fault Refusal :=
  done t (work (txnIdle)) s

/-- TXN_OUTCOME_QUERY_TIMER (R109). -/
def execTxnOutcomeQueryTimer (t : Nat) (h : Nat) (s : State) : Host.Outcome State Fault Refusal :=
  doneIf (txnOk h) t (work (outcomeQuery h)) s

/-- TXN_OUTCOME_TIMEOUT (R109). -/
def execTxnOutcomeTimeout (t : Nat) (h : Nat) (s : State) : Host.Outcome State Fault Refusal :=
  doneIf (txnOk h) t (work (outcomeTimeout h)) s

/-- W_WRITE (R113). -/
def execWWrite (t : Nat) (w : Who) (n : Word) (s : State) : Host.Outcome State Fault Refusal :=
  doneIf (whoOk w) t (work (writeMember w none R.W_WRITE n)) s

/-- W_SEAL (R112). -/
def execWSeal (t : Nat) (w : Who) (s : State) : Host.Outcome State Fault Refusal :=
  doneIf (whoOk w) t (work (writeMember w none R.W_SEAL 1)) s

/-- SL_ERASE (R113). -/
def execSlErase (t : Nat) (w : Who) (k : Nat) (s : State) : Host.Outcome State Fault Refusal :=
  doneIf (whoOk w) t (work (writeMember w none (R.SL_ERASE k) 1)) s

/-- MODE_APPLY (R115). -/
def execModeApply (t : Nat) (w : Who) (s : State) : Host.Outcome State Fault Refusal :=
  doneIf (whoOk w) t (work (writeMember w none R.MODE_APPLY 1)) s

/-- READ_CLEARS (R60). -/
def execReadClears (t : Nat) (m : Nat) (r : Ref) (s : State) : Host.Outcome State Fault Refusal :=
  doneIf (masterOk m) t (work (apRead m r 0)) s

end Sys2Proof.Machine
end

