-- ==== Sys2Proof/Machine/CpuRows.lean ====
section
/-! DEFINITION. Rows of the arbiters, DRAM, host FIFOs, PCIe, interrupts and timers (chapters 19 and 20). -/

namespace Sys2Proof.Machine

open Sys2Proof

/-- ARB_DECIDE (R440). For the DRAM, `waiting` names the requesters that wait and since when. -/
def execArbDecide (t : Nat) (k : Nat) (waiting : List (Nat × Nat)) (s : State) : Host.Outcome State Fault Refusal :=
  doneIf (arbOk k) t (work (arbRow k waiting)) s

/-- DRAM_ECC_ERROR (R439). -/
def execDramEccError (t : Nat) (chan : Nat) (off : Nat) (single : Bool) (s : State) : Host.Outcome State Fault Refusal :=
  doneIf (decide (chan < 2)) t (work (dramError chan off single)) s

/-- DRAM_PATROL_SCRUB (R439). `found` lists the errors that the scrub met: channel, offset, single-bit.
DESIGN CHOICE: log 192. -/
def execDramPatrolScrub (t : Nat) (found : List (Nat × Nat × Bool)) (s : State) : Host.Outcome State Fault Refusal :=
  doneIf (found.all fun (x : Nat × Nat × Bool) => decide (x.1 < 2)) t (work (forAll found fun (x : Nat × Nat × Bool) => dramError x.1 x.2.1 x.2.2)) s

/-- HF_POP (R444). -/
def execHfPop (t : Nat) (m : Nat) (f : Nat) (s : State) : Host.Outcome State Fault Refusal :=
  doneIf (masterOk m) t (work (apRead m (R.HF_POP f) 0)) s

/-- HF_START (R445). -/
def execHfStart (t : Nat) (m : Nat) (f : Nat) (v : Word) (s : State) : Host.Outcome State Fault Refusal :=
  doneIf (masterOk m) t (work (apWrite m none (R.HF_START f) 0 v)) s

/-- HF_DATA (R445). -/
def execHfData (t : Nat) (m : Nat) (f : Nat) (v : Word) (s : State) : Host.Outcome State Fault Refusal :=
  doneIf (masterOk m) t (work (apWrite m none (R.HF_DATA f) 0 v)) s

/-- HF_END (R445). -/
def execHfEnd (t : Nat) (m : Nat) (f : Nat) (v : Word) (s : State) : Host.Outcome State Fault Refusal :=
  doneIf (masterOk m) t (work (apWrite m none (R.HF_END f) 0 v)) s

/-- HF_ABORT (R445). -/
def execHfAbort (t : Nat) (m : Nat) (f : Nat) (s : State) : Host.Outcome State Fault Refusal :=
  doneIf (masterOk m) t (work (apWrite m none (R.HF_ABORT f) 0 1)) s

/-- HF_HELD_WRITE_DONE (R446). -/
def execHfHeldWriteDone (t : Nat) (f : Nat) (s : State) : Host.Outcome State Fault Refusal :=
  doneIf (fifoOk f) t (work (whenUp 15 (heldDone f))) s

/-- HF_STALL_TIMEOUT (R446). -/
def execHfStallTimeout (t : Nat) (f : Nat) (s : State) : Host.Outcome State Fault Refusal :=
  doneIf (fifoOk f) t (work (whenUp 15 (stallTimeout f))) s

/-- HF_NOTICE_TIMER (R444). -/
def execHfNoticeTimer (t : Nat) (f : Nat) (s : State) : Host.Outcome State Fault Refusal :=
  doneIf (fifoOk f) t (work (whenUp 15 (noticeTimer f))) s

/-- HF_MODE (R448). -/
def execHfMode (t : Nat) (w : Who) (f : Nat) (v : Word) (s : State) : Host.Outcome State Fault Refusal :=
  doneIf (whoOk w) t (work (writeMember w none (R.HF_MODE f) v)) s

/-- HR_CMD (R447). `items` and `bad` are what the device finds in a from-host ring: its words, or a bus error. -/
def execHrCmd (t : Nat) (w : Who) (k : Nat) (items : List Word) (bad : Bool) (s : State) : Host.Outcome State Fault Refusal :=
  doneIf (whoOk w) t (work (acts [hostMemory items bad, writeMember w none (R.HR_CMD k) 1])) s

/-- HR_HOST_IDX (R447). `items` and `bad` are what the device finds in a from-host ring: its words, or a bus error. -/
def execHrHostIdx (t : Nat) (w : Who) (k : Nat) (v : Word) (items : List Word) (bad : Bool) (s : State) : Host.Outcome State Fault Refusal :=
  doneIf (whoOk w) t (work (acts [hostMemory items bad, writeMember w none (R.HR_HOST_IDX k) v])) s

/-- RING_BUS_ERROR (R447). -/
def execRingBusError (t : Nat) (k : Nat) (s : State) : Host.Outcome State Fault Refusal :=
  doneIf (ringOk k) t (work (whenUp 15 (ringBusError k))) s

/-- PCIE_FLR (R450). -/
def execPcieFlr (t : Nat) (s : State) : Host.Outcome State Fault Refusal :=
  done t (work (pcieFlr)) s

/-- PERST_N_ASSERT (R450). -/
def execPerstNAssert (t : Nat) (s : State) : Host.Outcome State Fault Refusal :=
  done t (work (perstLow)) s

/-- PERST_N_RELEASE (R450). -/
def execPerstNRelease (t : Nat) (s : State) : Host.Outcome State Fault Refusal :=
  done t (work (perstHigh)) s

/-- PCIE_LINK_CHANGE (R450). -/
def execPcieLinkChange (t : Nat) (up : Bool) (width : Nat) (rate : Nat) (s : State) : Host.Outcome State Fault Refusal :=
  doneIf (decide (width ≤ 16) && decide (rate ≤ 16)) t (work (pcieLink up width rate)) s

/-- IRQ_EDGE (R453). -/
def execIrqEdge (t : Nat) (src : Nat) (s : State) : Host.Outcome State Fault Refusal :=
  doneIf (edgeOk src) t (work (edge src)) s

/-- IRQ_LEVEL_CHANGE (R457). -/
def execIrqLevelChange (t : Nat) (src : Nat) (high : Bool) (s : State) : Host.Outcome State Fault Refusal :=
  doneIf (critOk src) t (work (setLevel src high)) s

/-- IRQ_SOFTWARE_SET (R462). -/
def execIrqSoftwareSet (t : Nat) (w : Who) (j : Nat) (mask : Word) (s : State) : Host.Outcome State Fault Refusal :=
  doneIf (whoOk w && decide (j < 32)) t (work (maskMember w (R.IRQ_PENDING j) 1 mask)) s

/-- IRQ_SOFTWARE_CLEAR (R462). -/
def execIrqSoftwareClear (t : Nat) (w : Who) (j : Nat) (mask : Word) (s : State) : Host.Outcome State Fault Refusal :=
  doneIf (whoOk w && decide (j < 32)) t (work (maskMember w (R.IRQ_PENDING j) 2 mask)) s

/-- IRQ_MODE (R462). -/
def execIrqMode (t : Nat) (w : Who) (v : Word) (s : State) : Host.Outcome State Fault Refusal :=
  doneIf (whoOk w) t (work (writeMember w none R.IRQ_MODE v)) s

/-- CX_CLAIM (R458). -/
def execCxClaim (t : Nat) (m : Nat) (x : Nat) (s : State) : Host.Outcome State Fault Refusal :=
  doneIf (masterOk m) t (work (apRead m (R.CX_CLAIM x) 0)) s

/-- CX_COMPLETE (R459). -/
def execCxComplete (t : Nat) (m : Nat) (x : Nat) (src : Word) (s : State) : Host.Outcome State Fault Refusal :=
  doneIf (masterOk m) t (work (apWrite m none (R.CX_COMPLETE x) 0 src)) s

/-- MSIX_UNMASK (R460). -/
def execMsixUnmask (t : Nat) (v : Nat) (s : State) : Host.Outcome State Fault Refusal :=
  doneIf (decide (v < 64)) t (work (whenUp 14 (msixUnmask v))) s

/-- EV_POP (R465). -/
def execEvPop (t : Nat) (m : Nat) (s : State) : Host.Outcome State Fault Refusal :=
  doneIf (masterOk m) t (work (apRead m (R.EV_POP 0) 0)) s

/-- TIMER_TICK (R466). -/
def execTimerTick (t : Nat) (k : Nat) (s : State) : Host.Outcome State Fault Refusal :=
  doneIf (timerOk k) t (work (timerTick k)) s

/-- TIMER_WRAP (R466). -/
def execTimerWrap (t : Nat) (k : Nat) (s : State) : Host.Outcome State Fault Refusal :=
  doneIf (timerOk k) t (work (timerWrap k)) s

/-- TIMER_MATCH (R469). -/
def execTimerMatch (t : Nat) (k : Nat) (s : State) : Host.Outcome State Fault Refusal :=
  doneIf (timerOk k) t (work (timerMatch k)) s

/-- TM_CMD (R468). -/
def execTmCmd (t : Nat) (w : Who) (k : Nat) (s : State) : Host.Outcome State Fault Refusal :=
  doneIf (whoOk w) t (work (writeMember w none (R.TM_CMD k) 1)) s

/-- TM_CTRL (R468). -/
def execTmCtrl (t : Nat) (w : Who) (k : Nat) (v : Word) (s : State) : Host.Outcome State Fault Refusal :=
  doneIf (whoOk w) t (work (writeMember w none (R.TM_CTRL k) v)) s

end Sys2Proof.Machine
end

