-- ==== Sys2Proof/Machine/FaultRows.lean ====
section
/-! DEFINITION. Rows of device update, the ledger, faults, fuses and debug (chapters 22 and 23). -/

namespace Sys2Proof.Machine

open Sys2Proof

/-- UP_WRITE (R503). -/
def execUpWrite (t : Nat) (w : Who) (n : Word) (s : State) : Host.Outcome State Fault Refusal :=
  doneIf (whoOk w) t (work (writeMember w none R.UP_WRITE n)) s

/-- UP_CMD_VERIFY (R504). -/
def execUpCmdVerify (t : Nat) (w : Who) (s : State) : Host.Outcome State Fault Refusal :=
  doneIf (whoOk w) t (work (writeMember w none R.UP_CMD 1)) s

/-- UP_VERIFY_DONE (R504). The copy in flash was read back right. -/
def execUpVerifyDone (t : Nat) (flashOk : Bool) (s : State) : Host.Outcome State Fault Refusal :=
  done t (work (upVerifyDone flashOk)) s

/-- UP_CMD_ARM (R507). -/
def execUpCmdArm (t : Nat) (w : Who) (s : State) : Host.Outcome State Fault Refusal :=
  doneIf (whoOk w) t (work (writeMember w none R.UP_CMD 2)) s

/-- UP_CMD_DISARM (R507). -/
def execUpCmdDisarm (t : Nat) (w : Who) (s : State) : Host.Outcome State Fault Refusal :=
  doneIf (whoOk w) t (work (writeMember w none R.UP_CMD 3)) s

/-- UP_CMD_DISCARD (R503). -/
def execUpCmdDiscard (t : Nat) (w : Who) (s : State) : Host.Outcome State Fault Refusal :=
  doneIf (whoOk w) t (work (writeMember w none R.UP_CMD 4)) s

/-- UP_CMD_CONFIRM (R511). -/
def execUpCmdConfirm (t : Nat) (w : Who) (s : State) : Host.Outcome State Fault Refusal :=
  doneIf (whoOk w) t (work (writeMember w none R.UP_CMD 5)) s

/-- UP_ACTIVATION (R508). The two spans of the pause in µs. -/
def execUpActivation (t : Nat) (rf : Nat) (bh : Nat) (s : State) : Host.Outcome State Fault Refusal :=
  done t (work (upActivation rf bh)) s

/-- LEDGER_AUDIT (R519). `upset` names the instances whose counts have been disturbed. -/
def execLedgerAudit (t : Nat) (upset : List Nat) (s : State) : Host.Outcome State Fault Refusal :=
  doneIf (upset.all fun q => decide (q < 800)) t (work (ledgerAudit upset)) s

/-- ACCESS_VIOLATION (R523). -/
def execAccessViolation (t : Nat) (m : Nat) (kind : Nat) (access : Nat) (addr : Nat) (s : State) : Host.Outcome State Fault Refusal :=
  doneIf (decide (m < 25) && decide (1 ≤ kind) && decide (kind < 4) && decide (access < 4)) t (work (violate m kind access addr [])) s

/-- VR_WORD_READ (R524). -/
def execVrWordRead (t : Nat) (m : Nat) (v : Nat) (s : State) : Host.Outcome State Fault Refusal :=
  doneIf (masterOk m) t (work (apRead m (R.VR_WORD v) 0)) s

/-- VR_RELEASE (R525). -/
def execVrRelease (t : Nat) (w : Who) (v : Word) (s : State) : Host.Outcome State Fault Refusal :=
  doneIf (whoOk w) t (work (writeMember w none R.VR_RELEASE v)) s

/-- FATAL_ERROR (R526). -/
def execFatalError (t : Nat) (cause : Nat) (detail : Nat) (s : State) : Host.Outcome State Fault Refusal :=
  doneIf (causeOk cause && decide (detail < 2 ^ 64)) t (work (fatalError cause detail)) s

/-- FT_DECLARE (R526). -/
def execFtDeclare (t : Nat) (w : Who) (v : Word) (s : State) : Host.Outcome State Fault Refusal :=
  doneIf (whoOk w) t (work (writeMember w none R.FT_DECLARE v)) s

/-- DUMP_COMPLETE (R527). The words of the harts and of the SM SRAM. -/
def execDumpComplete (t : Nat) (abandoned : Bool) (harts : List Nat) (sram : List Nat) (s : State) : Host.Outcome State Fault Refusal :=
  doneIf (words harts && words sram) t (work (dumpComplete abandoned harts sram)) s

/-- FD_ERASE (R528). -/
def execFdErase (t : Nat) (w : Who) (e : Word) (s : State) : Host.Outcome State Fault Refusal :=
  doneIf (whoOk w) t (work (writeMember w none R.FD_ERASE e)) s

/-- PE_EN (R530). -/
def execPeEn (t : Nat) (w : Who) (k : Nat) (v : Word) (s : State) : Host.Outcome State Fault Refusal :=
  doneIf (whoOk w) t (work (writeMember w none (R.PE_EN k) v)) s

/-- PERTURBATION_APPLY (R530). -/
def execPerturbationApply (t : Nat) (point : Nat) (inst : Nat) (s : State) : Host.Outcome State Fault Refusal :=
  doneIf (decide (point < 256)) t (work (perturbationApply point inst)) s

/-- FX_FUSE_BURN (R43). -/
def execFxFuseBurn (t : Nat) (w : Who) (s : State) : Host.Outcome State Fault Refusal :=
  doneIf (whoOk w) t (work (writeMember w none R.FX_FUSE_BURN 1)) s

/-- FX_RAW_READ (R532). -/
def execFxRawRead (t : Nat) (w : Who) (s : State) : Host.Outcome State Fault Refusal :=
  doneIf (whoOk w) t (work (writeMember w none R.FX_RAW_CMD 1)) s

/-- FX_RAW_WRITE (R532). -/
def execFxRawWrite (t : Nat) (w : Who) (s : State) : Host.Outcome State Fault Refusal :=
  doneIf (whoOk w) t (work (writeMember w none R.FX_RAW_CMD 2)) s

/-- DEBUG_HALT (R534). -/
def execDebugHalt (t : Nat) (hart : Nat) (s : State) : Host.Outcome State Fault Refusal :=
  doneIf (hartOk hart) t (work (haltHart hart)) s

/-- DEBUG_RESUME (R534). -/
def execDebugResume (t : Nat) (hart : Nat) (s : State) : Host.Outcome State Fault Refusal :=
  doneIf (hartOk hart) t (work (resumeHart hart)) s

/-- DEBUG_SYSTEM_BUS_ACCESS (R534). -/
def execDebugSystemBusAccess (t : Nat) (addr : Nat) (write : Bool) (v : Word) (s : State) : Host.Outcome State Fault Refusal :=
  done t (work (debugAccess addr write v)) s

/-- TAP_IDCODE (R533). -/
def execTapIdcode (t : Nat) (s : State) : Host.Outcome State Fault Refusal :=
  done t (work (tapLoad 0x01)) s

/-- TAP_SAMPLE_PRELOAD (R533). -/
def execTapSamplePreload (t : Nat) (cells : List Nat) (s : State) : Host.Outcome State Fault Refusal :=
  done t (work (tapPreload cells)) s

/-- TAP_EXTEST (R533). -/
def execTapExtest (t : Nat) (s : State) : Host.Outcome State Fault Refusal :=
  done t (work (tapLoad 0x03)) s

/-- TAP_HIGHZ (R533). -/
def execTapHighz (t : Nat) (s : State) : Host.Outcome State Fault Refusal :=
  done t (work (tapLoad 0x04)) s

/-- TAP_CLAMP (R533). -/
def execTapClamp (t : Nat) (s : State) : Host.Outcome State Fault Refusal :=
  done t (work (tapLoad 0x05)) s

/-- TAP_DTMCS (R533). -/
def execTapDtmcs (t : Nat) (s : State) : Host.Outcome State Fault Refusal :=
  done t (work (tapLoad 0x10)) s

/-- TAP_DMI (R533). -/
def execTapDmi (t : Nat) (s : State) : Host.Outcome State Fault Refusal :=
  done t (work (tapLoad 0x11)) s

/-- TAP_BYPASS (R533). -/
def execTapBypass (t : Nat) (s : State) : Host.Outcome State Fault Refusal :=
  done t (work (tapLoad 0xFF)) s

end Sys2Proof.Machine
end

