-- ==== Sys2Proof/Machine/KeyRows.lean ====
section
/-! DEFINITION. Rows of keys and the crypto engines, join and attestation, and node-image campaigns (chapters 13 to 15). -/

namespace Sys2Proof.Machine

open Sys2Proof

/-- KI_WRITE (R322). -/
def execKiWrite (t : Nat) (w : Who) (n : Word) (s : State) : Host.Outcome State Fault Refusal :=
  doneIf (whoOk w) t (work (writeMember w none R.KI_WRITE n)) s

/-- KI_CMD_IMPORT (R322). -/
def execKiCmdImport (t : Nat) (w : Who) (s : State) : Host.Outcome State Fault Refusal :=
  doneIf (whoOk w) t (work (writeMember w none R.KI_CMD 1)) s

/-- KI_CMD_GENERATE (R325). -/
def execKiCmdGenerate (t : Nat) (w : Who) (s : State) : Host.Outcome State Fault Refusal :=
  doneIf (whoOk w) t (work (writeMember w none R.KI_CMD 2)) s

/-- KI_CMD_DERIVE (R320). -/
def execKiCmdDerive (t : Nat) (w : Who) (s : State) : Host.Outcome State Fault Refusal :=
  doneIf (whoOk w) t (work (writeMember w none R.KI_CMD 3)) s

/-- KEY_COMMAND_DONE (R325). -/
def execKeyCommandDone (t : Nat) (s : State) : Host.Outcome State Fault Refusal :=
  done t (work (atTurn .key keyDone)) s

/-- K_ZEROIZE (R325). -/
def execKZeroize (t : Nat) (w : Who) (k : Nat) (s : State) : Host.Outcome State Fault Refusal :=
  doneIf (whoOk w) t (work (writeMember w none (R.K_ZEROIZE k) 1)) s

/-- KEY_PROMOTE (R325). -/
def execKeyPromote (t : Nat) (k : Nat) (s : State) : Host.Outcome State Fault Refusal :=
  doneIf (keyOk k) t (work (.read fun s => onlyIf (s.rd R.TS_RUN == 1) (keyPromote k s.asnNow (s.rd R.TS_REF_LEN)))) s

/-- LC_REQUEST (R329). -/
def execLcRequest (t : Nat) (w : Who) (s : State) : Host.Outcome State Fault Refusal :=
  doneIf (whoOk w) t (work (writeMember w none R.LC_REQUEST 1)) s

/-- CRYPTO_OP_DONE (R335). -/
def execCryptoOpDone (t : Nat) (s : State) : Host.Outcome State Fault Refusal :=
  done t (work (cryptoDone)) s

/-- LEAP_SWEEP (R334). The sweep has come to node `upTo`. -/
def execLeapSweep (t : Nat) (upTo : Nat) (s : State) : Host.Outcome State Fault Refusal :=
  doneIf (decide (upTo < 2 ^ 23)) t (work (whenUp 10 (leapSweep upTo))) s

/-- JOIN_SEGMENT (R342). -/
def execJoinSegment (t : Nat) (s : State) : Host.Outcome State Fault Refusal :=
  done t (work serveSegment) s

/-- JOIN_REASM_TIMEOUT (R342). -/
def execJoinReasmTimeout (t : Nat) (s : State) : Host.Outcome State Fault Refusal :=
  done t (work (joinReasmTimeout)) s

/-- JOIN_VERIFY_DONE (R349). -/
def execJoinVerifyDone (t : Nat) (id : Nat) (s : State) : Host.Outcome State Fault Refusal :=
  done t (work (atTurn (.join id) (verifyDone id))) s

/-- JOIN_RELAY (R340). -/
def execJoinRelay (t : Nat) (s : State) : Host.Outcome State Fault Refusal :=
  done t (work (serveRelay)) s

/-- JOIN_STEP_TIMEOUT (R350). -/
def execJoinStepTimeout (t : Nat) (id : Nat) (s : State) : Host.Outcome State Fault Refusal :=
  done t (work (joinStepTimeout id)) s

/-- JOIN_LINGER_EXPIRY (R350). -/
def execJoinLingerExpiry (t : Nat) (id : Nat) (s : State) : Host.Outcome State Fault Refusal :=
  done t (work (joinLinger id)) s

/-- J_EN_WRITE (R343). -/
def execJEnWrite (t : Nat) (w : Who) (n : Word) (s : State) : Host.Outcome State Fault Refusal :=
  doneIf (whoOk w) t (work (writeMember w none R.J_EN_WRITE n)) s

/-- J_EN_SEAL (R343). -/
def execJEnSeal (t : Nat) (w : Who) (s : State) : Host.Outcome State Fault Refusal :=
  doneIf (whoOk w) t (work (writeMember w none R.J_EN_SEAL 6461)) s

/-- IS_WRITE (R346). -/
def execIsWrite (t : Nat) (w : Who) (k : Nat) (n : Word) (s : State) : Host.Outcome State Fault Refusal :=
  doneIf (whoOk w) t (work (writeMember w none (R.IS_WRITE k) n)) s

/-- IS_SEAL (R346). -/
def execIsSeal (t : Nat) (w : Who) (k : Nat) (s : State) : Host.Outcome State Fault Refusal :=
  doneIf (whoOk w) t (work (writeMember w none (R.IS_SEAL k) 1952)) s

/-- AT_CMD (R356). -/
def execAtCmd (t : Nat) (w : Who) (s : State) : Host.Outcome State Fault Refusal :=
  doneIf (whoOk w) t (work (writeMember w none R.AT_CMD 1)) s

/-- AT_REPORT_READY (R356). -/
def execAtReportReady (t : Nat) (s : State) : Host.Outcome State Fault Refusal :=
  done t (work (atTurn .attest reportReady)) s

/-- IM_WRITE (R360). -/
def execImWrite (t : Nat) (w : Who) (k : Nat) (n : Word) (s : State) : Host.Outcome State Fault Refusal :=
  doneIf (whoOk w) t (work (writeMember w none (R.IM_WRITE k) n)) s

/-- IM_SEAL (R360). -/
def execImSeal (t : Nat) (w : Who) (k : Nat) (s : State) : Host.Outcome State Fault Refusal :=
  doneIf (whoOk w) t (work (writeMember w none (R.IM_SEAL k) 1)) s

/-- IM_SEAL_DONE (R360). -/
def execImSealDone (t : Nat) (k : Nat) (s : State) : Host.Outcome State Fault Refusal :=
  doneIf (imageOk k) t (work (atTurn (.image k) (imageSealDone k))) s

/-- IM_ERASE (R360). -/
def execImErase (t : Nat) (w : Who) (k : Nat) (s : State) : Host.Outcome State Fault Refusal :=
  doneIf (whoOk w) t (work (writeMember w none (R.IM_ERASE k) 1)) s

/-- CA_CMD_START (R365). -/
def execCaCmdStart (t : Nat) (w : Who) (c : Nat) (s : State) : Host.Outcome State Fault Refusal :=
  doneIf (whoOk w) t (work (writeMember w none (R.CA_CMD c) 1)) s

/-- CA_CMD_PAUSE (R368). -/
def execCaCmdPause (t : Nat) (w : Who) (c : Nat) (s : State) : Host.Outcome State Fault Refusal :=
  doneIf (whoOk w) t (work (writeMember w none (R.CA_CMD c) 2)) s

/-- CA_CMD_RESUME (R368). -/
def execCaCmdResume (t : Nat) (w : Who) (c : Nat) (s : State) : Host.Outcome State Fault Refusal :=
  doneIf (whoOk w) t (work (writeMember w none (R.CA_CMD c) 3)) s

/-- CA_CMD_ABORT (R368). -/
def execCaCmdAbort (t : Nat) (w : Who) (c : Nat) (s : State) : Host.Outcome State Fault Refusal :=
  doneIf (whoOk w) t (work (writeMember w none (R.CA_CMD c) 4)) s

/-- CA_CMD_RELEASE (R368). -/
def execCaCmdRelease (t : Nat) (w : Who) (c : Nat) (s : State) : Host.Outcome State Fault Refusal :=
  doneIf (whoOk w) t (work (writeMember w none (R.CA_CMD c) 5)) s

/-- CA_MULTICAST_START (R366). -/
def execCaMulticastStart (t : Nat) (c : Nat) (s : State) : Host.Outcome State Fault Refusal :=
  doneIf (campOk c) t (work (campMulticast c)) s

/-- CA_BLOCK_SEND (R366). -/
def execCaBlockSend (t : Nat) (c : Nat) (p : Nat) (s : State) : Host.Outcome State Fault Refusal :=
  doneIf (campOk c && portOk p) t (work (campBlock c p)) s

/-- CA_STATUS (R367). `msg` is the datagram of node `n`. -/
def execCaStatus (t : Nat) (n : Nat) (msg : List Nat) (s : State) : Host.Outcome State Fault Refusal :=
  doneIf (nodeOk n && octets msg) t (work (campStatus n msg)) s

/-- CA_STATUS_TIMEOUT (R367). -/
def execCaStatusTimeout (t : Nat) (c : Nat) (n : Nat) (s : State) : Host.Outcome State Fault Refusal :=
  doneIf (campOk c && nodeOk n) t (work (campTimeout c n)) s

end Sys2Proof.Machine
end

