-- ==== Sys2Proof/Machine/LinkRows.lean ====
section
/-! DEFINITION. Rows of Deep Link, the TSCH engine, the sleepy-node service and the tally (chapters 07 to 10). -/

namespace Sys2Proof.Machine

open Sys2Proof

/-- DL_HEADER_DECODE (R173). The header's chips as soft values, positive for 0. -/
def execDlHeaderDecode (t : Nat) (l : Nat) (chips : List Int) (s : State) : Host.Outcome State Fault Refusal :=
  doneIf (laneOk l) t (work (whenUp 6 (dlHeaderDecode l chips))) s

/-- DL_COPY_COMBINE (R182). -/
def execDlCopyCombine (t : Nat) (s : State) : Host.Outcome State Fault Refusal :=
  done t (work (whenUp 6 dlCombine)) s

/-- DL_DECODE_GRANT (R188). -/
def execDlDecodeGrant (t : Nat) (s : State) : Host.Outcome State Fault Refusal :=
  done t (work (whenUp 6 dlGrant)) s

/-- DL_DECODE_END (R186). -/
def execDlDecodeEnd (t : Nat) (d : Nat) (s : State) : Host.Outcome State Fault Refusal :=
  doneIf (decoderOk d) t (work (whenUp 6 (dlDecodeEnd d))) s

/-- DL_GROUP_EXPIRE (R185). -/
def execDlGroupExpire (t : Nat) (g : Nat) (s : State) : Host.Outcome State Fault Refusal :=
  doneIf (dlGroupOk g) t (work (whenUp 6 (dlExpire g))) s

/-- TS_RUN (R195). -/
def execTsRun (t : Nat) (w : Who) (v : Word) (s : State) : Host.Outcome State Fault Refusal :=
  doneIf (whoOk w) t (work (writeMember w none R.TS_RUN v)) s

/-- TX_DECISION (R206). -/
def execTxDecision (t : Nat) (p : Nat) (s : State) : Host.Outcome State Fault Refusal :=
  doneIf (portOk p) t (work (whenUp 7 (txDecision p))) s

/-- TX_RETUNE_INSTANT (R211). -/
def execTxRetuneInstant (t : Nat) (p : Nat) (s : State) : Host.Outcome State Fault Refusal :=
  doneIf (portOk p) t (work (whenUp 7 (txRetune p))) s

/-- ACK_WAIT_BIND (R212). -/
def execAckWaitBind (t : Nat) (p : Nat) (s : State) : Host.Outcome State Fault Refusal :=
  doneIf (portOk p) t (work (whenUp 7 (ackWaitBind p))) s

/-- ACK_TIMEOUT (R212). -/
def execAckTimeout (t : Nat) (p : Nat) (s : State) : Host.Outcome State Fault Refusal :=
  doneIf (portOk p) t (work (whenUp 7 (ackTimeout p))) s

/-- RX_RECORD (R217). `f` is the frame the standard reads in the record's octets, `foreign` says that a peer's partition holds its source. -/
def execRxRecord (t : Nat) (tile : Nat) (f : Option MacFrame) (foreign : Bool) (s : State) : Host.Outcome State Fault Refusal :=
  doneIf (tileOk tile) t (work (whenUp 7 (rxRecord tile f foreign))) s

/-- DL_SURPLUS_REPORT (R219). -/
def execDlSurplusReport (t : Nat) (s : State) : Host.Outcome State Fault Refusal :=
  done t (work (whenUp 7 surplusReport)) s

/-- EB_PERIOD (R220). -/
def execEbPeriod (t : Nat) (p : Nat) (s : State) : Host.Outcome State Fault Refusal :=
  doneIf (portOk p) t (work (whenUp 7 (ebPeriod p))) s

/-- WHEEL_BUCKET (R246). -/
def execWheelBucket (t : Nat) (s : State) : Host.Outcome State Fault Refusal :=
  done t (work (whenUp 8 wheelBucket)) s

/-- SN_FOLLOW_ON (R227). -/
def execSnFollowOn (t : Nat) (n : Nat) (s : State) : Host.Outcome State Fault Refusal :=
  doneIf (nodeOk n) t (work (whenUp 8 (snFollowOn n))) s

/-- SN_DL_NEXT_COPY (R236). -/
def execSnDlNextCopy (t : Nat) (n : Nat) (s : State) : Host.Outcome State Fault Refusal :=
  doneIf (nodeOk n) t (work (whenUp 8 (snNextCopy n))) s

/-- SN_ACK_TIMEOUT (R233). -/
def execSnAckTimeout (t : Nat) (n : Nat) (s : State) : Host.Outcome State Fault Refusal :=
  doneIf (nodeOk n) t (work (whenUp 8 (snAckTimeout n))) s

/-- RIT_REQUEST_MISSED (R234). -/
def execRitRequestMissed (t : Nat) (n : Nat) (s : State) : Host.Outcome State Fault Refusal :=
  doneIf (nodeOk n) t (work (whenUp 8 (ritMissed n))) s

/-- PS_TTL_SWEEP (R245). -/
def execPsTtlSweep (t : Nat) (s : State) : Host.Outcome State Fault Refusal :=
  done t (work (whenUp 8 ttlSweep)) s

/-- OVERFLOW_GRANT (R247). -/
def execOverflowGrant (t : Nat) (s : State) : Host.Outcome State Fault Refusal :=
  done t (work (whenUp 8 overflowGrant)) s

/-- SN_EN (R244). -/
def execSnEn (t : Nat) (w : Who) (v : Word) (s : State) : Host.Outcome State Fault Refusal :=
  doneIf (whoOk w) t (work (writeMember w none R.SN_EN v)) s

/-- SN_NODE_CONFIG_WRITE (R224). `j` is the member: 0 SN_SERVICE, 1 SN_PERIOD, 2 SN_LINK. -/
def execSnNodeConfigWrite (t : Nat) (w : Who) (n : Nat) (j : Nat) (v : Word) (s : State) : Host.Outcome State Fault Refusal :=
  doneIf (whoOk w && decide (j < 3)) t (work (writeMember w none ⟨0x2310, n, j⟩ v)) s

/-- SN_CMD_LEAVE_UNREACHABLE (R241). -/
def execSnCmdLeaveUnreachable (t : Nat) (w : Who) (n : Nat) (s : State) : Host.Outcome State Fault Refusal :=
  doneIf (whoOk w) t (work (writeMember w none (R.SN_CMD n) 1)) s

/-- SN_CMD_FREE_FRAMES (R223). -/
def execSnCmdFreeFrames (t : Nat) (w : Who) (n : Nat) (s : State) : Host.Outcome State Fault Refusal :=
  doneIf (whoOk w) t (work (writeMember w none (R.SN_CMD n) 2)) s

/-- SN_CMD_RESET_ESTIMATE (R229). -/
def execSnCmdResetEstimate (t : Nat) (w : Who) (n : Nat) (s : State) : Host.Outcome State Fault Refusal :=
  doneIf (whoOk w) t (work (writeMember w none (R.SN_CMD n) 3)) s

/-- TALLY_BIN_CLOSE (R254). -/
def execTallyBinClose (t : Nat) (s : State) : Host.Outcome State Fault Refusal :=
  done t (work (whenUp 9 tallyBinClose)) s

end Sys2Proof.Machine
end

