-- ==== Sys2Proof/Machine/NodeRows.lean ====
section
/-! DEFINITION. Rows of the node table, forwarding, queues, shaping and policing (chapters 11 and 12). -/

namespace Sys2Proof.Machine

open Sys2Proof

/-- CR_CMD (R268). -/
def execCrCmd (t : Nat) (w : Who) (k : Nat) (s : State) : Host.Outcome State Fault Refusal :=
  doneIf (whoOk w) t (work (writeMember w none (R.CR_CMD k) 1)) s

/-- NT_CLAIM_TIMEOUT (R271). -/
def execNtClaimTimeout (t : Nat) (k : Nat) (s : State) : Host.Outcome State Fault Refusal :=
  doneIf (createOk k) t (work (whenUp 10 (claimTimeout k))) s

/-- NT_CMD_REMOVE (R270). -/
def execNtCmdRemove (t : Nat) (w : Who) (n : Nat) (s : State) : Host.Outcome State Fault Refusal :=
  doneIf (whoOk w) t (work (writeMember w none (R.NT_CMD n) 1)) s

/-- NT_CMD_CLEAR_COUNTS (R265). -/
def execNtCmdClearCounts (t : Nat) (w : Who) (n : Nat) (s : State) : Host.Outcome State Fault Refusal :=
  doneIf (whoOk w) t (work (writeMember w none (R.NT_CMD n) 2)) s

/-- PIPELINE_UPLINK (R286). `p` is what the record's payload is. -/
def execPipelineUplink (t : Nat) (k : Nat) (s : State) : Host.Outcome State Fault Refusal :=
  doneIf (pipeOk k) t (work (whenUp 10 (pipelineUp k))) s

/-- PIPELINE_DOWNLINK (R289). -/
def execPipelineDownlink (t : Nat) (k : Nat) (s : State) : Host.Outcome State Fault Refusal :=
  doneIf (pipeOk k) t (work (whenUp 10 (pipelineDown k))) s

/-- PIPELINE_HOST_PACKET (R442). `mf` is the frame that the standard reads in a packet of PATH MESH. -/
def execPipelineHostPacket (t : Nat) (f : Nat) (mf : Option MacFrame) (s : State) : Host.Outcome State Fault Refusal :=
  doneIf (fifoOk f) t (work (whenUp 10 (pipelineHost f mf))) s

/-- REASM_TIMEOUT (R286). -/
def execReasmTimeout (t : Nat) (k : Nat) (s : State) : Host.Outcome State Fault Refusal :=
  doneIf (pipeOk k) t (work (whenUp 10 (reasmTimeout k))) s

/-- NT_REMOTE_TIMEOUT (R284). -/
def execNtRemoteTimeout (t : Nat) (k : Nat) (s : State) : Host.Outcome State Fault Refusal :=
  doneIf (pipeOk k) t (work (whenUp 10 (remoteTimeout k))) s

/-- NODE_WINDOW_ACCESS (R293). -/
def execNodeWindowAccess (t : Nat) (m : Nat) (win : Nat) (mem : Nat) (write : Bool) (v : Word) (s : State) : Host.Outcome State Fault Refusal :=
  doneIf (masterOk m && decide (win < 32) && decide (mem < 256)) t (work (apAccess m write ⟨0x3009, win, mem⟩ 0 v)) s

/-- SHAPER_REFILL (R302). -/
def execShaperRefill (t : Nat) (s : State) : Host.Outcome State Fault Refusal :=
  done t (work (whenUp 11 shaperRefill)) s

/-- METER_REFILL (R304). -/
def execMeterRefill (t : Nat) (s : State) : Host.Outcome State Fault Refusal :=
  done t (work (whenUp 11 meterRefill)) s

/-- ETH_RELEASE (R301). -/
def execEthRelease (t : Nat) (e : Nat) (s : State) : Host.Outcome State Fault Refusal :=
  doneIf (ethOk e) t (work (whenUp 11 (ethRelease e))) s

/-- MESH_RELEASE (R301). -/
def execMeshRelease (t : Nat) (q : Nat) (s : State) : Host.Outcome State Fault Refusal :=
  doneIf (queueOk q) t (work (whenUp 11 (meshRelease q))) s

/-- HOST_RELEASE (R301). -/
def execHostRelease (t : Nat) (q : Nat) (s : State) : Host.Outcome State Fault Refusal :=
  doneIf (queueOk q) t (work (whenUp 11 (hostRelease q))) s

/-- FABRIC_RELEASE (R301). -/
def execFabricRelease (t : Nat) (q : Nat) (s : State) : Host.Outcome State Fault Refusal :=
  doneIf (queueOk q) t (work (whenUp 11 (fabricRelease q))) s

/-- GATE_ENTRY_CHANGE (R307). -/
def execGateEntryChange (t : Nat) (e : Nat) (s : State) : Host.Outcome State Fault Refusal :=
  doneIf (portEthOk e) t (work (whenUp 11 (showGate e))) s

/-- GATE_BANK_SWITCH (R309). -/
def execGateBankSwitch (t : Nat) (e : Nat) (s : State) : Host.Outcome State Fault Refusal :=
  doneIf (portEthOk e) t (work (whenUp 11 (gateSwitch e))) s

/-- CELLS_FREED (R299). `k` is the packet whose cells are freed. -/
def execCellsFreed (t : Nat) (k : Nat) (s : State) : Host.Outcome State Fault Refusal :=
  done t (work (whenUp 11 (cellsFreed k))) s

end Sys2Proof.Machine
end

