-- ==== Sys2Proof/Machine/PairRows.lean ====
section
/-! DEFINITION. Rows of pair redundancy and of the fabric (chapters 17 and 18). -/

namespace Sys2Proof.Machine

open Sys2Proof

/-- HEARTBEAT_PERIOD (R394). `refresh` says that software has refreshed the generator since the last period. -/
def execHeartbeatPeriod (t : Nat) (refresh : Bool) (s : State) : Host.Outcome State Fault Refusal :=
  done t (work (heartbeatPeriod refresh)) s

/-- HEARTBEAT_STOP (R393). -/
def execHeartbeatStop (t : Nat) (s : State) : Host.Outcome State Fault Refusal :=
  done t (work (heartbeatStop)) s

/-- GRANT_LOST (R396). 0 PAIR_GRANT fell, 1 PAIR_FENCE rose; the ns for which the new level has been held. -/
def execGrantLost (t : Nat) (cause : Nat) (held : Nat) (s : State) : Host.Outcome State Fault Refusal :=
  done t (work (grantLost cause held)) s

/-- GRANT_SEEN (R406). The level of PAIR_FENCE, the SCLK cycles from the grant to step 7, and the ns for which the levels have
been held. -/
def execGrantSeen (t : Nat) (fence : Bool) (gap : Nat) (held : Nat) (s : State) : Host.Outcome State Fault Refusal :=
  done t (work (grantSeen fence gap held)) s

/-- PAIR_ANNOUNCE_REPEAT (R407). -/
def execPairAnnounceRepeat (t : Nat) (s : State) : Host.Outcome State Fault Refusal :=
  done t (work (announceRepeat)) s

/-- MOORING_IMAGE_START (R401). -/
def execMooringImageStart (t : Nat) (s : State) : Host.Outcome State Fault Refusal :=
  done t (work (imageStart)) s

/-- MOORING_PASS_END (R401). The node entries and buckets that the pass left dirty. -/
def execMooringPassEnd (t : Nat) (nodes : Nat) (buckets : Nat) (s : State) : Host.Outcome State Fault Refusal :=
  done t (work (passEnd nodes buckets)) s

/-- MOORING_FREEZE (R401). The length of the freeze in ns. -/
def execMooringFreeze (t : Nat) (ns : Nat) (s : State) : Host.Outcome State Fault Refusal :=
  done t (work (freeze ns)) s

/-- MOOR_STREAM_TIMEOUT (R403). -/
def execMoorStreamTimeout (t : Nat) (s : State) : Host.Outcome State Fault Refusal :=
  done t (work (moorTimeout)) s

/-- PR_IMAGE_AGE_EXPIRY (R404). -/
def execPrImageAgeExpiry (t : Nat) (s : State) : Host.Outcome State Fault Refusal :=
  done t (work (imageAgeExpiry)) s

/-- PR_TIME_HOLD_EXPIRY (R405). -/
def execPrTimeHoldExpiry (t : Nat) (s : State) : Host.Outcome State Fault Refusal :=
  done t (work (timeHoldExpiry)) s

/-- PR_CMD_IMAGE (R401). -/
def execPrCmdImage (t : Nat) (w : Who) (s : State) : Host.Outcome State Fault Refusal :=
  doneIf (whoOk w) t (work (writeMember w none R.PR_CMD 1)) s

/-- PR_CMD_YIELD (R409). -/
def execPrCmdYield (t : Nat) (w : Who) (s : State) : Host.Outcome State Fault Refusal :=
  doneIf (whoOk w) t (work (writeMember w none R.PR_CMD 2)) s

/-- PR_CMD_CANCEL_YIELD (R409). -/
def execPrCmdCancelYield (t : Nat) (w : Who) (s : State) : Host.Outcome State Fault Refusal :=
  doneIf (whoOk w) t (work (writeMember w none R.PR_CMD 3)) s

/-- PR_YIELD_EXPIRY (R409). -/
def execPrYieldExpiry (t : Nat) (s : State) : Host.Outcome State Fault Refusal :=
  done t (work (yieldExpiry)) s

/-- TIME_SYNC_TIMER (R431). -/
def execTimeSyncTimer (t : Nat) (s : State) : Host.Outcome State Fault Refusal :=
  done t (work (timeSyncTimer)) s

/-- PAIR_TIME_LOOP_TIMEOUT (R405). -/
def execPairTimeLoopTimeout (t : Nat) (s : State) : Host.Outcome State Fault Refusal :=
  done t (work (timeLoopTimeout)) s

/-- PAIR_STATUS_TIMER (R431). -/
def execPairStatusTimer (t : Nat) (s : State) : Host.Outcome State Fault Refusal :=
  done t (work (pairStatusTimer)) s

/-- PAIR_STATUS_TIMEOUT (R431). -/
def execPairStatusTimeout (t : Nat) (s : State) : Host.Outcome State Fault Refusal :=
  done t (work (pairStatusTimeout)) s

/-- WIT_START_WAIT_EXPIRY (R399). -/
def execWitStartWaitExpiry (t : Nat) (s : State) : Host.Outcome State Fault Refusal :=
  done t (work (witStart)) s

/-- WIT_HEARTBEAT_ALIVE (R399). The last sixteen periods at WIT_HB, oldest first: length and high time in ns. -/
def execWitHeartbeatAlive (t : Nat) (x : Nat) (ps : List (Nat × Nat)) (s : State) : Host.Outcome State Fault Refusal :=
  doneIf (unitOk x) t (work (witAliveNow x ps)) s

/-- WIT_HEARTBEAT_LOST (R399). -/
def execWitHeartbeatLost (t : Nat) (x : Nat) (s : State) : Host.Outcome State Fault Refusal :=
  doneIf (unitOk x) t (work (witLost x)) s

/-- WIT_TAKE_TIMEOUT (R399). -/
def execWitTakeTimeout (t : Nat) (s : State) : Host.Outcome State Fault Refusal :=
  done t (work (witTake)) s

/-- WIT_STATE_CODE (R399). The code, and the ns for which it has been held. -/
def execWitStateCode (t : Nat) (x : Nat) (code : Nat) (held : Nat) (s : State) : Host.Outcome State Fault Refusal :=
  doneIf (unitOk x && decide (code < 4)) t (work (witCodeNow x code held)) s

/-- WIT_CMD (R399). -/
def execWitCmd (t : Nat) (w : Who) (s : State) : Host.Outcome State Fault Refusal :=
  doneIf (whoOk w) t (work (writeMember w none R.WIT_CMD 1)) s

/-- WIT_FENCE_GAP_EXPIRY (R399). -/
def execWitFenceGapExpiry (t : Nat) (s : State) : Host.Outcome State Fault Refusal :=
  done t (work (witGap)) s

/-- WIT_FENCE_RELEASE (R398). -/
def execWitFenceRelease (t : Nat) (x : Nat) (s : State) : Host.Outcome State Fault Refusal :=
  doneIf (unitOk x) t (work (witFence x)) s

/-- FB_EN (R414). -/
def execFbEn (t : Nat) (w : Who) (l : Nat) (v : Word) (s : State) : Host.Outcome State Fault Refusal :=
  doneIf (whoOk w) t (work (writeMember w none (R.FB_EN l) v)) s

/-- FB_LANE_LOCK (R414). When the alignment marker of each lane arrived, in ps from a common instant (R413). -/
def execFbLaneLock (t : Nat) (l : Nat) (lanes : List Nat) (s : State) : Host.Outcome State Fault Refusal :=
  doneIf (linkOk l && lanes.length == 4) t (work (whenUp 13 (fabLaneLock l lanes))) s

/-- FB_TRAIN_TIMEOUT (R414). -/
def execFbTrainTimeout (t : Nat) (l : Nat) (s : State) : Host.Outcome State Fault Refusal :=
  doneIf (linkOk l) t (work (whenUp 13 (fabTrainTimeout l))) s

/-- FB_HELLO_TIMER (R414). -/
def execFbHelloTimer (t : Nat) (l : Nat) (s : State) : Host.Outcome State Fault Refusal :=
  doneIf (linkOk l) t (work (whenUp 13 (fabHelloTimer l))) s

/-- FB_HELLO_RX (R415). -/
def execFbHelloRx (t : Nat) (l : Nat) (ws : List Nat) (s : State) : Host.Outcome State Fault Refusal :=
  doneIf (linkOk l && words ws) t (work (whenUp 13 (fabHelloRx l ws))) s

/-- FB_REFUSED_EXPIRY (R414). -/
def execFbRefusedExpiry (t : Nat) (l : Nat) (s : State) : Host.Outcome State Fault Refusal :=
  doneIf (linkOk l) t (work (whenUp 13 (fabRefusedExpiry l))) s

/-- FB_LINK_DOWN (R421). 0 silence, 1 sixteen replays, 2 lost lane lock. -/
def execFbLinkDown (t : Nat) (l : Nat) (cause : Nat) (s : State) : Host.Outcome State Fault Refusal :=
  doneIf (linkOk l) t (work (whenUp 13 (fabLinkDown l cause))) s

/-- FB_PACKET_RX (R418). -/
def execFbPacketRx (t : Nat) (l : Nat) (ws : List Nat) (s : State) : Host.Outcome State Fault Refusal :=
  doneIf (linkOk l && words ws) t (work (whenUp 13 (fabPacketRx l ws))) s

/-- FB_NAK_RX (R418). -/
def execFbNakRx (t : Nat) (l : Nat) (ws : List Nat) (s : State) : Host.Outcome State Fault Refusal :=
  doneIf (linkOk l && words ws) t (work (whenUp 13 (fabNakRx l ws))) s

/-- FB_STATUS_RX (R417). -/
def execFbStatusRx (t : Nat) (l : Nat) (ws : List Nat) (s : State) : Host.Outcome State Fault Refusal :=
  doneIf (linkOk l && words ws) t (work (whenUp 13 (fabStatusRx l ws))) s

/-- FB_STATUS_TIMER (R417). -/
def execFbStatusTimer (t : Nat) (l : Nat) (s : State) : Host.Outcome State Fault Refusal :=
  doneIf (linkOk l) t (work (whenUp 13 (fabStatusTimer l))) s

/-- TOPO_TIMER (R425). -/
def execTopoTimer (t : Nat) (s : State) : Host.Outcome State Fault Refusal :=
  done t (work (whenUp 13 fabTopo)) s

end Sys2Proof.Machine
end

