-- ==== Sys2Proof/Machine/RadioRows.lean ====
section
/-! DEFINITION. Rows of the radio ports, the channelizer and the receive lanes (chapters 05 and 06). -/

namespace Sys2Proof.Machine

open Sys2Proof

/-- TILE_TIMED_COMMAND (R12): the command and the device time `u` in ns that it carries. -/
def execTileTimedCommand (t : Nat) (p : Nat) (u : Nat) (c : TileCmd) (s : State) : Host.Outcome State Fault Refusal :=
  doneIf (portOk p) t (work (whenUp (1 + p / 6) (tileCommand p u c))) s

/-- RX_BLOCK_CRC_FAIL (R13). -/
def execRxBlockCrcFail (t : Nat) (p : Nat) (s : State) : Host.Outcome State Fault Refusal :=
  doneIf (portOk p) t (work (whenUp (1 + p / 6) (rxCrcFail p))) s

/-- TX_BLOCK_CRC_FAIL (R13). -/
def execTxBlockCrcFail (t : Nat) (p : Nat) (s : State) : Host.Outcome State Fault Refusal :=
  doneIf (portOk p) t (work (whenUp (1 + p / 6) (txCrcFail p))) s

/-- P_ENABLE (R117). -/
def execPEnable (t : Nat) (w : Who) (p : Nat) (v : Word) (s : State) : Host.Outcome State Fault Refusal :=
  doneIf (whoOk w) t (work (writeMember w none (R.P_ENABLE p) v)) s

/-- RX_SYNTH_UNLOCK (R118). -/
def execRxSynthUnlock (t : Nat) (p : Nat) (s : State) : Host.Outcome State Fault Refusal :=
  doneIf (portOk p) t (work (whenUp (1 + p / 6) (rxUnlock p))) s

/-- PORT_STARTED (R117). The input at which the AGC settles is `pow` quarter dBm. -/
def execPortStarted (t : Nat) (p : Nat) (pow : Int) (s : State) : Host.Outcome State Fault Refusal :=
  doneIf (portOk p) t (work (whenUp (1 + p / 6) (portStarted p pow))) s

/-- TS_CALIBRATION_DONE (R123): the synthesiser locks, or, `settled`, it has settled. -/
def execTsCalibrationDone (t : Nat) (p : Nat) (settled : Bool) (s : State) : Host.Outcome State Fault Refusal :=
  doneIf (portOk p) t (work (whenUp (1 + p / 6) (calDone p settled))) s

/-- TS_CALIBRATION_FAIL (R124). -/
def execTsCalibrationFail (t : Nat) (p : Nat) (s : State) : Host.Outcome State Fault Refusal :=
  doneIf (portOk p) t (work (whenUp (1 + p / 6) (calFail p))) s

/-- COEX_GRANT_SAMPLE (R126). COEX_GNT has stood at `ball` for `held` ns. -/
def execCoexGrantSample (t : Nat) (p : Nat) (ball : Bool) (held : Nat) (s : State) : Host.Outcome State Fault Refusal :=
  doneIf (portOk p) t (work (whenUp 7 (grantSample p ball held))) s

/-- KEYING_START (R126). The I and Q samples of the modulated frame, in DAC steps. -/
def execKeyingStart (t : Nat) (p : Nat) (samples : List (Int × Int)) (s : State) : Host.Outcome State Fault Refusal :=
  doneIf (portOk p) t (work (whenUp 7 (keyingStart p samples))) s

/-- TX_FRAME_END (R126). -/
def execTxFrameEnd (t : Nat) (p : Nat) (s : State) : Host.Outcome State Fault Refusal :=
  doneIf (portOk p) t (work (whenUp 7 (txFrameEnd p))) s

/-- COEX_GRANT_WITHDRAWN (R137). The grant is absent for `held` ns; for each port of the tile, the ns to its next symbol boundary. -/
def execCoexGrantWithdrawn (t : Nat) (tile : Nat) (held : Nat) (gaps : List Nat) (s : State) : Host.Outcome State Fault Refusal :=
  doneIf (tileOk tile) t (work (whenUp 7 (grantWithdrawn tile held gaps))) s

/-- MASK_VIOLATION (R132). A bin, and the powers of the bins in two analysis periods. -/
def execMaskViolation (t : Nat) (p : Nat) (bin : Int) (first : List (Int × Nat)) (second : List (Int × Nat)) (s : State) : Host.Outcome State Fault Refusal :=
  doneIf (portOk p) t (work (whenUp (1 + p / 6) (maskViolation p bin first second))) s

/-- P_TX_UNLOCK (R124). -/
def execPTxUnlock (t : Nat) (w : Who) (p : Nat) (s : State) : Host.Outcome State Fault Refusal :=
  doneIf (whoOk w) t (work (writeMember w none (R.P_TX_UNLOCK p) 1)) s

/-- AGC_BREAK (R134). `clipped` of the last 128 ADC samples clip. -/
def execAgcBreak (t : Nat) (p : Nat) (clipped : Nat) (s : State) : Host.Outcome State Fault Refusal :=
  doneIf (portOk p && decide (clipped ≤ 128)) t (work (whenUp (1 + p / 6) (agcBreak p clipped))) s

/-- AGC_SETTLING_END (R135). The input at which the AGC settles is `pow` quarter dBm. -/
def execAgcSettlingEnd (t : Nat) (p : Nat) (pow : Int) (s : State) : Host.Outcome State Fault Refusal :=
  doneIf (portOk p) t (work (whenUp (1 + p / 6) (agcSettled p pow))) s

/-- LNA_BYPASS_CHANGE (R136). `power` is the input power. -/
def execLnaBypassChange (t : Nat) (p : Nat) (power : Int) (s : State) : Host.Outcome State Fault Refusal :=
  doneIf (portOk p) t (work (whenUp (1 + p / 6) (lnaChange p power))) s

/-- WAKE_PATTERN_ACCEPTED (R140). The bits of its preamble, its start delimiter and its word. -/
def execWakePatternAccepted (t : Nat) (preamble : Nat) (delimiter : Nat) (word : Nat) (s : State) : Host.Outcome State Fault Refusal :=
  doneIf (decide (word < 2 ^ 32) && decide (delimiter < 2 ^ 8)) t (work (wakePattern preamble delimiter word)) s

/-- LANE_BIND_CELL (R152). -/
def execLaneBindCell (t : Nat) (p : Nat) (s : State) : Host.Outcome State Fault Refusal :=
  doneIf (portOk p) t (work (whenUp 7 (laneBindCells p))) s

/-- LANE_UNBIND (R152). -/
def execLaneUnbind (t : Nat) (p : Nat) (s : State) : Host.Outcome State Fault Refusal :=
  doneIf (portOk p) t (work (whenUp 7 (laneUnbind p))) s

/-- PREAMBLE_DETECT (R155). The preamble symbols that have arrived, and levels in quarter dB from full scale ahead of the digital gain. -/
def execPreambleDetect (t : Nat) (l : Nat) (symbols : Nat) (lvl : Int) (noise : Int) (s : State) : Host.Outcome State Fault Refusal :=
  doneIf (laneOk l) t (work (whenUp 5 (preambleDetect l symbols lvl noise))) s

/-- PREAMBLE_CAPTURE (R157). -/
def execPreambleCapture (t : Nat) (l : Nat) (margin : Int) (s : State) : Host.Outcome State Fault Refusal :=
  doneIf (laneOk l) t (work (whenUp 5 (preambleCapture l margin))) s

/-- SYNC_MISS (R158). -/
def execSyncMiss (t : Nat) (l : Nat) (s : State) : Host.Outcome State Fault Refusal :=
  doneIf (laneOk l) t (work (whenUp 5 (syncMiss l))) s

/-- SFD_DETECT (R156). -/
def execSfdDetect (t : Nat) (l : Nat) (fec : Bool) (sync : Nat) (lvl : Int) (cfo : Int) (s : State) : Host.Outcome State Fault Refusal :=
  doneIf (laneOk l) t (work (whenUp 5 (sfdDetect l fec sync lvl cfo))) s

/-- PHR_RECEIVED (R147). -/
def execPhrReceived (t : Nat) (l : Nat) (good : Bool) (len : Nat) (modeSwitch : Bool) (sel : Nat) (fcs4 : Bool) (s : State) : Host.Outcome State Fault Refusal :=
  doneIf (laneOk l) t (work (whenUp 5 (phrReceived l good len modeSwitch sel fcs4))) s

/-- RX_FRAME_END (R159). -/
def execRxFrameEnd (t : Nat) (l : Nat) (psdu : List Nat) (soft : List Int) (s : State) : Host.Outcome State Fault Refusal :=
  doneIf (laneOk l && octets psdu) t (work (whenUp 5 (rxFrameEnd l psdu soft))) s

/-- ED_DETECTOR_FREE (R163). -/
def execEdDetectorFree (t : Nat) (p : Nat) (s : State) : Host.Outcome State Fault Refusal :=
  doneIf (portOk p) t (work (whenUp 5 (edFree p))) s

/-- ED_RESULT (R163). The detector that serves request `req` measured `power` quarter dBm. -/
def execEdResult (t : Nat) (req : Nat) (power : Int) (s : State) : Host.Outcome State Fault Refusal :=
  done t (work (whenUp 5 (edResult req power))) s

end Sys2Proof.Machine
end

