-- ==== Sys2Proof/Machine/ResetRows.lean ====
section
/-! DEFINITION. Rows of reset, clocks and power states (chapter 21). -/

namespace Sys2Proof.Machine

open Sys2Proof

/-- VBAT_POR (R477). VBAT in mV, from a battery or tied to VDD_IO18 (R52). -/
def execVbatPor (t : Nat) (mv : Nat) (tied : Bool) (s : State) : Host.Outcome State Fault Refusal :=
  done t (work (if mv < 1700 then vbatLow else vbatHigh tied)) s

/-- RAILS_GOOD (R484). The levels of the 24 rails in units of 0.1 mV, in the order of RC_RAILS. -/
def execRailsGood (t : Nat) (pins : Nat) (mv : List Nat) (s : State) : Host.Outcome State Fault Refusal :=
  doneIf (pinsOk pins && decide (mv.length = 24)) t (work (railsGood pins mv)) s

/-- BROWN_OUT (R477). Rails and their levels in units of 0.1 mV. -/
def execBrownOut (t : Nat) (mv : List (Nat × Nat)) (s : State) : Host.Outcome State Fault Refusal :=
  doneIf (mv.all fun x => decide (x.1 < 24)) t (work (brownOut mv)) s

/-- RESET_N_ASSERT (R477). The strap levels, and the ns for which the ball has been low. -/
def execResetNAssert (t : Nat) (pins : Nat) (held : Nat) (s : State) : Host.Outcome State Fault Refusal :=
  doneIf (pinsOk pins) t (work (resetPin true pins held)) s

/-- RESET_N_RELEASE (R481). The strap levels, and the ns for which the ball has been high. -/
def execResetNRelease (t : Nat) (pins : Nat) (held : Nat) (s : State) : Host.Outcome State Fault Refusal :=
  doneIf (pinsOk pins) t (work (resetPin false pins held)) s

/-- PLL_LOCK (R484). -/
def execPllLock (t : Nat) (d : Nat) (s : State) : Host.Outcome State Fault Refusal :=
  doneIf (domainOk d) t (work (pllLock d)) s

/-- CLOCK_GOOD (R486). -/
def execClockGood (t : Nat) (d : Nat) (pins : Nat) (s : State) : Host.Outcome State Fault Refusal :=
  doneIf (domainOk d && pinsOk pins) t (work (clockGood d pins)) s

/-- DRAM_TRAINED (R438). The installed GiB, and the speeds in MT/s at which channel 0 and channel 1 train. -/
def execDramTrained (t : Nat) (pins : Nat) (cap : Nat) (a : List Nat) (b : List Nat) (s : State) : Host.Outcome State Fault Refusal :=
  doneIf (pinsOk pins && capOk cap) t (work (dramTrained pins cap a b)) s

/-- BOOT_IMAGE_VERIFIED (R489). -/
def execBootImageVerified (t : Nat) (bank : Nat) (s : State) : Host.Outcome State Fault Refusal :=
  doneIf (decide (bank < 2)) t (work (bootVerified bank)) s

/-- BOOT_FAILED (R489). -/
def execBootFailed (t : Nat) (s : State) : Host.Outcome State Fault Refusal :=
  done t (work (bootFailed)) s

/-- BT_WRITE (R490). -/
def execBtWrite (t : Nat) (w : Who) (n : Word) (s : State) : Host.Outcome State Fault Refusal :=
  doneIf (whoOk w) t (work (writeMember w none R.BT_WRITE n)) s

/-- BT_DONE (R490). -/
def execBtDone (t : Nat) (w : Who) (len : Word) (s : State) : Host.Outcome State Fault Refusal :=
  doneIf (whoOk w) t (work (writeMember w none R.BT_DONE len)) s

/-- BOOT_IMAGE_REFUSED (R490). -/
def execBootImageRefused (t : Nat) (s : State) : Host.Outcome State Fault Refusal :=
  done t (work (bootRefused)) s

/-- CLOCK_WINDOW (R492). The frequency measured in each domain. -/
def execClockWindow (t : Nat) (meas : List (Nat × Nat)) (s : State) : Host.Outcome State Fault Refusal :=
  done t (work (clockWindow meas)) s

/-- SM_WATCHDOG_EXPIRY (R478). The SCLK cycle in which the SM firmware last refreshed the watchdog, or in which it was armed. -/
def execSmWatchdogExpiry (t : Nat) (last : Nat) (s : State) : Host.Outcome State Fault Refusal :=
  done t (work (smWatchdog last)) s

/-- SM_LOCKUP (R478). The cycles for which the SM core has retired no instruction. -/
def execSmLockup (t : Nat) (cycles : Nat) (s : State) : Host.Outcome State Fault Refusal :=
  done t (work (smLockup cycles)) s

/-- AC_WATCHDOG_EXPIRY (R478). -/
def execAcWatchdogExpiry (t : Nat) (c : Nat) (s : State) : Host.Outcome State Fault Refusal :=
  doneIf (coreOk c) t (work (acWatchdog c)) s

/-- AC_LOCKUP (R478). The cycles for which the core has retired no instruction. -/
def execAcLockup (t : Nat) (c : Nat) (cycles : Nat) (s : State) : Host.Outcome State Fault Refusal :=
  doneIf (coreOk c) t (work (acLockup c cycles)) s

/-- AC_WD_KICK (R478). -/
def execAcWdKick (t : Nat) (w : Who) (c : Nat) (s : State) : Host.Outcome State Fault Refusal :=
  doneIf (whoOk w) t (work (writeMember w none (R.AC_WD_KICK c) 1)) s

/-- LEGACY_RESET (R480). -/
def execLegacyReset (t : Nat) (w : Who) (s : State) : Host.Outcome State Fault Refusal :=
  doneIf (whoOk w) t (work (writeMember w none R.LEGACY_RESET 0x5A)) s

/-- RS_REQ_CORE (R479). -/
def execRsReqCore (t : Nat) (w : Who) (c : Nat) (hold : Bool) (s : State) : Host.Outcome State Fault Refusal :=
  doneIf (whoOk w && decide (c < 32)) t (work (writeMember w none R.RS_REQ (resetWord 0 c hold))) s

/-- RS_REQ_BLOCK (R479). -/
def execRsReqBlock (t : Nat) (w : Who) (blk : Nat) (hold : Bool) (s : State) : Host.Outcome State Fault Refusal :=
  doneIf (whoOk w && decide (blk < 32)) t (work (writeMember w none R.RS_REQ (resetWord 1 blk hold))) s

/-- RS_REQ_SYSTEM (R479). -/
def execRsReqSystem (t : Nat) (w : Who) (s : State) : Host.Outcome State Fault Refusal :=
  doneIf (whoOk w) t (work (writeMember w none R.RS_REQ (resetWord 2 0 false))) s

/-- RS_REQ_CHIP (R479). -/
def execRsReqChip (t : Nat) (w : Who) (s : State) : Host.Outcome State Fault Refusal :=
  doneIf (whoOk w) t (work (writeMember w none R.RS_REQ (resetWord 3 0 false))) s

/-- RS_REQ_BACKUP (R479). -/
def execRsReqBackup (t : Nat) (w : Who) (s : State) : Host.Outcome State Fault Refusal :=
  doneIf (whoOk w) t (work (writeMember w none R.RS_REQ (resetWord 4 0 false))) s

/-- RS_RELEASE (R479). -/
def execRsRelease (t : Nat) (w : Who) (reach : Nat) (target : Nat) (s : State) : Host.Outcome State Fault Refusal :=
  doneIf (whoOk w && decide (reach < 8) && decide (target < 32)) t (work (writeMember w none R.RS_RELEASE (resetWord reach target false))) s

/-- DEBUG_RESET_REQUEST (R477). Hart 10 stands for ndmreset. -/
def execDebugResetRequest (t : Nat) (hart : Nat) (active : Bool) (pins : Nat) (s : State) : Host.Outcome State Fault Refusal :=
  doneIf (decide (hart ≤ 10) && pinsOk pins) t (work (debugReset hart active pins)) s

/-- RESET_PULSE_END (R481). -/
def execResetPulseEnd (t : Nat) (pins : Nat) (s : State) : Host.Outcome State Fault Refusal :=
  doneIf (pinsOk pins) t (work (pulseEnd pins)) s

/-- BLOCK_RESET_ASSERT (R487). `iso` transfers ended ISOERR. -/
def execBlockResetAssert (t : Nat) (blk : Nat) (iso : Nat) (s : State) : Host.Outcome State Fault Refusal :=
  doneIf (resetBlockOk blk) t (work (blockIsolated blk iso)) s

/-- WRAPPER_OPEN (R487). -/
def execWrapperOpen (t : Nat) (blk : Nat) (s : State) : Host.Outcome State Fault Refusal :=
  doneIf (resetBlockOk blk) t (work (wrapperOpen blk)) s

/-- CORE_RESET (R476). DEDUCED: log 120. -/
def execCoreReset (t : Nat) (c : Nat) (s : State) : Host.Outcome State Fault Refusal :=
  doneIf (coreOk c) t (work (.read fun s => onlyIf (s.coreHeld c) (coreReset c))) s

/-- DOZE_ENTRY (R493). Bit c of `wfi`: core c is in WFI. -/
def execDozeEntry (t : Nat) (wfi : Nat) (s : State) : Host.Outcome State Fault Refusal :=
  done t (work (dozeEntry wfi)) s

/-- DOZE_EXIT (R493). `halt`: the debugger asks for a halt. -/
def execDozeExit (t : Nat) (halt : Bool) (s : State) : Host.Outcome State Fault Refusal :=
  done t (work (dozeExit halt)) s

/-- PFAIL_WARNING (R494). The level of PFAIL_SENSE in mV. -/
def execPfailWarning (t : Nat) (mv : Nat) (s : State) : Host.Outcome State Fault Refusal :=
  done t (work (pfail mv)) s

/-- MAINS_GOOD (R493). The lowest level in mV that PFAIL_SENSE has had over the last `held` ms. -/
def execMainsGood (t : Nat) (mv : Nat) (held : Nat) (s : State) : Host.Outcome State Fault Refusal :=
  done t (work (mainsGood mv held)) s

/-- HOLD_AFTER_EXPIRY (R493). -/
def execHoldAfterExpiry (t : Nat) (s : State) : Host.Outcome State Fault Refusal :=
  done t (work (holdAfter)) s

/-- HOLD_EXIT (R493). The level of PFAIL_SENSE in mV. -/
def execHoldExit (t : Nat) (mv : Nat) (s : State) : Host.Outcome State Fault Refusal :=
  done t (work (holdExit mv)) s

/-- PW_CMD (R493). -/
def execPwCmd (t : Nat) (w : Who) (s : State) : Host.Outcome State Fault Refusal :=
  doneIf (whoOk w) t (work (writeMember w none R.PW_CMD 1)) s

/-- TAMPER_LATCH (R497). The input, and the ns for which it has been low. -/
def execTamperLatch (t : Nat) (n : Nat) (held : Nat) (s : State) : Host.Outcome State Fault Refusal :=
  doneIf (decide (n < 2)) t (work (tamper n held)) s

/-- BK_TAMPER_CLR (R497). `high` is the mask of the inputs that are high. -/
def execBkTamperClr (t : Nat) (w : Who) (high : Nat) (s : State) : Host.Outcome State Fault Refusal :=
  doneIf (whoOk w) t (work (writeMember w (some high) R.BK_TAMPER_CLR 1)) s

/-- RTC_CMD_SET (R498). -/
def execRtcCmdSet (t : Nat) (w : Who) (s : State) : Host.Outcome State Fault Refusal :=
  doneIf (whoOk w) t (work (writeMember w none R.RTC_CMD 1)) s

/-- RTC_CMD_INVALIDATE (R498). -/
def execRtcCmdInvalidate (t : Nat) (w : Who) (s : State) : Host.Outcome State Fault Refusal :=
  doneIf (whoOk w) t (work (writeMember w none R.RTC_CMD 2)) s

/-- RTC_AUTO_SET (R498). -/
def execRtcAutoSet (t : Nat) (s : State) : Host.Outcome State Fault Refusal :=
  done t (work (rtcAuto)) s

/-- CRYSTAL_FAIL (R498). -/
def execCrystalFail (t : Nat) (s : State) : Host.Outcome State Fault Refusal :=
  done t (work (crystalFail)) s

/-- THERMAL_SAMPLE (R499). -/
def execThermalSample (t : Nat) (temp : Int) (s : State) : Host.Outcome State Fault Refusal :=
  done t (work (thermal temp)) s

end Sys2Proof.Machine
end

