-- ==== Sys2Proof/Machine/TimeRows.lean ====
section
/-! DEFINITION. Rows of backhaul Ethernet and network time (chapter 16). -/

namespace Sys2Proof.Machine

open Sys2Proof

/-- ETH_RX_FRAME (R373). -/
def execEthRxFrame (t : Nat) (e : Nat) (f : List Nat) (fcsOk : Bool) (s : State) : Host.Outcome State Fault Refusal :=
  doneIf (ethOk e && octets f) t (work (whenUp 12 (ethRx e f fcsOk))) s

/-- ETH_LINK_UP (R376). -/
def execEthLinkUp (t : Nat) (e : Nat) (speed : Nat) (s : State) : Host.Outcome State Fault Refusal :=
  doneIf (ethOk e) t (work (whenUp 12 (ethUp e speed))) s

/-- ETH_LINK_DOWN (R376). -/
def execEthLinkDown (t : Nat) (e : Nat) (s : State) : Host.Outcome State Fault Refusal :=
  doneIf (ethOk e) t (work (ethDown e)) s

/-- MDIO_READ (R371). -/
def execMdioRead (t : Nat) (w : Who) (v : Word) (s : State) : Host.Outcome State Fault Refusal :=
  doneIf (whoOk w && !(mdioWrites v)) t (work (writeMember w none R.MD_CMD v)) s

/-- MDIO_WRITE (R371). -/
def execMdioWrite (t : Nat) (w : Who) (v : Word) (s : State) : Host.Outcome State Fault Refusal :=
  doneIf (whoOk w && mdioWrites v) t (work (writeMember w none R.MD_CMD v)) s

/-- MDIO_DONE (R371). `ans` is what the PHY answered. -/
def execMdioDone (t : Nat) (ans : Option Nat) (s : State) : Host.Outcome State Fault Refusal :=
  done t (work (mdioDone ans)) s

/-- TU_CMD_STEP (R378). -/
def execTuCmdStep (t : Nat) (w : Who) (s : State) : Host.Outcome State Fault Refusal :=
  doneIf (whoOk w) t (work (writeMember w none R.TU_CMD 1)) s

/-- TU_CMD_SET (R378). -/
def execTuCmdSet (t : Nat) (w : Who) (s : State) : Host.Outcome State Fault Refusal :=
  doneIf (whoOk w) t (work (writeMember w none R.TU_CMD 2)) s

/-- PTP_SYNC_TIMER (R382). -/
def execPtpSyncTimer (t : Nat) (e : Nat) (s : State) : Host.Outcome State Fault Refusal :=
  doneIf (portEthOk e) t (work (whenUp 12 (ptpSyncTimer e))) s

/-- PTP_DELAY_REQ_TIMER (R382). -/
def execPtpDelayReqTimer (t : Nat) (e : Nat) (s : State) : Host.Outcome State Fault Refusal :=
  doneIf (portEthOk e) t (work (whenUp 12 (ptpDelayTimer e))) s

/-- PTP_PDELAY_REQ_TIMER (R382). -/
def execPtpPdelayReqTimer (t : Nat) (e : Nat) (s : State) : Host.Outcome State Fault Refusal :=
  doneIf (portEthOk e) t (work (whenUp 12 (ptpPdelayTimer e))) s

/-- PTP_SYNC_RX (R383). -/
def execPtpSyncRx (t : Nat) (e : Nat) (m : PtpMsg) (s : State) : Host.Outcome State Fault Refusal :=
  doneIf (portEthOk e) t (work (whenUp 12 (ptpSyncRx e m))) s

/-- PTP_FOLLOW_UP_RX (R383). -/
def execPtpFollowUpRx (t : Nat) (e : Nat) (m : PtpMsg) (s : State) : Host.Outcome State Fault Refusal :=
  doneIf (portEthOk e) t (work (whenUp 12 (ptpFollowUpRx e m))) s

/-- PTP_DELAY_REQ_RX (R382). -/
def execPtpDelayReqRx (t : Nat) (e : Nat) (m : PtpMsg) (s : State) : Host.Outcome State Fault Refusal :=
  doneIf (portEthOk e) t (work (whenUp 12 (ptpDelayReqRx e m))) s

/-- PTP_DELAY_RESP_RX (R383). -/
def execPtpDelayRespRx (t : Nat) (e : Nat) (m : PtpMsg) (s : State) : Host.Outcome State Fault Refusal :=
  doneIf (portEthOk e) t (work (whenUp 12 (ptpDelayRespRx e m))) s

/-- PTP_PDELAY_REQ_RX (R382). -/
def execPtpPdelayReqRx (t : Nat) (e : Nat) (m : PtpMsg) (s : State) : Host.Outcome State Fault Refusal :=
  doneIf (portEthOk e) t (work (whenUp 12 (ptpPdelayReqRx e m))) s

/-- PTP_PDELAY_RESP_RX (R383). `u3` is the time of the responder's follow-up. -/
def execPtpPdelayRespRx (t : Nat) (e : Nat) (m : PtpMsg) (u3 : Nat) (s : State) : Host.Outcome State Fault Refusal :=
  doneIf (portEthOk e) t (work (whenUp 12 (ptpPdelayRespRx e m u3))) s

/-- PP_STATE (R381). -/
def execPpState (t : Nat) (w : Who) (e : Nat) (v : Word) (s : State) : Host.Outcome State Fault Refusal :=
  doneIf (whoOk w) t (work (writeMember w none (R.PP_STATE e) v)) s

/-- PP_PARENT_WRITE (R385). -/
def execPpParentWrite (t : Nat) (w : Who) (e : Nat) (id : Bool) (v : Word) (s : State) : Host.Outcome State Fault Refusal :=
  doneIf (whoOk w) t (work (writeMember w none (if id then R.PP_PARENT_ID e else R.PP_PARENT_PORT e) v)) s

/-- SV_LOSS_TIMEOUT (R385). -/
def execSvLossTimeout (t : Nat) (s : State) : Host.Outcome State Fault Refusal :=
  done t (work (svLoss)) s

/-- SV_SOURCE (R385). -/
def execSvSource (t : Nat) (w : Who) (v : Word) (s : State) : Host.Outcome State Fault Refusal :=
  doneIf (whoOk w) t (work (writeMember w none R.SV_SOURCE v)) s

/-- TQ_ENTRY_READ (R387). -/
def execTqEntryRead (t : Nat) (m : Nat) (q : Nat) (s : State) : Host.Outcome State Fault Refusal :=
  doneIf (masterOk m) t (work (apRead m (R.TQ_ENTRY q) 0)) s

/-- PPS_IN_EDGE (R388). -/
def execPpsInEdge (t : Nat) (rising : Bool) (s : State) : Host.Outcome State Fault Refusal :=
  done t (work (ppsIn rising)) s

/-- PPS_IN_LOST (R388). -/
def execPpsInLost (t : Nat) (s : State) : Host.Outcome State Fault Refusal :=
  done t (work (ppsLost)) s

/-- PPS_OUT_PULSE (R389). -/
def execPpsOutPulse (t : Nat) (s : State) : Host.Outcome State Fault Refusal :=
  done t (work (ppsOut)) s

/-- PPS_EN (R389). -/
def execPpsEn (t : Nat) (w : Who) (s : State) : Host.Outcome State Fault Refusal :=
  doneIf (whoOk w) t (work (writeMember w none R.PPS_EN 1)) s

/-- TREF_VALIDITY_CHANGE (R390). `hz` is the frequency measured at TREF_IN. -/
def execTrefValidityChange (t : Nat) (hz : Nat) (s : State) : Host.Outcome State Fault Refusal :=
  done t (work (trefChange hz)) s

end Sys2Proof.Machine
end

