-- ==== Sys2Proof/Machine/Dispatch.lean ====
section
/-! DEFINITION. The effect of every command of the table: one arm per row. -/

namespace Sys2Proof.Machine

open Sys2Proof

def exec (i : Instr) (s : State) : Host.Outcome State Fault Refusal :=
  match i with
  | .objectWrite t w r vals => Sys2Proof.Machine.execObjectWrite t w r vals s
  | .setAliasWrite t m r v => Sys2Proof.Machine.execSetAliasWrite t m r v s
  | .clearAliasWrite t m r v => Sys2Proof.Machine.execClearAliasWrite t m r v s
  | .apertureError t m addr size write => Sys2Proof.Machine.execApertureError t m addr size write s
  | .agentAccessTimeout t w => Sys2Proof.Machine.execAgentAccessTimeout t w s
  | .wideValueRead t m r => Sys2Proof.Machine.execWideValueRead t m r s
  | .hello t msg => Sys2Proof.Machine.execHello t msg s
  | .auth t msg => Sys2Proof.Machine.execAuth t msg s
  | .authTimeout t k => Sys2Proof.Machine.execAuthTimeout t k s
  | .authLockoutEnd t key => Sys2Proof.Machine.execAuthLockoutEnd t key s
  | .close t msg => Sys2Proof.Machine.execClose t msg s
  | .keepalive t msg => Sys2Proof.Machine.execKeepalive t msg s
  | .keepaliveTimeout t k => Sys2Proof.Machine.execKeepaliveTimeout t k s
  | .sessionCloseComplete t k => Sys2Proof.Machine.execSessionCloseComplete t k s
  | .sKill t w k => Sys2Proof.Machine.execSKill t w k s
  | .read t msg => Sys2Proof.Machine.execRead t msg s
  | .write t msg => Sys2Proof.Machine.execWrite t msg s
  | .setBits t msg => Sys2Proof.Machine.execSetBits t msg s
  | .clearBits t msg => Sys2Proof.Machine.execClearBits t msg s
  | .txnOpen t msg => Sys2Proof.Machine.execTxnOpen t msg s
  | .txnCommit t msg => Sys2Proof.Machine.execTxnCommit t msg s
  | .txnAbort t msg => Sys2Proof.Machine.execTxnAbort t msg s
  | .subscribe t msg => Sys2Proof.Machine.execSubscribe t msg s
  | .ddpEventSend t k => Sys2Proof.Machine.execDdpEventSend t k s
  | .mbxDoorbell t w k msg bad rspBad => Sys2Proof.Machine.execMbxDoorbell t w k msg bad rspBad s
  | .aOpen t m => Sys2Proof.Machine.execAOpen t m s
  | .aBind t m h => Sys2Proof.Machine.execABind t m h s
  | .aCommit t m => Sys2Proof.Machine.execACommit t m s
  | .aAbort t m => Sys2Proof.Machine.execAAbort t m s
  | .tLinkWrite t w h v => Sys2Proof.Machine.execTLinkWrite t w h v s
  | .txnLockTimeout t => Sys2Proof.Machine.execTxnLockTimeout t s
  | .txnLockGranted t => Sys2Proof.Machine.execTxnLockGranted t s
  | .txnApply t h => Sys2Proof.Machine.execTxnApply t h s
  | .txnIdleTimeout t => Sys2Proof.Machine.execTxnIdleTimeout t s
  | .txnOutcomeQueryTimer t h => Sys2Proof.Machine.execTxnOutcomeQueryTimer t h s
  | .txnOutcomeTimeout t h => Sys2Proof.Machine.execTxnOutcomeTimeout t h s
  | .wWrite t w n => Sys2Proof.Machine.execWWrite t w n s
  | .wSeal t w => Sys2Proof.Machine.execWSeal t w s
  | .slErase t w k => Sys2Proof.Machine.execSlErase t w k s
  | .modeApply t w => Sys2Proof.Machine.execModeApply t w s
  | .tileTimedCommand t p u c => Sys2Proof.Machine.execTileTimedCommand t p u c s
  | .rxBlockCrcFail t p => Sys2Proof.Machine.execRxBlockCrcFail t p s
  | .txBlockCrcFail t p => Sys2Proof.Machine.execTxBlockCrcFail t p s
  | .pEnable t w p v => Sys2Proof.Machine.execPEnable t w p v s
  | .rxSynthUnlock t p => Sys2Proof.Machine.execRxSynthUnlock t p s
  | .portStarted t p pow => Sys2Proof.Machine.execPortStarted t p pow s
  | .tsCalibrationDone t p settled => Sys2Proof.Machine.execTsCalibrationDone t p settled s
  | .tsCalibrationFail t p => Sys2Proof.Machine.execTsCalibrationFail t p s
  | .coexGrantSample t p ball held => Sys2Proof.Machine.execCoexGrantSample t p ball held s
  | .keyingStart t p samples => Sys2Proof.Machine.execKeyingStart t p samples s
  | .txFrameEnd t p => Sys2Proof.Machine.execTxFrameEnd t p s
  | .coexGrantWithdrawn t tile held gaps => Sys2Proof.Machine.execCoexGrantWithdrawn t tile held gaps s
  | .maskViolation t p bin first second => Sys2Proof.Machine.execMaskViolation t p bin first second s
  | .pTxUnlock t w p => Sys2Proof.Machine.execPTxUnlock t w p s
  | .agcBreak t p clipped => Sys2Proof.Machine.execAgcBreak t p clipped s
  | .agcSettlingEnd t p pow => Sys2Proof.Machine.execAgcSettlingEnd t p pow s
  | .lnaBypassChange t p power => Sys2Proof.Machine.execLnaBypassChange t p power s
  | .wakePatternAccepted t preamble delimiter word => Sys2Proof.Machine.execWakePatternAccepted t preamble delimiter word s
  | .laneBindCell t p => Sys2Proof.Machine.execLaneBindCell t p s
  | .laneUnbind t p => Sys2Proof.Machine.execLaneUnbind t p s
  | .preambleDetect t l symbols lvl noise => Sys2Proof.Machine.execPreambleDetect t l symbols lvl noise s
  | .preambleCapture t l margin => Sys2Proof.Machine.execPreambleCapture t l margin s
  | .syncMiss t l => Sys2Proof.Machine.execSyncMiss t l s
  | .sfdDetect t l fec sync lvl cfo => Sys2Proof.Machine.execSfdDetect t l fec sync lvl cfo s
  | .phrReceived t l good len modeSwitch sel fcs4 => Sys2Proof.Machine.execPhrReceived t l good len modeSwitch sel fcs4 s
  | .rxFrameEnd t l psdu soft => Sys2Proof.Machine.execRxFrameEnd t l psdu soft s
  | .edDetectorFree t p => Sys2Proof.Machine.execEdDetectorFree t p s
  | .edResult t req power => Sys2Proof.Machine.execEdResult t req power s
  | .dlHeaderDecode t l chips => Sys2Proof.Machine.execDlHeaderDecode t l chips s
  | .dlCopyCombine t => Sys2Proof.Machine.execDlCopyCombine t s
  | .dlDecodeGrant t => Sys2Proof.Machine.execDlDecodeGrant t s
  | .dlDecodeEnd t d => Sys2Proof.Machine.execDlDecodeEnd t d s
  | .dlGroupExpire t g => Sys2Proof.Machine.execDlGroupExpire t g s
  | .tsRun t w v => Sys2Proof.Machine.execTsRun t w v s
  | .txDecision t p => Sys2Proof.Machine.execTxDecision t p s
  | .txRetuneInstant t p => Sys2Proof.Machine.execTxRetuneInstant t p s
  | .ackWaitBind t p => Sys2Proof.Machine.execAckWaitBind t p s
  | .ackTimeout t p => Sys2Proof.Machine.execAckTimeout t p s
  | .rxRecord t tile f foreign => Sys2Proof.Machine.execRxRecord t tile f foreign s
  | .dlSurplusReport t => Sys2Proof.Machine.execDlSurplusReport t s
  | .ebPeriod t p => Sys2Proof.Machine.execEbPeriod t p s
  | .wheelBucket t => Sys2Proof.Machine.execWheelBucket t s
  | .snFollowOn t n => Sys2Proof.Machine.execSnFollowOn t n s
  | .snDlNextCopy t n => Sys2Proof.Machine.execSnDlNextCopy t n s
  | .snAckTimeout t n => Sys2Proof.Machine.execSnAckTimeout t n s
  | .ritRequestMissed t n => Sys2Proof.Machine.execRitRequestMissed t n s
  | .psTtlSweep t => Sys2Proof.Machine.execPsTtlSweep t s
  | .overflowGrant t => Sys2Proof.Machine.execOverflowGrant t s
  | .snEn t w v => Sys2Proof.Machine.execSnEn t w v s
  | .snNodeConfigWrite t w n j v => Sys2Proof.Machine.execSnNodeConfigWrite t w n j v s
  | .snCmdLeaveUnreachable t w n => Sys2Proof.Machine.execSnCmdLeaveUnreachable t w n s
  | .snCmdFreeFrames t w n => Sys2Proof.Machine.execSnCmdFreeFrames t w n s
  | .snCmdResetEstimate t w n => Sys2Proof.Machine.execSnCmdResetEstimate t w n s
  | .tallyBinClose t => Sys2Proof.Machine.execTallyBinClose t s
  | .crCmd t w k => Sys2Proof.Machine.execCrCmd t w k s
  | .ntClaimTimeout t k => Sys2Proof.Machine.execNtClaimTimeout t k s
  | .ntCmdRemove t w n => Sys2Proof.Machine.execNtCmdRemove t w n s
  | .ntCmdClearCounts t w n => Sys2Proof.Machine.execNtCmdClearCounts t w n s
  | .pipelineUplink t k => Sys2Proof.Machine.execPipelineUplink t k s
  | .pipelineDownlink t k => Sys2Proof.Machine.execPipelineDownlink t k s
  | .pipelineHostPacket t f mf => Sys2Proof.Machine.execPipelineHostPacket t f mf s
  | .reasmTimeout t k => Sys2Proof.Machine.execReasmTimeout t k s
  | .ntRemoteTimeout t k => Sys2Proof.Machine.execNtRemoteTimeout t k s
  | .nodeWindowAccess t m win mem write v => Sys2Proof.Machine.execNodeWindowAccess t m win mem write v s
  | .shaperRefill t => Sys2Proof.Machine.execShaperRefill t s
  | .meterRefill t => Sys2Proof.Machine.execMeterRefill t s
  | .ethRelease t e => Sys2Proof.Machine.execEthRelease t e s
  | .meshRelease t q => Sys2Proof.Machine.execMeshRelease t q s
  | .hostRelease t q => Sys2Proof.Machine.execHostRelease t q s
  | .fabricRelease t q => Sys2Proof.Machine.execFabricRelease t q s
  | .gateEntryChange t e => Sys2Proof.Machine.execGateEntryChange t e s
  | .gateBankSwitch t e => Sys2Proof.Machine.execGateBankSwitch t e s
  | .cellsFreed t k => Sys2Proof.Machine.execCellsFreed t k s
  | .kiWrite t w n => Sys2Proof.Machine.execKiWrite t w n s
  | .kiCmdImport t w => Sys2Proof.Machine.execKiCmdImport t w s
  | .kiCmdGenerate t w => Sys2Proof.Machine.execKiCmdGenerate t w s
  | .kiCmdDerive t w => Sys2Proof.Machine.execKiCmdDerive t w s
  | .keyCommandDone t => Sys2Proof.Machine.execKeyCommandDone t s
  | .kZeroize t w k => Sys2Proof.Machine.execKZeroize t w k s
  | .keyPromote t k => Sys2Proof.Machine.execKeyPromote t k s
  | .lcRequest t w => Sys2Proof.Machine.execLcRequest t w s
  | .cryptoOpDone t => Sys2Proof.Machine.execCryptoOpDone t s
  | .leapSweep t upTo => Sys2Proof.Machine.execLeapSweep t upTo s
  | .joinSegment t => Sys2Proof.Machine.execJoinSegment t s
  | .joinReasmTimeout t => Sys2Proof.Machine.execJoinReasmTimeout t s
  | .joinVerifyDone t id => Sys2Proof.Machine.execJoinVerifyDone t id s
  | .joinRelay t => Sys2Proof.Machine.execJoinRelay t s
  | .joinStepTimeout t id => Sys2Proof.Machine.execJoinStepTimeout t id s
  | .joinLingerExpiry t id => Sys2Proof.Machine.execJoinLingerExpiry t id s
  | .jEnWrite t w n => Sys2Proof.Machine.execJEnWrite t w n s
  | .jEnSeal t w => Sys2Proof.Machine.execJEnSeal t w s
  | .isWrite t w k n => Sys2Proof.Machine.execIsWrite t w k n s
  | .isSeal t w k => Sys2Proof.Machine.execIsSeal t w k s
  | .atCmd t w => Sys2Proof.Machine.execAtCmd t w s
  | .atReportReady t => Sys2Proof.Machine.execAtReportReady t s
  | .imWrite t w k n => Sys2Proof.Machine.execImWrite t w k n s
  | .imSeal t w k => Sys2Proof.Machine.execImSeal t w k s
  | .imSealDone t k => Sys2Proof.Machine.execImSealDone t k s
  | .imErase t w k => Sys2Proof.Machine.execImErase t w k s
  | .caCmdStart t w c => Sys2Proof.Machine.execCaCmdStart t w c s
  | .caCmdPause t w c => Sys2Proof.Machine.execCaCmdPause t w c s
  | .caCmdResume t w c => Sys2Proof.Machine.execCaCmdResume t w c s
  | .caCmdAbort t w c => Sys2Proof.Machine.execCaCmdAbort t w c s
  | .caCmdRelease t w c => Sys2Proof.Machine.execCaCmdRelease t w c s
  | .caMulticastStart t c => Sys2Proof.Machine.execCaMulticastStart t c s
  | .caBlockSend t c p => Sys2Proof.Machine.execCaBlockSend t c p s
  | .caStatus t n msg => Sys2Proof.Machine.execCaStatus t n msg s
  | .caStatusTimeout t c n => Sys2Proof.Machine.execCaStatusTimeout t c n s
  | .ethRxFrame t e f fcsOk => Sys2Proof.Machine.execEthRxFrame t e f fcsOk s
  | .ethLinkUp t e speed => Sys2Proof.Machine.execEthLinkUp t e speed s
  | .ethLinkDown t e => Sys2Proof.Machine.execEthLinkDown t e s
  | .mdioRead t w v => Sys2Proof.Machine.execMdioRead t w v s
  | .mdioWrite t w v => Sys2Proof.Machine.execMdioWrite t w v s
  | .mdioDone t ans => Sys2Proof.Machine.execMdioDone t ans s
  | .tuCmdStep t w => Sys2Proof.Machine.execTuCmdStep t w s
  | .tuCmdSet t w => Sys2Proof.Machine.execTuCmdSet t w s
  | .ptpSyncTimer t e => Sys2Proof.Machine.execPtpSyncTimer t e s
  | .ptpDelayReqTimer t e => Sys2Proof.Machine.execPtpDelayReqTimer t e s
  | .ptpPdelayReqTimer t e => Sys2Proof.Machine.execPtpPdelayReqTimer t e s
  | .ptpSyncRx t e m => Sys2Proof.Machine.execPtpSyncRx t e m s
  | .ptpFollowUpRx t e m => Sys2Proof.Machine.execPtpFollowUpRx t e m s
  | .ptpDelayReqRx t e m => Sys2Proof.Machine.execPtpDelayReqRx t e m s
  | .ptpDelayRespRx t e m => Sys2Proof.Machine.execPtpDelayRespRx t e m s
  | .ptpPdelayReqRx t e m => Sys2Proof.Machine.execPtpPdelayReqRx t e m s
  | .ptpPdelayRespRx t e m u3 => Sys2Proof.Machine.execPtpPdelayRespRx t e m u3 s
  | .ppState t w e v => Sys2Proof.Machine.execPpState t w e v s
  | .ppParentWrite t w e id v => Sys2Proof.Machine.execPpParentWrite t w e id v s
  | .svLossTimeout t => Sys2Proof.Machine.execSvLossTimeout t s
  | .svSource t w v => Sys2Proof.Machine.execSvSource t w v s
  | .tqEntryRead t m q => Sys2Proof.Machine.execTqEntryRead t m q s
  | .ppsInEdge t rising => Sys2Proof.Machine.execPpsInEdge t rising s
  | .ppsInLost t => Sys2Proof.Machine.execPpsInLost t s
  | .ppsOutPulse t => Sys2Proof.Machine.execPpsOutPulse t s
  | .ppsEn t w => Sys2Proof.Machine.execPpsEn t w s
  | .trefValidityChange t hz => Sys2Proof.Machine.execTrefValidityChange t hz s
  | .heartbeatPeriod t refresh => Sys2Proof.Machine.execHeartbeatPeriod t refresh s
  | .heartbeatStop t => Sys2Proof.Machine.execHeartbeatStop t s
  | .grantLost t cause held => Sys2Proof.Machine.execGrantLost t cause held s
  | .grantSeen t fence gap held => Sys2Proof.Machine.execGrantSeen t fence gap held s
  | .pairAnnounceRepeat t => Sys2Proof.Machine.execPairAnnounceRepeat t s
  | .mooringImageStart t => Sys2Proof.Machine.execMooringImageStart t s
  | .mooringPassEnd t nodes buckets => Sys2Proof.Machine.execMooringPassEnd t nodes buckets s
  | .mooringFreeze t ns => Sys2Proof.Machine.execMooringFreeze t ns s
  | .moorStreamTimeout t => Sys2Proof.Machine.execMoorStreamTimeout t s
  | .prImageAgeExpiry t => Sys2Proof.Machine.execPrImageAgeExpiry t s
  | .prTimeHoldExpiry t => Sys2Proof.Machine.execPrTimeHoldExpiry t s
  | .prCmdImage t w => Sys2Proof.Machine.execPrCmdImage t w s
  | .prCmdYield t w => Sys2Proof.Machine.execPrCmdYield t w s
  | .prCmdCancelYield t w => Sys2Proof.Machine.execPrCmdCancelYield t w s
  | .prYieldExpiry t => Sys2Proof.Machine.execPrYieldExpiry t s
  | .timeSyncTimer t => Sys2Proof.Machine.execTimeSyncTimer t s
  | .pairTimeLoopTimeout t => Sys2Proof.Machine.execPairTimeLoopTimeout t s
  | .pairStatusTimer t => Sys2Proof.Machine.execPairStatusTimer t s
  | .pairStatusTimeout t => Sys2Proof.Machine.execPairStatusTimeout t s
  | .witStartWaitExpiry t => Sys2Proof.Machine.execWitStartWaitExpiry t s
  | .witHeartbeatAlive t x ps => Sys2Proof.Machine.execWitHeartbeatAlive t x ps s
  | .witHeartbeatLost t x => Sys2Proof.Machine.execWitHeartbeatLost t x s
  | .witTakeTimeout t => Sys2Proof.Machine.execWitTakeTimeout t s
  | .witStateCode t x code held => Sys2Proof.Machine.execWitStateCode t x code held s
  | .witCmd t w => Sys2Proof.Machine.execWitCmd t w s
  | .witFenceGapExpiry t => Sys2Proof.Machine.execWitFenceGapExpiry t s
  | .witFenceRelease t x => Sys2Proof.Machine.execWitFenceRelease t x s
  | .fbEn t w l v => Sys2Proof.Machine.execFbEn t w l v s
  | .fbLaneLock t l lanes => Sys2Proof.Machine.execFbLaneLock t l lanes s
  | .fbTrainTimeout t l => Sys2Proof.Machine.execFbTrainTimeout t l s
  | .fbHelloTimer t l => Sys2Proof.Machine.execFbHelloTimer t l s
  | .fbHelloRx t l ws => Sys2Proof.Machine.execFbHelloRx t l ws s
  | .fbRefusedExpiry t l => Sys2Proof.Machine.execFbRefusedExpiry t l s
  | .fbLinkDown t l cause => Sys2Proof.Machine.execFbLinkDown t l cause s
  | .fbPacketRx t l ws => Sys2Proof.Machine.execFbPacketRx t l ws s
  | .fbNakRx t l ws => Sys2Proof.Machine.execFbNakRx t l ws s
  | .fbStatusRx t l ws => Sys2Proof.Machine.execFbStatusRx t l ws s
  | .fbStatusTimer t l => Sys2Proof.Machine.execFbStatusTimer t l s
  | .topoTimer t => Sys2Proof.Machine.execTopoTimer t s
  | .arbDecide t k waiting => Sys2Proof.Machine.execArbDecide t k waiting s
  | .dramEccError t chan off single => Sys2Proof.Machine.execDramEccError t chan off single s
  | .dramPatrolScrub t found => Sys2Proof.Machine.execDramPatrolScrub t found s
  | .hfPop t m f => Sys2Proof.Machine.execHfPop t m f s
  | .hfStart t m f v => Sys2Proof.Machine.execHfStart t m f v s
  | .hfData t m f v => Sys2Proof.Machine.execHfData t m f v s
  | .hfEnd t m f v => Sys2Proof.Machine.execHfEnd t m f v s
  | .hfAbort t m f => Sys2Proof.Machine.execHfAbort t m f s
  | .hfHeldWriteDone t f => Sys2Proof.Machine.execHfHeldWriteDone t f s
  | .hfStallTimeout t f => Sys2Proof.Machine.execHfStallTimeout t f s
  | .hfNoticeTimer t f => Sys2Proof.Machine.execHfNoticeTimer t f s
  | .hfMode t w f v => Sys2Proof.Machine.execHfMode t w f v s
  | .hrCmd t w k items bad => Sys2Proof.Machine.execHrCmd t w k items bad s
  | .hrHostIdx t w k v items bad => Sys2Proof.Machine.execHrHostIdx t w k v items bad s
  | .ringBusError t k => Sys2Proof.Machine.execRingBusError t k s
  | .pcieFlr t => Sys2Proof.Machine.execPcieFlr t s
  | .perstNAssert t => Sys2Proof.Machine.execPerstNAssert t s
  | .perstNRelease t => Sys2Proof.Machine.execPerstNRelease t s
  | .pcieLinkChange t up width rate => Sys2Proof.Machine.execPcieLinkChange t up width rate s
  | .irqEdge t src => Sys2Proof.Machine.execIrqEdge t src s
  | .irqLevelChange t src high => Sys2Proof.Machine.execIrqLevelChange t src high s
  | .irqSoftwareSet t w j mask => Sys2Proof.Machine.execIrqSoftwareSet t w j mask s
  | .irqSoftwareClear t w j mask => Sys2Proof.Machine.execIrqSoftwareClear t w j mask s
  | .irqMode t w v => Sys2Proof.Machine.execIrqMode t w v s
  | .cxClaim t m x => Sys2Proof.Machine.execCxClaim t m x s
  | .cxComplete t m x src => Sys2Proof.Machine.execCxComplete t m x src s
  | .msixUnmask t v => Sys2Proof.Machine.execMsixUnmask t v s
  | .evPop t m => Sys2Proof.Machine.execEvPop t m s
  | .timerTick t k => Sys2Proof.Machine.execTimerTick t k s
  | .timerWrap t k => Sys2Proof.Machine.execTimerWrap t k s
  | .timerMatch t k => Sys2Proof.Machine.execTimerMatch t k s
  | .tmCmd t w k => Sys2Proof.Machine.execTmCmd t w k s
  | .tmCtrl t w k v => Sys2Proof.Machine.execTmCtrl t w k v s
  | .vbatPor t mv tied => Sys2Proof.Machine.execVbatPor t mv tied s
  | .railsGood t pins mv => Sys2Proof.Machine.execRailsGood t pins mv s
  | .brownOut t mv => Sys2Proof.Machine.execBrownOut t mv s
  | .resetNAssert t pins held => Sys2Proof.Machine.execResetNAssert t pins held s
  | .resetNRelease t pins held => Sys2Proof.Machine.execResetNRelease t pins held s
  | .pllLock t d => Sys2Proof.Machine.execPllLock t d s
  | .clockGood t d pins => Sys2Proof.Machine.execClockGood t d pins s
  | .dramTrained t pins cap a b => Sys2Proof.Machine.execDramTrained t pins cap a b s
  | .bootImageVerified t bank => Sys2Proof.Machine.execBootImageVerified t bank s
  | .bootFailed t => Sys2Proof.Machine.execBootFailed t s
  | .btWrite t w n => Sys2Proof.Machine.execBtWrite t w n s
  | .btDone t w len => Sys2Proof.Machine.execBtDone t w len s
  | .clockWindow t meas => Sys2Proof.Machine.execClockWindow t meas s
  | .smWatchdogExpiry t last => Sys2Proof.Machine.execSmWatchdogExpiry t last s
  | .smLockup t cycles => Sys2Proof.Machine.execSmLockup t cycles s
  | .acWatchdogExpiry t c => Sys2Proof.Machine.execAcWatchdogExpiry t c s
  | .acLockup t c cycles => Sys2Proof.Machine.execAcLockup t c cycles s
  | .acWdKick t w c => Sys2Proof.Machine.execAcWdKick t w c s
  | .legacyReset t w => Sys2Proof.Machine.execLegacyReset t w s
  | .rsReqCore t w c hold => Sys2Proof.Machine.execRsReqCore t w c hold s
  | .rsReqBlock t w blk hold => Sys2Proof.Machine.execRsReqBlock t w blk hold s
  | .rsReqSystem t w => Sys2Proof.Machine.execRsReqSystem t w s
  | .rsReqChip t w => Sys2Proof.Machine.execRsReqChip t w s
  | .rsReqBackup t w => Sys2Proof.Machine.execRsReqBackup t w s
  | .rsRelease t w reach target => Sys2Proof.Machine.execRsRelease t w reach target s
  | .debugResetRequest t hart active pins => Sys2Proof.Machine.execDebugResetRequest t hart active pins s
  | .blockResetAssert t blk iso => Sys2Proof.Machine.execBlockResetAssert t blk iso s
  | .wrapperOpen t blk => Sys2Proof.Machine.execWrapperOpen t blk s
  | .coreReset t c => Sys2Proof.Machine.execCoreReset t c s
  | .dozeEntry t wfi => Sys2Proof.Machine.execDozeEntry t wfi s
  | .dozeExit t halt => Sys2Proof.Machine.execDozeExit t halt s
  | .pfailWarning t mv => Sys2Proof.Machine.execPfailWarning t mv s
  | .mainsGood t mv held => Sys2Proof.Machine.execMainsGood t mv held s
  | .holdAfterExpiry t => Sys2Proof.Machine.execHoldAfterExpiry t s
  | .holdExit t mv => Sys2Proof.Machine.execHoldExit t mv s
  | .pwCmd t w => Sys2Proof.Machine.execPwCmd t w s
  | .tamperLatch t n held => Sys2Proof.Machine.execTamperLatch t n held s
  | .bkTamperClr t w high => Sys2Proof.Machine.execBkTamperClr t w high s
  | .rtcCmdSet t w => Sys2Proof.Machine.execRtcCmdSet t w s
  | .rtcCmdInvalidate t w => Sys2Proof.Machine.execRtcCmdInvalidate t w s
  | .rtcAutoSet t => Sys2Proof.Machine.execRtcAutoSet t s
  | .crystalFail t => Sys2Proof.Machine.execCrystalFail t s
  | .thermalSample t temp => Sys2Proof.Machine.execThermalSample t temp s
  | .upWrite t w n => Sys2Proof.Machine.execUpWrite t w n s
  | .upCmdVerify t w => Sys2Proof.Machine.execUpCmdVerify t w s
  | .upVerifyDone t flashOk => Sys2Proof.Machine.execUpVerifyDone t flashOk s
  | .upCmdArm t w => Sys2Proof.Machine.execUpCmdArm t w s
  | .upCmdDisarm t w => Sys2Proof.Machine.execUpCmdDisarm t w s
  | .upCmdDiscard t w => Sys2Proof.Machine.execUpCmdDiscard t w s
  | .upCmdConfirm t w => Sys2Proof.Machine.execUpCmdConfirm t w s
  | .upActivation t rf bh => Sys2Proof.Machine.execUpActivation t rf bh s
  | .ledgerAudit t upset => Sys2Proof.Machine.execLedgerAudit t upset s
  | .accessViolation t m kind access addr => Sys2Proof.Machine.execAccessViolation t m kind access addr s
  | .vrWordRead t m v => Sys2Proof.Machine.execVrWordRead t m v s
  | .vrRelease t w v => Sys2Proof.Machine.execVrRelease t w v s
  | .fatalError t cause detail => Sys2Proof.Machine.execFatalError t cause detail s
  | .ftDeclare t w v => Sys2Proof.Machine.execFtDeclare t w v s
  | .dumpComplete t abandoned harts sram => Sys2Proof.Machine.execDumpComplete t abandoned harts sram s
  | .fdErase t w e => Sys2Proof.Machine.execFdErase t w e s
  | .peEn t w k v => Sys2Proof.Machine.execPeEn t w k v s
  | .perturbationApply t point inst => Sys2Proof.Machine.execPerturbationApply t point inst s
  | .fxFuseBurn t w => Sys2Proof.Machine.execFxFuseBurn t w s
  | .fxRawRead t w => Sys2Proof.Machine.execFxRawRead t w s
  | .fxRawWrite t w => Sys2Proof.Machine.execFxRawWrite t w s
  | .debugHalt t hart => Sys2Proof.Machine.execDebugHalt t hart s
  | .debugResume t hart => Sys2Proof.Machine.execDebugResume t hart s
  | .debugSystemBusAccess t addr write v => Sys2Proof.Machine.execDebugSystemBusAccess t addr write v s
  | .tapIdcode t => Sys2Proof.Machine.execTapIdcode t s
  | .tapSamplePreload t cells => Sys2Proof.Machine.execTapSamplePreload t cells s
  | .tapExtest t => Sys2Proof.Machine.execTapExtest t s
  | .tapHighz t => Sys2Proof.Machine.execTapHighz t s
  | .tapClamp t => Sys2Proof.Machine.execTapClamp t s
  | .tapDtmcs t => Sys2Proof.Machine.execTapDtmcs t s
  | .tapDmi t => Sys2Proof.Machine.execTapDmi t s
  | .tapBypass t => Sys2Proof.Machine.execTapBypass t s
  | .readClears t m r => Sys2Proof.Machine.execReadClears t m r s
  | .resetPulseEnd t pins => Sys2Proof.Machine.execResetPulseEnd t pins s
  | .bootImageRefused t => Sys2Proof.Machine.execBootImageRefused t s

end Sys2Proof.Machine
end

