-- ==== Sys2Proof/Machine/Balls.lean ====
section
/-! DEFINITION. What the balls show (02_package_pins.md Table PINS-7, R34, R35, R38 to R41; 05_radio_ports.md R121, R557): a state that
supplies, resets, the fuse map and the owning block give. -/

namespace Sys2Proof.Machine

open Sys2Proof

/-- The state of a ball: those of Table PINS-9, the further ones of Table PINS-7, and `own`: the owning block works it as its interface
says. -/
inductive Level where
  | hiZ
  | pullUp
  | pullDown
  | drive (high : Bool)
  | input
  | released
  | driverOff
  | idle
  | own
  deriving DecidableEq, Repr

/-- The signals of Table PINS-7. -/
inductive Ball where
  | rfrx (p : Nat)
  | rftx (p : Nat)
  | paEn (p : Nat)
  | lnaByp (p : Nat)
  | antSel (p k : Nat)
  | trsw (g : Nat)
  | coexReq (t : Nat)
  | coexPri (t : Nat)
  | coexAct (t : Nat)
  | coexGnt (t : Nat)
  | serdes (block : Nat)
  | refclkSerdes
  | refclkPcie
  | perst
  | pcieSideband
  | dramData
  | dramCommand
  | dramSelect
  | dramReset
  | dramAlert
  | xspiCk
  | xspiRst
  | xspiCs
  | xspiData
  | mgmtTx
  | mgmtRx
  | mdc
  | mdio
  | refclk
  | tref
  | ppsIn
  | ppsOut
  | pairHb
  | pairState (k : Nat)
  | pairGrant
  | pairFence
  | witIn
  | witGrant (x : Nat)
  | witFence (x : Nat)
  | resetIn
  | resetOut
  | sysFault
  | strap
  | tck
  | tms
  | tdo
  | gpio (n : Nat)
  | tamper
  | pfail
  | pwrEn
  deriving DecidableEq, Repr

/-- The rail of a ball in the order of RC_RAILS; none: VBAT (Table PINS-7). -/
def Ball.rail : Ball → Option Nat
  | .rfrx p => some (10 + p / 6)
  | .rftx p => some (16 + p / 6)
  | .paEn p | .lnaByp p | .antSel p _ => some (20 + p / 6)
  | .trsw g => some (20 + g / 2)
  | .coexReq t | .coexPri t | .coexAct t | .coexGnt t => some (20 + t)
  | .serdes _ | .refclkSerdes | .refclkPcie => some 8
  | .dramData | .dramCommand | .dramSelect | .dramReset | .dramAlert => some 9
  | .mgmtTx | .mgmtRx | .mdc | .mdio => some 15
  | .refclk => some 7
  | .tamper | .pfail | .pwrEn => none
  | _ => some 14

/-- The fuse-map entry of a ball (Table PINS-10). -/
def Ball.entry : Ball → Option Nat
  | .paEn p => some (4 * p)
  | .lnaByp p => some (4 * p + 1)
  | .antSel p k => some (4 * p + 2 + k)
  | .trsw g => some (96 + g)
  | .coexReq t => some (104 + 4 * t)
  | .coexPri t => some (105 + 4 * t)
  | .coexAct t => some (106 + 4 * t)
  | .coexGnt t => some (107 + 4 * t)
  | .gpio n => some (120 + n)
  | .ppsOut => some 152
  | .mdc => some 153
  | .mdio => some 154
  | _ => none

/-- The default of an entry, the same in both phases (Table PINS-10). -/
def entryDefault (e : Nat) : Level :=
  if e < 96 then (if e % 4 = 0 then .drive false else .pullDown)
  else if e < 104 then .drive false
  else if e < 120 then (if e % 4 = 3 then .pullDown else .drive false)
  else if e < 152 then .hiZ
  else if e = 154 then .pullUp else .drive false

/-- A state code (Table PINS-9). -/
def stateOf : Nat → Level
  | 0 => .hiZ
  | 1 => .pullUp
  | 2 => .pullDown
  | 3 => .drive false
  | _ => .drive true

/-- What the fuse map gives a ball in a phase (R38 to R41): its entry once the map is loaded, if the entry applies. -/
def State.fuseState (s : State) (e : Nat) (during : Bool) : Level :=
  match if s.eng.rst.mapped then aget s.eng.rst.fuses e else none with
  | some v => if e < 96 ∧ e % 4 = 0 then .drive false else stateOf (if during then fld v 6 4 else fld v 3 1)
  | none => entryDefault e

/-- A reset holds the owning block of a ball. GPIO, PPS_OUT and the other balls that no block of Table RESET-2 owns are released at step
8 of Table RESET-4. DEDUCED: log 167. -/
def State.ballHeld (s : State) (b : Ball) : Bool :=
  let blk (k : Nat) : Bool := s.rd (R.BL_STATE k) != 0 && !(s.eng.rst.opening.contains k)
  match b with
  | .rfrx p | .rftx p | .paEn p | .lnaByp p | .antSel p _ => blk (1 + p / 6)
  | .trsw g => blk (1 + g / 2)
  | .coexReq t | .coexPri t | .coexAct t | .coexGnt t => blk (1 + t)
  | .serdes k => blk k
  | .pcieSideband => blk 14
  | .mgmtTx | .mgmtRx | .mdc | .mdio => blk 12
  | .dramData | .dramCommand | .dramSelect | .dramReset | .dramAlert => s.eng.rst.stage == 1 && !s.eng.rst.trained
  | _ => s.eng.rst.stage == 1

/-- The owning block has taken a fuse-mapped ball under its configuration objects (R121, R557, R389; GPIO has none).
DEDUCED: log 166. -/
def State.ballTaken (s : State) : Ball → Bool
  | .paEn p | .lnaByp p | .antSel p _ => (s.port p).taken
  | .trsw g => s.eng.radio.trsw.contains g
  | .coexReq t | .coexPri t | .coexAct t => s.eng.radio.coex.contains t
  | .ppsOut => s.eng.time.ppsTaken
  | .mdc | .mdio => s.eng.rst.mdTaken
  | _ => false

/-- A ball as its owner works it (R121, R127, R137, R389, R53, R394, R395, R398). -/
def State.ballOwn (s : State) : Ball → Level
  | .rftx p => if s.rd (R.P_STATE p) = 5 then .own else .driverOff
  | .paEn p => .drive (s.paEn p)
  | .lnaByp p => .drive (s.lnaBypass p != bit? (s.rd (R.P_FE_CTRL p)) 11)
  | .antSel p k => .drive (bit? (s.antSel p) k != (s.antFe p).antPol)
  | .trsw g => .drive (s.trswTx g != (s.rd (R.BG_TRSW_POL g) == 1))
  | .coexReq t => .drive (s.coexReq t != bit? (s.rd (R.CX_POL t)) 0)
  | .coexPri t => .drive (s.coexPri t != bit? (s.rd (R.CX_POL t)) 1)
  | .coexAct t => .drive (s.coexAct t != bit? (s.rd (R.CX_POL t)) 2)
  | .ppsOut => .drive s.eng.time.ppsOut
  | .pairHb => if s.eng.pair.hbOn then .own else .drive false
  | .pairState k => .drive (bit? s.pairCode k)
  | .witGrant x => .drive (s.eng.wit.grants.contains x)
  | .witFence x => .drive (s.eng.wit.fences.contains x)
  | .resetOut => .drive true
  | .sysFault => if s.eng.flt.fatal ∨ s.eng.rst.fault then .drive false else .released
  | .pwrEn => .drive s.eng.rst.pwrEn
  | .refclkSerdes | .refclkPcie | .perst | .refclk => .input
  | .dramAlert | .resetIn | .tms | .tamper => .pullUp
  | .tref | .ppsIn | .pairGrant | .pairFence | .witIn | .strap | .tck => .pullDown
  | _ => .own

/-- The state during reset of a ball that the fuse map does not set (Table PINS-7). -/
def State.ballReset (s : State) : Ball → Level
  | .rfrx _ | .rftx _ => .driverOff
  | .serdes _ => .idle
  | .refclkSerdes | .refclkPcie | .perst | .refclk => .input
  | .pcieSideband | .sysFault => .released
  | .dramData | .dramCommand | .mgmtRx | .tdo => .hiZ
  | .dramSelect | .xspiCs => .drive true
  | .dramReset | .xspiCk | .xspiRst | .mgmtTx | .pairHb | .pairState _ | .witGrant _ | .witFence _ | .resetOut => .drive false
  | .dramAlert | .resetIn | .tms | .tamper => .pullUp
  | .xspiData | .tref | .ppsIn | .pairGrant | .pairFence | .witIn | .strap | .tck => .pullDown
  | .pwrEn => .drive s.eng.rst.pwrEn
  | _ => .own

/-- A rail that supplies nothing: it, or, in supply groups 2 and 3, VDD_CORE, is below its brown-out threshold (R35, R51). -/
def State.unsupplied (s : State) : Option Nat → Bool
  | none => s.eng.rst.power == 3
  | some r => !(s.railGood r) || (decide (7 ≤ r) && !(s.railGood 0))

/-- What a ball shows. -/
def State.ball (s : State) (b : Ball) : Level :=
  if s.unsupplied b.rail then .hiZ
  else match b.entry with
    | some e =>
      if s.ballHeld b then s.fuseState e true
      else if s.ballTaken b then s.ballOwn b
      else s.fuseState e false
    | none => if s.ballHeld b then s.ballReset b else s.ballOwn b

/-- PA_EN as it leaves the package: 0 under EXTEST, CLAMP and HIGHZ (R533). -/
def State.paEnPin (s : State) (p : Nat) : Bool := s.ball (.paEn p) == .drive true && !([3, 4, 5].contains s.eng.flt.tap)

end Sys2Proof.Machine
end

