-- ==== Sys2Proof/Safety.lean ====
section
/-! DEFINITION. What a sound state is, what a command leaves besides its own effect, and when an access has its effect at once. -/

namespace Sys2Proof.Machine

open Sys2Proof

/-! ## Sound states -/

/-- The object store in its canonical form: addresses strictly rising, and no word listed that an unlisted object reads as. Equal
dictionaries are then equal data. DESIGN CHOICE: log 13. -/
def Store.wf (o : Store) : Bool := ascending refLt o && o.all fun e => decide (e.2 ≠ BitVec.ofNat 64 (dflt e.1))

/-- A sound state. -/
def State.wf (s : State) : Bool := Store.wf s.objs

/-! ## A command's own effect -/

/-- What comes before a command's own effect: resets whose instant is over assert (R479), and steps of keyed frames that are due come
(Table PORT-7). -/
def beforehand : Act := acts [assertDue, keyStepsDue, drain]

/-- What follows a command's own effect: the signals it leaves between the engines are acted on in order, and accesses that it lets
through go on (R70). -/
def afterwards : Act := acts [drain, resumeHeld, drain]

/-- The state in which a command of instant `t` has its own effect: true time has come to `t`, and so has all that is due by then. -/
def State.ready (s : State) (t : Nat) : State := beforehand.run (s.tick t)

/-- The state that a command of instant `t` leaves whose own effect is `a`. -/
def State.after (s : State) (t : Nat) (a : Act) : State := afterwards.run (a.run (s.ready t))

/-- Nothing is due by the instant `t` beside the command that comes then: no accepted reset request asserts, no step of a keyed frame
comes, and no signal is left. -/
def State.calm (s : State) (t : Nat) : Bool :=
  (s.eng.rst.due.all fun d => decide (max s.now t < d.1)) && (s.tick t).nextStep.isNone && s.eng.notes.isEmpty

/-! ## Accesses that have their effect at once -/

/-- A write of `r` by `w` goes to the member itself: the master runs and is not frozen, no earlier write of it is held, its address
names a member of one word (with the alias of the operation), and it has no transaction bound (R65 to R67, R70, R93, R523); a session is
open. -/
def State.direct (s : State) (w : Who) (r : Ref) (op : Nat) : Bool :=
  match w with
  | .ap m => s.masterUp m && !(s.frozen m) && !(s.comesBehind m true r) && (decide (18 ≤ m) || s.rd (R.A_BIND m) == 0 || r.idx == 0x0101) &&
      !(r.idx == 0x0391 && decide (r.mem ≤ 2)) && (match s.apTarget m r true with
        | some (row, q) => decide (row.width ≤ 1) && (op == 0 || s.splitNow row q)
        | none => false)
  | .ddp k => s.rd (R.S_STATE k) == 2
  | .dev => false

/-- The checks of R555 pass for an item, no transaction holds a lock it needs (R97), and the state it leaves passes the tests of
R99, beside what other transactions have reserved (R100): where it goes, with its values. -/
def State.accepted (s : State) (w : Who) (it : Item) : Option (Target × List (Row × Nat × List Word)) :=
  match s.address w it true, s.checkWrite w false it with
  | .inr t, .inr (u, vs) =>
    if !((locksFor t.objects).any (s.locked 0)) &&
        (s.reserveFault 0 (stagedOf it.op u (vs.filter fun v => v.1.cls != .cmd)) s.devTime).isNone then some (u, vs) else none
  | _, _ => none

/-- A write of the number `v` to the command member `c`, made through `r`, starts the command at once: it is accepted, the command's
block runs and is not busy. -/
def State.starts (s : State) (w : Who) (r c : Ref) (v : Word) : Bool :=
  s.direct w r 0 && s.ownerUp c && !(s.cmdBusy c v.toNat) && (match s.accepted w ⟨r, 1, 0, [v]⟩ with
    | some (t, vs) => (stagedOf 0 t (vs.filter fun x => x.1.cls != .cmd)).isEmpty && cmdsOf t vs == [(c, v.toNat)]
    | none => false)

/-- The same, by the way in which the writer reaches the member (R57, R293). -/
def State.takes (s : State) (w : Who) (c : Ref) (v : Word) : Bool := match w with
  | .ap _ => s.starts w (s.viaWindow c) c v
  | _ => s.starts w c c v

/-- A write of `v` to the stored member `c`, made through `r`, is stored at once. -/
def State.keeps (s : State) (w : Who) (r c : Ref) (op : Nat) (v : Word) : Bool :=
  s.direct w r op && (match s.accepted w ⟨r, 1, op, [v]⟩ with
    | some (t, vs) => stagedOf op t (vs.filter fun x => x.1.cls != .cmd) == [⟨c, op, v⟩] && t.objects == [(c.idx, c.inst)] &&
        (cmdsOf t vs).isEmpty
    | none => false)

/-- The same, by the way in which the writer reaches the member. -/
def State.stores (s : State) (w : Who) (c : Ref) (v : Word) : Bool := match w with
  | .ap _ => s.keeps w (s.viaWindow c) c 0 v
  | _ => s.keeps w c c 0 v

/-- A stored write: the object is committed, the member takes its value, and its block follows (R97, R102). -/
def storeNow (c : Ref) (op : Nat) (v : Word) : Act := acts [markCommit [(c.idx, c.inst)], storeItems [⟨c, op, v⟩]]

/-- A master's read of a member passes every check (R69, R555), and no earlier write of the member is held (R70): the member it
reaches. -/
def State.reads (s : State) (m : Nat) (r : Ref) : Option Ref :=
  if !(s.masterUp m) || s.frozen m || s.comesBehind m false r then none
  else match s.apTarget m r false, s.checkRead (.ap m) ⟨r, 1, 0, []⟩ with
    | some (_, q), .inr _ => some q
    | _, _ => none

/-- A master's write of `v` to HF_START, HF_DATA or HF_END of a from-host FIFO goes to the FIFO (R445, R446): the master runs, is
not frozen and has no transaction bound, no earlier write of it is held, no transaction holds the FIFO's lock, and the value passes every
check. -/
def State.pushes (s : State) (m : Nat) (r : Ref) (v : Word) : Bool :=
  s.masterUp m && !(s.frozen m) && !(s.comesBehind m true r) && (decide (18 ≤ m) || s.rd (R.A_BIND m) == 0) && r.idx == 0x0391 &&
    decide (r.mem ≤ 2) &&
    (match s.apTarget m r true, s.address (.ap m) ⟨r, 1, 0, [v]⟩ true, s.checkWrite (.ap m) false ⟨r, 1, 0, [v]⟩ with
      | some (row, _), .inr u, .inr (t, _) => decide (row.width ≤ 1) && !((locksFor u.objects).any (s.locked 0)) &&
          t.objects == [(0x0391, r.inst)]
      | _, _, _ => false)

/-! ## Messages that have their effect at once -/

/-- A session has heard its peer within three keepalive periods (R84). -/
def State.alive (s : State) (k : Nat) : Bool := match aget s.eng.sess k with
  | some q => decide (s.now < q.heard + 3 * q.period)
  | none => true

/-- A message is for the open session `k`, which serves it at once (R71 to R76, R84, R86): it comes by the session's transport from its
peer, which was heard in time, opens as the session wants it, is sound in its version, carries the SEQ that is next, no request
before it waits, and neither does its decryption. The message in the clear. -/
def State.asks (s : State) (k : Nat) (m : DdpMsg) : Option DdpMsg :=
  if s.transportOpen m && decide (2 ≤ m.words.length) && m.session != 0 &&
      (List.range 64).find? (fun k => s.rd (R.S_STATE k) != 0 && s.rd (R.S_ID k) == m.session) == some k &&
      s.rd (R.S_TRANSPORT k) == m.transport && s.rd (R.S_BIND k) == m.bind &&
      (m.transport != 0 || (s.word (R.S_PEER k 0) == m.peerHi && s.word (R.S_PEER k 1) == m.peerLo)) &&
      s.alive k && s.rd (R.S_STATE k) == 2 && decide (0 < s.rd (R.S_CREDITS k)) &&
      (match aget s.eng.sess k with
        | some q => q.nextSeq == m.seq && q.held.isEmpty
        | none => false) &&
      !(s.itemWaits k) && (!(bit? m.flags 5) || s.eng.keys.jobs.isEmpty) then
    (s.openMsg k m).filter fun c => requestFault (s.rd (R.S_VERSION k)) c == 0
  else none

/-- What a session does around a request `a` that it serves at once: the message's protection is counted as a crypto operation, the
session has heard its peer, the next SEQ is expected, the request is counted and executes, and a session whose SEQ is used up closes
(R75, R82, R84, R86); requests that came early follow. -/
def served (k : Nat) (m : DdpMsg) (a : Act) : Act := .read fun s => acts [
  onlyIf (bit? m.flags 5) (quickJob 2),
  updSess k fun q => { q with
    heard := s.now
    nextSeq := m.seq + 1
    held := [] },
  inc (R.S_REQUESTS k), a, onlyIf (m.seq == 0xFFFFFFFF) (closeSession k 3 none), serve k 32]

end Sys2Proof.Machine
end

