-- ==== Sys2Proof/Certificates/Slice0/Obligations.lean ====
section
/-! DEFINITION. What the provers are asked to prove of the model. -/

set_option maxRecDepth 4000

open Sys2Proof Sys2Proof.Machine

/-! ## The machine as a whole -/

/-- A step runs the command at the front of the queue on the state with the queue's rest, and does nothing else. -/
def Obligations.StepRunsTheFrontCommand : Prop :=
  ∀ (s : State) (c : Instr) (rest : List Instr), s.pending = c :: rest →
    step s = Machine.exec c { s with pending := rest }

/-- With an empty queue the block idles: the model's choice (log 2). -/
def Obligations.EmptyQueueIdles : Prop :=
  ∀ s : State, s.pending = [] → step s = .next s

/-- After reset the queue is empty, the store is canonical and every object reads as its default, as the object tables give it: for
example KEEPALIVE 10,000 and CREDITS 8 (03, Table of 0x0010), TM_PRESC 1 for every timer (20), ARB_N 16 for every arbiter (19). Where
the tables give no default, the default is the model's choice (the log names each). -/
def Obligations.ResetLeavesDefaults : Prop :=
  State.reset.pending = [] ∧ State.reset.wf = true ∧
  (∀ r : Ref, State.reset.word r = BitVec.ofNat 64 (dflt r)) ∧
  State.reset.rd R.KEEPALIVE = 10000 ∧ State.reset.rd R.CREDITS = 8 ∧
  (∀ k : Nat, State.reset.rd (R.TM_PRESC k) = 1 ∧ State.reset.rd (R.ARB_N k) = 16)

/-- A command stops exactly when an operand names an instance that the device does not have; no command is refused. -/
def Obligations.CommandsStopOnlyAtMissingInstances : Prop :=
  ∀ (c : Instr) (s : State),
    (wellFormed c = true ∧ ∃ s', Machine.exec c s = .next s') ∨
    (wellFormed c = false ∧ Machine.exec c s = .fault .noSuchInstance)

/-- Every step takes one command off the queue and leaves the rest as it was, and true time never goes back. -/
def Obligations.StepsTakeOneCommandAndTimeGoesOn : Prop :=
  ∀ s s' : State, step s = .next s' → s'.pending = s.pending.tail ∧ s.now ≤ s'.now

/-- Every step keeps the object store canonical, from every canonical state: object addresses strictly rising and no word listed
that an unlisted object reads as, so that equal dictionaries are equal data. -/
def Obligations.StepsKeepTheStoreCanonical : Prop :=
  ∀ s s' : State, s.wf = true → step s = .next s' → s'.wf = true

/-! ## Words on wires and in registers -/

/-- A fabric packet read back from its words is the packet, with its ACK and LSEQ: the header fields, LEN and the CRC agree (R416). -/
def Obligations.FabricPacketsReadBack : Prop :=
  ∀ (p : FabPkt) (ack lseq : Nat),
    p.type < 256 → p.dst < 8 → p.src < 8 → p.tag < 2 ^ 32 → p.payload.length < 256 → ack < 4096 → lseq < 4096 →
    fabParse (fabWords p ack lseq) = some (p, ack, lseq)

/-- An aperture address lies in the aperture and names the member, or the alias, that it was built from: the byte address
0x0040_0000_0000 + index × 0x10_0000 + instance × 0x1000 + member × 8, with the set alias at +0x800 and the clear alias at +0xC00, whose
members are 0 to 127 (R65, R67). -/
def Obligations.ApertureAddressesNameTheirMembers : Prop :=
  ∀ (r : Ref) (op : Nat), r.idx < 0x8000 → r.inst < 256 → op ≤ 2 → r.mem < (if op = 0 then 256 else 128) →
    apAddress r op = 0x4000000000 + r.idx * 0x100000 + r.inst * 0x1000 + r.mem * 8 + (if op = 0 then 0 else 0x400 + op * 0x400) ∧
    0x4000000000 ≤ apAddress r op ∧ apAddress r op ≤ 0x47FFFFFFFF ∧
    apDecode (apAddress r op) = (r, op)

/-- The device time that a TIME112 value names reads back as that value, for every second and every nanosecond with its fraction. -/
def Obligations.TimeValuesReadBack : Prop :=
  ∀ sec nsf : Nat, nsf / 65536 < 1000000000 → t112 (ofT112 sec nsf) = [sec, nsf]

/-- A plain item replaces its member's word, a set mask ORs its bits into it and a clear mask clears them, as one read-modify-write
(R67, R95); every other object, the queue, the time, what is sent and the engines stay. -/
def Obligations.ItemsChangeTheirMemberAlone : Prop :=
  ∀ (s : State) (r : Ref) (v : Word),
    ((writeItems [⟨r, 0, v⟩]).run s).word r = v ∧
    ((writeItems [⟨r, 1, v⟩]).run s).word r = s.word r ||| v ∧
    ((writeItems [⟨r, 2, v⟩]).run s).word r = s.word r &&& ~~~v ∧
    (∀ (op : Nat) (r' : Ref), r' ≠ r → ((writeItems [⟨r, op, v⟩]).run s).word r' = s.word r') ∧
    (∀ op : Nat, ((writeItems [⟨r, op, v⟩]).run s) = { s with objs := ((writeItems [⟨r, op, v⟩]).run s).objs })

/-- A plain write or a set mask that would set a Reserved bit of a word of bits fails with RANGE (6), once no earlier check fails it;
a clear mask may name any bit (R8). The row's upper bound is the mask of the bits it has. -/
def Obligations.ReservedBitsFailWithRange : Prop :=
  ∀ (row : Row) (v : Word), row.ty = .bits →
    (∀ op : Nat, op ≠ 2 → (row.holds op [v] = true ↔ ∀ i : Nat, v.toNat.testBit i = true → row.hi.toNat.testBit i = true)) ∧
    row.holds 2 [v] = true ∧
    (∀ (s : State) (staged : Bool) (op : Nat) (t : Target) (m : Nat),
      row.holds op [v] = false → s.valueStatus staged op t [(row, m, [v])] = stRange)

/-! ## Interrupts and timers -/

/-- A read of CX_CLAIM returns the claimed source and claims it. A claim takes the eligible source of its context of highest PRIORITY, and the lowest ID among equals; the source becomes ACTIVE,
is no longer pending, and the claiming context is recorded with it. With no eligible source the read returns 2,047 and counts
CX_SPURIOUS if the request signal has been asserted since the context's last claim, else 0 (R458). Beside the pending and the active
word of the source, the request of the context and CX_SPURIOUS, every object stays. -/
def Obligations.ClaimsTakeTheHighestPriorityThenTheLowestId : Prop :=
  ∀ (s : State) (x : Nat), let s' := (claim x).run s
    (s.live (R.CX_CLAIM x) = s.claimValue x ∧ ∀ row : Row, readEffect row (R.CX_CLAIM x) = claim x) ∧
    (∀ src : Nat, s.claimSource x = some src →
      src < 2048 ∧ s.eligible src = true ∧ s.srcCtx src = x ∧ s.claimValue x = src ∧
      (∀ q : Nat, q < 2048 → s.eligible q = true → s.srcCtx q = x →
        s.srcPrio q < s.srcPrio src ∨ (s.srcPrio q = s.srcPrio src ∧ src ≤ q)) ∧
      s'.srcActive src = true ∧ s'.srcPending src = false ∧ aget s'.eng.irq.claimant src = some x ∧
      (∀ r : Ref, r ≠ R.IRQ_PENDING (src / 64) → r ≠ R.IRQ_ACTIVE (src / 64) → r ≠ R.CX_REQUEST x → s'.word r = s.word r)) ∧
    (s.claimSource x = none →
      (∀ q : Nat, q < 2048 → s.eligible q = true → s.srcCtx q ≠ x) ∧
      s.claimValue x = (if s.eng.irq.asserted.contains x then 2047 else 0) ∧
      s'.word (R.CX_SPURIOUS x) = (if s.eng.irq.asserted.contains x then s.word (R.CX_SPURIOUS x) + 1 else s.word (R.CX_SPURIOUS x)) ∧
      (∀ r : Ref, r ≠ R.CX_SPURIOUS x → s'.word r = s.word r))

/-- A critical source is sampled again at completion: with its level high it is pending again, with its level low its pending bit
stays; either way it is no longer active. A software clear leaves it as it is while its level is high and clears its pending bit while
the level is low; a software set of an idle critical source makes it pending (R453, R457). -/
def Obligations.CriticalSourcesFollowTheirLevel : Prop :=
  ∀ (s : State) (src : Nat), 1 ≤ src → src ≤ 31 →
    ((completeSource src).run s).srcActive src = false ∧
    (bit? s.eng.irq.levels src = true →
      ((completeSource src).run s).srcPending src = true ∧ (softClear src).run s = s) ∧
    (bit? s.eng.irq.levels src = false →
      ((completeSource src).run s).srcPending src = s.srcPending src ∧ ((softClear src).run s).srcPending src = false) ∧
    (s.srcActive src = false → ((setPending src).run s).srcPending src = true)

/-- TM_CMD 1 restarts a timer, and so does a change of RUN from 0 to 1: the count, the active compare and the active interval are
loaded from the buffers, the flags and every other object stay, and nothing is sent. A change of RUN from 1 to 0 holds the count and
the prescaler phase: the rest of the tick is kept (R468). -/
def Obligations.TimerRestartsLoadTheBuffers : Prop :=
  ∀ (s s₀ : State) (w : Who) (h : Option Nat) (k : Nat),
    (command w h (R.TM_CMD k) 1).run s = (timerRestart k).run s ∧
    (let s' := (timerRestart k).run s
     s'.word (R.TM_COUNT k) = s.word (R.TM_RELOAD k) ∧ s'.word (R.TM_CMP k) = s.word (R.TM_CMP_PRE k) ∧
     (s'.timer k).interval = s.rdi (R.TM_INTERVAL k) ∧ (s'.timer k).due = (s.timer k).due ∧ (s'.timer k).left = (s.timer k).left ∧
     s'.out = s.out ∧ (∀ r : Ref, r ≠ R.TM_COUNT k → r ≠ R.TM_CMP k → s'.word r = s.word r)) ∧
    (let s' := (timerCtrl s₀ k).run s
     (bit? (s₀.rd (R.TM_CTRL k)) 0 = false → bit? (s.rd (R.TM_CTRL k)) 0 = true →
       s'.word (R.TM_COUNT k) = s.word (R.TM_RELOAD k) ∧ s'.word (R.TM_CMP k) = s.word (R.TM_CMP_PRE k) ∧
       (s'.timer k).interval = s.rdi (R.TM_INTERVAL k) ∧ s'.out = s.out ∧
       (∀ r : Ref, r ≠ R.TM_COUNT k → r ≠ R.TM_CMP k → s'.word r = s.word r)) ∧
     (s₀.ticking k = true → bit? (s.rd (R.TM_CTRL k)) 0 = false →
       (s'.timer k).left = some ((s.timer k).due - s.now) ∧ (∀ r : Ref, s'.word r = s.word r) ∧ s'.out = s.out))

/-- A tick that is due decrements a count above 0; at count 0 the count takes TM_RELOAD, or, when that is 0, RUN becomes 0 and the count
stays 0 (R466). A wrap sets FLAGS.WRAP, a match FLAGS.MATCH, and either one, when its flag is already set, OVERRUN (R470). Of the
objects of timers, a tick writes those of its own timer alone. -/
def Obligations.TimerTicksCountDownAndWrap : Prop :=
  ∀ (s : State) (k : Nat), s.ticking k = true → (s.timer k).due ≤ s.now →
    let s' := (timerTick k).run s
    let old := s.rd (R.TM_FLAGS k)
    let wrap := s.rd (R.TM_COUNT k) == 0
    let hit := s.tickMatches k
    (0 < s.rd (R.TM_COUNT k) → s'.rd (R.TM_COUNT k) = s.rd (R.TM_COUNT k) - 1 ∧ s'.rd (R.TM_CTRL k) = s.rd (R.TM_CTRL k)) ∧
    (s.rd (R.TM_COUNT k) = 0 → s'.rd (R.TM_COUNT k) = s.rd (R.TM_RELOAD k) ∧
      bit? (s'.rd (R.TM_CTRL k)) 0 = decide (s.rd (R.TM_RELOAD k) ≠ 0)) ∧
    s'.rd (R.TM_FLAGS k) = bor old (b2n wrap + 2 * b2n hit + 4 * b2n ((wrap && bit? old 0) || (hit && bit? old 1))) ∧
    (∀ r : Ref, r.idx = 0x0320 ∨ r.idx = 0x0321 → r.inst ≠ k → s'.word r = s.word r)

/-! ## Transactions and accesses -/

/-- The locks that writes of some objects take stand in ascending order of index and instance, without repeats: those of the objects,
that of ST_ACTIVE for a write of a slot table, and that of the port's GT_ACTIVE for a write of a gate bank, and no others (R99, R203,
R309). -/
def Obligations.LocksAreTakenInAscendingOrder : Prop :=
  ∀ objs : List (Nat × Nat),
    (locksFor objs).Pairwise (fun a b => a.1 < b.1 ∨ (a.1 = b.1 ∧ a.2 < b.2)) ∧
    (∀ o : Nat × Nat, o ∈ locksFor objs ↔
      o ∈ objs ∨ (o = (0x2002, 0) ∧ ∃ x ∈ objs, x.1 ∈ [0x2010, 0x2011, 0x2100, 0x2101]) ∨
      (o.1 = 0x3470 ∧ ∃ x ∈ objs, x.1 ∈ [0x3471, 0x3472] ∧ x.2 = o.2))

/-- A write passes its checks only if the accessor's privilege reaches what the write of each value needs, and no value goes to a
member that is read-only or read-clear (R61, R60); a session's read passes its checks only if no member named is write-only, and each
RO or RC member named is open to the session's privilege. -/
def Obligations.AccessesPassOnlyWithTheRights : Prop :=
  ∀ (s : State) (w : Who) (it : Item),
    (∀ (staged : Bool) (t : Target) (vs : List (Row × Nat × List Word)), s.checkWrite w staged it = .inr (t, vs) →
      ∀ i ∈ t.insts, ∀ v ∈ vs, v.1.cls ≠ .ro ∧ v.1.cls ≠ .rc ∧ (staged = true → v.1.cls ≠ .cmd) ∧
        s.writePriv v.1 ⟨t.fam.idx, i, v.2.1⟩ (v.2.2.headD 0).toNat ≤ s.whoPriv w) ∧
    (∀ t : Target, s.checkRead w it = .inr t → ∀ i ∈ t.insts, ∀ m ∈ it.mems t.mem, ∃ row : Row, rowOf? t.fam m = some row ∧
      (isDdp w = true → row.cls ≠ .wo) ∧ (row.cls = .ro ∨ row.cls = .rc → row.priv ≤ s.whoPriv w))

/-- A frozen master's accesses wait: a write or a read in the aperture by a frozen master that runs joins the accesses that wait, and
nothing else happens (R523); a master that is held in reset makes none. -/
def Obligations.FrozenMastersAccessesWait : Prop :=
  ∀ (s : State) (m : Nat) (r : Ref) (op : Nat) (v : Word) (x : Option Nat), s.frozen m = true →
    let waits (write : Bool) (v : Word) : State :=
      { s with eng := { s.eng with flt := { s.eng.flt with waiting := s.eng.flt.waiting ++ [(m, write, r, op, v)] } } }
    (apWrite m x r op v).run s = (if s.masterUp m then waits true v else s) ∧
    (apRead m r op).run s = (if s.masterUp m then waits false 0 else s)

/-- An access violation of a master other than the SM core freezes it: its bit of VR_FROZEN is set, critical source 5 is high, and no
other master is frozen or released (R523). A violation of a master that is frozen already changes nothing. -/
def Obligations.ViolationsFreezeTheirMaster : Prop :=
  ∀ (s : State) (m kind access addr : Nat) (ps : List FabPkt), m ≠ 16 → m < 25 →
    let s' := (violate m kind access addr ps).run s
    (s.frozen m = false → s'.frozen m = true ∧ bit? (s'.rd R.VR_FROZEN) m = true ∧ bit? s'.eng.irq.levels 5 = true ∧
      (∀ m' : Nat, m' ≠ m → s'.frozen m' = s.frozen m') ∧ s'.eng.flt.waiting = s.eng.flt.waiting) ∧
    (s.frozen m = true → s' = s)

/-! ## Time -/

/-- A change of TU_RATE, and the servo's, leave device time at their instant as it was (R377, R384): with no step, SV_FREQ and TU_RATE
take the values of R384, each within SV_RATE_MAX. With a step due, device time steps by −o and neither rate is touched by the servo. -/
def Obligations.ServoSteersWithoutAJump : Prop :=
  ∀ (s : State) (o : Int), s.rd R.SV_RATE_MAX < 2 ^ 62 →
    let m : Int := s.rd R.SV_RATE_MAX
    let f := max (-m) (min m (s.rdi R.SV_FREQ - (s.rd R.SV_KI : Int) * o))
    let due := 0 < s.rd R.SV_STEP_NS ∧ s.rd R.SV_STEP_NS < o.natAbs
    (due → (servo o).run s = (stepBy (-o)).run s) ∧
    (¬ due → ((servo o).run s).rdi R.SV_FREQ = f ∧
      ((servo o).run s).rdi R.TU_RATE = max (-m) (min m (f - (s.rd R.SV_KP : Int) * o)) ∧
      ((servo o).run s).devTime = s.devTime ∧
      (∀ r : Ref, r ≠ R.SV_FREQ → r ≠ R.TU_RATE → ((servo o).run s).word r = s.word r)) ∧
    (∀ x : Int, ((setRate x).run s).devTime = s.devTime)

/-! ## The fabric -/

/-- LSEQ counts 1 to 4,095 and starts again at 1, never 0; a value is ahead of another when it is reached from it in 1 to 2,047 steps
(R419). -/
def Obligations.LinkSequenceWraps : Prop :=
  (∀ n : Nat, nextSeq n ≠ 0) ∧ nextSeq 0 = 1 ∧ nextSeq 4095 = 1 ∧ (∀ n : Nat, n < 4095 → nextSeq n = n + 1) ∧
  (∀ a b : Nat, 1 ≤ a → a ≤ 4095 → 1 ≤ b → b ≤ 4095 →
    (seqAhead a b = true ↔ ∃ d : Nat, 1 ≤ d ∧ d ≤ 2047 ∧ a = Nat.repeat nextSeq d b))

/-! ## Airtime, gates and arbiters -/

/-- A transmission belongs to the lowest-numbered present sub-band that contains its whole passband; one that no sub-band contains is
refused with cause NO_SUBBAND (1) (R251). -/
def Obligations.SubBandsAreTheLowestThatContain : Prop :=
  ∀ (s : State) (f w : Nat),
    let contains (b : Nat) : Prop := s.rd (R.SB_LOW b) < s.rd (R.SB_HIGH b) ∧
      2 * s.rd (R.SB_LOW b) ≤ (2 * f : Int) - w ∧ 2 * f + w ≤ 2 * s.rd (R.SB_HIGH b)
    (∀ b : Nat, s.subBand f w = some b ↔ b < 32 ∧ contains b ∧ ∀ c : Nat, c < b → ¬ contains c) ∧
    (s.subBand f w = none ↔ ∀ b : Nat, b < 32 → ¬ contains b) ∧
    (∀ (before : List (Nat × Nat × Nat)) (x : TallyTx), s.subBand x.freq x.width = none → s.judgeTx before x = .inl (1, 0))

/-- A request that the tally admits stays, as a whole, within the budget of every account it draws on: what is used, what is reserved
and all that the request reserves there; no such account is over its budget already, and each transmission alone is within the
sub-band's longest transmission (R256, R257). -/
def Obligations.AdmittedRequestsStayWithinTheBudget : Prop :=
  ∀ (s : State) (txs : List TallyTx) (ys : List (Nat × Nat × Nat)), s.judgeTxs [] txs = .inr ys →
    ys.length = txs.length ∧
    ∀ y ∈ ys, s.rd (R.AC_OVER y.1) ≠ 1 ∧
      s.rd (R.AC_USED y.1) + s.rd (R.AC_RESERVED y.1) + ((ys.filter fun z => z.1 == y.1).map fun z => z.2.2).sum ≤
        s.rd (R.SB_BUDGET (y.1 % 32)) * 1000 ∧
      (0 < s.rd (R.SB_MAX_TX (y.1 % 32)) → y.2.2 ≤ s.rd (R.SB_MAX_TX (y.1 % 32)) * 1000)

/-- The gate state of a bank of n ≥ 1 entries at time x: with o = (x − GL_BASE) mod GL_CYCLE, taken non-negative, the entry in force is
the first whose cumulative INTERVAL sum exceeds o, and entry n − 1 where o reaches the sum of all; its GATES are open. A bank of no
entries holds every gate open (R307). -/
def Obligations.GatesFollowTheEntryInForce : Prop :=
  ∀ (s : State) (b e x : Nat), let n := s.rd (glRef b e 0)
    let iv (k : Nat) : Nat := fld (s.rd (glRef b e (4 + k))) 31 0 * uNs
    let sum (k : Nat) : Nat := ((List.range k).map iv).sum
    (n = 0 → (s.glAt b e x).2.1 = 0xFF) ∧
    (1 ≤ n → 0 < s.glCycle b e → ∃ k o : Nat, k < n ∧
      (o : Int) = ((x : Int) - s.rdTime (glRef b e 2)) % (s.glCycle b e : Int) ∧
      (s.glAt b e x).1 = k ∧ (s.glAt b e x).2.1 = fld (s.rd (glRef b e (4 + k))) 39 32 ∧
      sum k ≤ o ∧ (o < sum (k + 1) ∨ k = n - 1))

/-- A decision of a lottery arbiter among the requesters that wait, given in ascending number: the LFSR steps once, with the feedback
of bits 31, 21, 1 and 0, and the grant count rises. With no ticket waiting, or at every arb_n-th grant, the requester whose head request
was posted first is granted, the lower number on a tie; else the first in ascending number whose running ticket sum exceeds the new LFSR
value modulo the sum of all tickets (R440). -/
def Obligations.LotteryGrantsByTicketsAndAge : Prop :=
  ∀ (n : Nat) (a : ArbSt) (waiting : List (Nat × Nat × Nat)), a.lfsr < 2 ^ 32 → waiting ≠ [] →
    waiting.Pairwise (fun x y => x.1 < y.1) →
    let d := arbDecide n a waiting
    let tickets (l : List (Nat × Nat × Nat)) : Nat := (l.map fun w => w.2.2).sum
    d.2.2.grants = a.grants + 1 ∧ d.2.2.lfsr < 2 ^ 32 ∧
    (∀ i : Nat, i < 31 → d.2.2.lfsr.testBit (i + 1) = a.lfsr.testBit i) ∧
    d.2.2.lfsr.testBit 0 = (a.lfsr.testBit 31 ^^ a.lfsr.testBit 21 ^^ a.lfsr.testBit 1 ^^ a.lfsr.testBit 0) ∧
    (d.2.1 = true ↔ tickets waiting = 0 ∨ (a.grants + 1) % n = 0) ∧
    (d.2.1 = true → ∃ w ∈ waiting, d.1 = some w.1 ∧ ∀ y ∈ waiting, w.2.1 < y.2.1 ∨ (w.2.1 = y.2.1 ∧ w.1 ≤ y.1)) ∧
    (d.2.1 = false → ∃ pre w post, waiting = pre ++ w :: post ∧ d.1 = some w.1 ∧
      tickets pre ≤ d.2.2.lfsr % tickets waiting ∧ d.2.2.lfsr % tickets waiting < tickets pre + w.2.2)

/-! ## Deep Link codes -/

/-- The interleaver sends coded bit k of a codeword at π(k) = nb × ((7 × (k mod 48)) mod 48) + ⌊k/48⌋, with nb 24 at rate 1/2 and 18 at
rate 2/3 (R178): a permutation of the codeword's positions. -/
def Obligations.InterleaverPermutesTheCodeword : Prop :=
  (∀ k : Nat, dlPos 0 k = 24 * (7 * (k % 48) % 48) + k / 48 ∧ dlPos 1 k = 18 * (7 * (k % 48) % 48) + k / 48) ∧
  dlBits 0 = 48 * 24 ∧ dlBits 1 = 48 * 18 ∧
  (∀ rate : Nat, rate ≤ 1 → (∀ k : Nat, k < dlBits rate → dlPos rate k < dlBits rate) ∧
    (∀ p : Nat, p < dlBits rate → ∃ k : Nat, k < dlBits rate ∧ dlPos rate k = p ∧
      ∀ j : Nat, j < dlBits rate → dlPos rate j = p → j = k))

/-- The whitening sequence is PN9: its first bit is bit 0 of the register, whose next value is the register shifted right by one with
the sum of bits 0 and 5 as bit 8; from 0x1FF its first 16 bits are 1, 1, 1, 1, 1, 1, 1, 1, 1, 0, 0, 0, 0, 1, 1, 1, it repeats after 511
bits, and whitening twice gives the bits back (R179). -/
def Obligations.WhiteningIsPn9 : Prop :=
  (∀ n reg : Nat, reg < 512 →
    pn9 (n + 1) reg = (reg &&& 1) :: pn9 n ((reg >>> 1) ||| (((reg &&& 1) ^^^ ((reg >>> 5) &&& 1)) <<< 8))) ∧
  pn9 16 0x1FF = [1, 1, 1, 1, 1, 1, 1, 1, 1, 0, 0, 0, 0, 1, 1, 1] ∧
  (∀ n : Nat, pn9 (511 + n) 0x1FF = pn9 511 0x1FF ++ pn9 n 0x1FF) ∧
  (∀ (reg : Nat) (l : List Nat), xorBits (xorBits l (pn9 l.length reg)) (pn9 l.length reg) = l)

/-- The encoding produces the unique codeword: for 576 information bits, the encoded word has them as its first 576 bits, meets every
check of H, and is the only word of bits of its length that does both (R176, R177). -/
def Obligations.EncodingProducesTheUniqueCodeword : Prop :=
  ∀ (rate : Nat) (u : List Nat), rate ≤ 1 → u.length = 576 → (∀ b ∈ u, b ≤ 1) →
    let c := ldpcEncode rate u
    c.length = dlBits rate ∧ (∀ b ∈ c, b ≤ 1) ∧ c.take 576 = u ∧ syndromeZero rate c = true ∧
    (∀ c' : List Nat, c'.length = dlBits rate → (∀ b ∈ c', b ≤ 1) → c'.take 576 = u → syndromeZero rate c' = true → c' = c)

/-- A receiver that hears a copy without an error recovers the codewords: the LLRs of a sent payload, a 0 bit at +31 and a 1 bit at −31,
come out of whitening and interleaving as those of the codewords of its information bits, in order (R174, R177 to R179). -/
def Obligations.ReceiverUndoesWhiteningAndInterleaving : Prop :=
  ∀ (rate : Nat) (psdu : List Nat), rate ≤ 1 → 6 ≤ psdu.length → psdu.length ≤ 286 →
    let words := dlWordsFor psdu.length
    let llr (b : Nat) : Int := if b = 1 then -31 else 31
    let info := leOctets 2 psdu.length ++ psdu
    let bits := octetBits (info ++ List.replicate (72 * words - info.length) 0)
    dlReceive rate words ((dlPayload rate psdu).map llr) =
      (List.range words).map fun i => (ldpcEncode rate ((bits.drop (576 * i)).take 576)).map llr

/-- A Deep Link header with up to three errors in its 31-bit word is decoded to the header that was sent, and one with four errors
anywhere in its 32 bits is not accepted (R172, R173). -/
def Obligations.HeaderCodeCorrectsThreeErrors : Prop :=
  ∀ (h : Nat) (es : List Nat), h < 2 ^ 16 → dlIndex h ≤ dlTotal h → es.Nodup → (∀ i ∈ es, i < 32) →
    let heard := es.foldl (fun w i => bxor w (2 ^ i)) (dlEncodeHeader h)
    (es.length ≤ 3 → 0 ∉ es → dlDecodeHeader heard = some h) ∧
    (es.length = 4 → dlDecodeHeader heard = none)

/-! ## Resets, sessions and the test access port -/

/-- LEGACY_RESET serves 2.x sessions too; while LEGACY_EN (0x02F0/0/1) is 0 every write of it fails with ACCESS; with LEGACY_EN 1, a
value other than 0x5A fails with RANGE for an accessor that has the privilege, 0x5A is accepted, and what it starts is a System-reach
source of cause 7 (R89, R480). The PCIe host is taken outside the limits of boot and update (R490, R510). -/
def Obligations.LegacyResetTakesOneValue : Prop :=
  ∀ (s : State) (w : Who) (h : Option Nat) (v : Word), s.hostLimited w R.LEGACY_RESET = false →
    let write := s.checkWrite w false ⟨R.LEGACY_RESET, 1, 0, [v]⟩
    legacyIndex R.LEGACY_RESET.idx = true ∧
    (s.rd R.LEGACY_ON = 0 → write = .inl stAccess) ∧
    (s.rd R.LEGACY_ON ≠ 0 → 2 ≤ s.whoPriv w → (v.toNat ≠ 0x5A → write = .inl stRange) ∧ (v.toNat = 0x5A → ∃ t vs, write = .inr (t, vs))) ∧
    (command w h R.LEGACY_RESET 0x5A).run s = (askReset ⟨7, 2, 0, some 0, false⟩).run s

/-- Each TAP instruction selects its register and nothing else changes: IDCODE reads 0x1962_4987, SAMPLE/PRELOAD reads the boundary
cells and loads them, EXTEST reads them; under EXTEST, CLAMP and HIGHZ every PA_EN leaves the package at 0 (R533). A quiet state: nothing
is due by the instant, no signal is left and no access is held. -/
def Obligations.TapInstructionsChangeTheTapAlone : Prop :=
  ∀ (s : State) (t : Nat), s.calm t = true → s.eng.txn.behind = [] →
    let tap (code : Nat) (out cells : List Nat) : State := { s with
      now := max s.now t
      out := [.tap code out]
      eng := { s.eng with flt := { s.eng.flt with
        tap := code
        cells := cells } } }
    let cells := s.eng.flt.cells
    Machine.exec (.tapIdcode t) s = .next (tap 0x01 [0x19624987] cells) ∧
    (∀ new : List Nat, Machine.exec (.tapSamplePreload t new) s = .next (tap 0x02 cells new)) ∧
    Machine.exec (.tapExtest t) s = .next (tap 0x03 cells cells) ∧
    Machine.exec (.tapHighz t) s = .next (tap 0x04 [] cells) ∧
    Machine.exec (.tapClamp t) s = .next (tap 0x05 [] cells) ∧
    Machine.exec (.tapDtmcs t) s = .next (tap 0x10 [] cells) ∧
    Machine.exec (.tapDmi t) s = .next (tap 0x11 [] cells) ∧
    Machine.exec (.tapBypass t) s = .next (tap 0xFF [] cells) ∧
    (∀ (s' : State) (p : Nat), s'.eng.flt.tap ∈ [0x03, 0x04, 0x05] → s'.paEnPin p = false)

/-- The version of a session is that of the first of the four offers, from the highest octet down, that yields one: major 3, minor m
yields 3.min(m, 2); major 2, minor m ≥ 3 yields 2.min(m, 4) (R81). A sound HELLO whose offers yield none is answered ERROR with VERSION
and opens no session, and so is one whose offers yield a 2.x version while LEGACY_EN is 0 (R89). 3.0 lacks SET_BITS and CLEAR_BITS. -/
def Obligations.SessionsTakeTheFirstVersionOffered : Prop :=
  (∀ b3 b2 b1 b0 : Nat, b3 < 256 → b2 < 256 → b1 < 256 → b0 < 256 →
    let yields (b : Nat) : Option Nat :=
      if b / 16 = 3 then some (0x30 + min (b % 16) 2)
      else if b / 16 = 2 ∧ 3 ≤ b % 16 then some (0x20 + min (b % 16) 4) else none
    chooseVersion (b3 * 2 ^ 24 + b2 * 2 ^ 16 + b1 * 2 ^ 8 + b0) = (((yields b3).or (yields b2)).or (yields b1)).or (yields b0)) ∧
  typeIn 0x30 tySet = false ∧ typeIn 0x30 tyClear = false ∧ typeIn 0x31 tySet = true ∧ typeIn 0x31 tyClear = true ∧
  (∀ (s₀ s : State) (t : Nat) (msg : DdpMsg), s = s₀.ready t → msgOk msg = true → s.transportOpen msg = true →
    2 ≤ msg.words.length → msg.session = 0 → msg.parses = true → msg.type = tyHello → msg.flags = 0 →
    msg.size ≤ sizeLimit msg.transport → msg.payload.length = 4 →
    (chooseVersion (msg.payload.getD 2 0).toNat = none ∨
      ∃ v, chooseVersion (msg.payload.getD 2 0).toNat = some v ∧ v / 16 = 2 ∧ s.rd R.LEGACY_EN = 0) →
    Machine.exec (.hello t msg) s₀ = .next (s₀.after t (replyError msg stVersion)))

/-! ## Where each command completes -/

/-- Where the commands of accesses in the aperture and over DDP complete, and with what effect. From every state in which all that is due by the instant `t`
has come, with operands that meet the conditions of its clause, each command answers the next state that its own effect leaves; the
clause gives the whole next state, and with it all that stays. -/
def Obligations.AccessesComplete : Prop :=
  ∀ (s₀ s : State) (t : Nat), s = s₀.ready t →
  (∀ (r : Ref) (m : Nat) (c : Ref) (v : Word),
    whoOk (.ap m) = true →
    s.keeps (.ap m) r c 0 v = true →
    Machine.exec (.objectWrite t (.ap m) r [v]) s₀ = .next (s₀.after t (acts [storeNow c 0 v, answer (.ap m) 0 []]))) ∧
  (∀ (r : Ref) (m : Nat) (c : Ref) (v : Word),
    whoOk (.ap m) = true →
    s.starts (.ap m) r c v = true →
    Machine.exec (.objectWrite t (.ap m) r [v]) s₀ = .next (s₀.after t (acts [wr c 0, command (.ap m) none c v.toNat, answer (.ap m) 0 []]))) ∧
  (∀ (r : Ref) (vals : List Word) (m : Nat),
    whoOk (.ap m) = true →
    Machine.exec (.objectWrite t (.ap m) r vals) s₀ = .next (s₀.after t (forAll vals.zipIdx fun (x : Word × Nat) => apWrite m none ⟨r.idx, r.inst, r.mem + x.2⟩ 0 x.1))) ∧
  (∀ (r : Ref) (vals : List Word) (k : Nat) u vs items,
    whoOk (.ddp k) = true →
    s.rd (R.S_STATE k) = 2 →
    s.accepted (.ddp k) ⟨r, vals.length, 0, vals⟩ = some (u, vs) →
    (items = stagedOf 0 u (vs.filter fun v => v.1.cls != .cmd)) →
    Machine.exec (.objectWrite t (.ddp k) r vals) s₀ = .next (s₀.after t (acts [onlyIf (!(items.isEmpty)) (acts [markCommit u.objects, storeItems items]), startCommands (.ddp k) none (cmdsOf u vs) 0 (itemEnds (.ddp k) ⟨r, vals.length, 0, vals⟩)]))) ∧
  (∀ (m : Nat) (r : Ref) (v : Word) (c : Ref),
    masterOk m = true →
    s.keeps (.ap m) r c 1 v = true →
    Machine.exec (.setAliasWrite t m r v) s₀ = .next (s₀.after t (acts [storeNow c 1 v, answer (.ap m) 0 []]))) ∧
  (∀ (m : Nat) (r : Ref) (v : Word) (c : Ref),
    masterOk m = true →
    s.keeps (.ap m) r c 2 v = true →
    Machine.exec (.clearAliasWrite t m r v) s₀ = .next (s₀.after t (acts [storeNow c 2 v, answer (.ap m) 0 []]))) ∧
  (∀ (m : Nat) (addr : Nat) (size : Nat) (write : Bool),
    masterOk m = true →
    0x4000000000 ≤ addr →
    addr < 0x4800000000 →
    (size ≠ 8 ∨ addr % 8 ≠ 0) →
    s.frozen m = false →
    s.masterUp m = true →
    Machine.exec (.apertureError t m addr size write) s₀ = .next (s₀.after t (acts [inc R.APERTURE_ERR, raise 0x0005 0 addr, answer (.ap m) stMember []]))) ∧
  (∀ (m : Nat) (addr : Nat) (size : Nat) (write : Bool),
    masterOk m = true →
    0x4000000000 ≤ addr →
    addr < 0x4800000000 →
    s.apTarget m (apDecode addr).1 write = none →
    s.frozen m = false →
    s.masterUp m = true →
    Machine.exec (.apertureError t m addr size write) s₀ = .next (s₀.after t (acts [inc R.APERTURE_ERR, raise 0x0005 0 addr, answer (.ap m) stMember []]))) ∧
  (∀ (w : Who) (limit : Nat) waits pushes behind,
    whoOk w = true →
    limit = (if isDdp w then 10000000 else 2 ^ 20) →
    (waits = (s.eng.txn.waits.filter fun x => decide (x.since + limit ≤ s.now) && match x.what with
    | .item who _ => who == w
    | .run r => w == .ddp r.slot
    | .commit _ => false)) →
    (pushes = (s.eng.host.inp.filter fun e => match e.2.held with
    | some h => h.who == w && decide (h.since + limit ≤ s.now)
    | none => false)) →
    (behind = (s.eng.txn.behind.filter fun b => w == .ap b.m && s.accessLate b.since)) →
    (waits.isEmpty ∧ pushes.isEmpty ∧ behind.isEmpty) →
    Machine.exec (.agentAccessTimeout t w) s₀ = .next (s₀.after t (answer w stBusy []))) ∧
  (∀ (w : Who) (limit : Nat) waits pushes behind,
    whoOk w = true →
    limit = (if isDdp w then 10000000 else 2 ^ 20) →
    (waits = (s.eng.txn.waits.filter fun x => decide (x.since + limit ≤ s.now) && match x.what with
    | .item who _ => who == w
    | .run r => w == .ddp r.slot
    | .commit _ => false)) →
    (pushes = (s.eng.host.inp.filter fun e => match e.2.held with
    | some h => h.who == w && decide (h.since + limit ≤ s.now)
    | none => false)) →
    (behind = (s.eng.txn.behind.filter fun b => w == .ap b.m && s.accessLate b.since)) →
    ¬ (waits.isEmpty ∧ pushes.isEmpty ∧ behind.isEmpty) →
    Machine.exec (.agentAccessTimeout t w) s₀ = .next (s₀.after t (acts [
    forAll waits fun x => acts [dropWait x.what, match x.what with
      | .item who it => itemEnds who it stBusy
      | .run r => failRun stBusy r
      | .commit _ => .skip],
    forAll pushes fun e => acts [setHost fun g => { g with inp := g.inp.set e.1 { e.2 with held := none } }, answer w stBusy []],
    setTxns fun g => { g with behind := g.behind.filter fun b => !(behind.contains b) }, forAll behind fun _ => answer w stBusy []]))) ∧
  (∀ (m : Nat) (r : Ref) q row,
    masterOk m = true →
    s.reads m r = some q →
    row? q = some row →
    row.cls ≠ .wo →
    row.lowest q = true →
    Machine.exec (.wideValueRead t m r) s₀ = .next (s₀.after t (acts [readFirst q, .read fun s => acts [onlyIf (decide (1 < row.span q)) (latchRest (.ap m) q (row.span q)), readEffect row q, answer (.ap m) 0 [BitVec.ofNat 64 (s.live q)]]]))) ∧
  (∀ (m : Nat) (r : Ref) q row e,
    masterOk m = true →
    s.reads m r = some q →
    row? q = some row →
    row.cls ≠ .wo →
    row.lowest q = false →
    (s.eng.txn.snaps.find? (fun e => e.1.1 == .ap m && e.1.2 == q) = some e) →
    Machine.exec (.wideValueRead t m r) s₀ = .next (s₀.after t (answer (.ap m) 0 [e.2]))) ∧
  (∀ (m : Nat) (r : Ref) q row,
    masterOk m = true →
    s.reads m r = some q →
    row? q = some row →
    row.cls = .rc →
    row.width = 1 →
    q.idx ∉ [0x0304, 0x0306, 0x0390, 0x3100, 0x4011, 0x5210, 0x7010] →
    Machine.exec (.readClears t m r) s₀ = .next (s₀.after t (acts [wr q 0, answer (.ap m) 0 [BitVec.ofNat 64 (s.live q)]])))

/-- Where the commands of DDP messages and doorbells complete, and with what effect. From every state in which all that is due by the instant `t`
has come, with operands that meet the conditions of its clause, each command answers the next state that its own effect leaves; the
clause gives the whole next state, and with it all that stays. -/
def Obligations.MessagesComplete : Prop :=
  ∀ (s₀ s : State) (t : Nat), s = s₀.ready t →
  (∀ (msg : DdpMsg) v key credits k id priv opens,
    msgOk msg = true →
    s.transportOpen msg = true →
    2 ≤ msg.words.length →
    msg.session = 0 →
    msg.parses = true →
    msg.type = tyHello →
    msg.flags = 0 →
    msg.size ≤ sizeLimit msg.transport →
    msg.payload.length = 4 →
    chooseVersion (msg.payload.getD 2 0).toNat = some v →
    key = fld (msg.payload.getD 3 0).toNat 63 48 →
    credits = min (min (fld (msg.payload.getD 3 0).toNat 7 0) (s.rd R.CREDITS)) (1024 - s.sessionCredits) →
    s.helloFault msg (some v) key credits = 0 →
    ((List.range 64).find? (fun k => s.rd (R.S_STATE k) == 0) = some k) →
    id = s.eng.txn.lastSid % 65534 + 1 →
    priv = s.grantedPriv msg.transport v key (fld (msg.payload.getD 3 0).toNat 41 40) →
    (opens = decide (msg.transport = 1 ∨ key = 0xFFFF)) →
    Machine.exec (.hello t msg) s₀ = .next (s₀.after t (takeRandom fun o =>
      let ack := ddpWords 0x02 128 id msg.seq 0 v 0 ((octetsToWords ((o ++ List.replicate 16 0).take 16)).take 2 ++
        [BitVec.ofNat 64 (priv * 2 ^ 40 + s.rd R.KEEPALIVE * 2 ^ 8 + credits)])
      acts [
        wr (R.S_STATE k) (if opens then 2 else 1), wr (R.S_ID k) id, wr (R.S_TRANSPORT k) msg.transport, wr (R.S_VERSION k) v,
        wr (R.S_PRIV k) priv, wr (R.S_KEY k) key, wr (R.S_CREDITS k) credits,
        wr (R.S_PEER k 0) msg.peerHi.toNat, wr (R.S_PEER k 1) msg.peerLo.toNat, wr (R.S_BIND k) msg.bind, wr (R.S_REQUESTS k) 0,
        setTxns fun g => { g with lastSid := id },
        setSess k ⟨1, [], [], [], [], 0, 0, s.now, s.now, msg.words, ack, [], 0, none, []⟩,
        reply msg k ack, onlyIf opens (raise 0x0001 k k)]))) ∧
  (∀ (msg : DdpMsg) k q key heard fails,
    msgOk msg = true →
    s.transportOpen msg = true →
    2 ≤ msg.words.length →
    msg.session ≠ 0 →
    ((List.range 64).find? (fun k => s.rd (R.S_STATE k) != 0 && s.rd (R.S_ID k) == msg.session) = some k) →
    s.rd (R.S_TRANSPORT k) = msg.transport →
    s.rd (R.S_BIND k) = msg.bind →
    (msg.transport ≠ 0 ∨ (s.word (R.S_PEER k 0) = msg.peerHi ∧ s.word (R.S_PEER k 1) = msg.peerLo)) →
    s.alive k = true →
    s.rd (R.S_STATE k) = 1 →
    msg.parses = true →
    msg.type = tyAuth →
    msg.payload.length = 2 →
    aget s.eng.sess k = some q →
    s.now ≤ q.offered + 2000000000 →
    key = s.rd (R.S_KEY k) →
    heard = wordsToOctets (q.hello ++ q.helloAck) →
    fails = acts [authFailure key, replyError msg stAuthFail, freeSession k, raise 0x0003 k key] →
    Machine.exec (.auth t msg) s₀ = .next (s₀.after t (withKey key opAuth (fun v =>
      if Config.kmac256 v heard 128 "DDP3 manager" = wordsToOctets msg.payload then
        acts [wr (R.S_STATE k) 2, setSess k { q with
            heard := s.now
            key := q.newKey v (s.rd (R.S_ID k)) },
          reply msg k (ddpWords 0x04 128 (s.rd (R.S_ID k)) msg.seq 0 (s.rd (R.S_VERSION k)) 0
            (octetsToWords (Config.kmac256 v (heard ++ wordsToOctets msg.words) 128 "DDP3 device"))), raise 0x0001 k k]
      else fails) fails))) ∧
  (∀ (msg : DdpMsg) (k : Nat) c,
    msgOk msg = true →
    s.asks k msg = some c →
    c.type = tyClose →
    Machine.exec (.close t msg) s₀ = .next (s₀.after t (served k c (closeSession k 0 (some c.seq))))) ∧
  (∀ (msg : DdpMsg) (k : Nat) c,
    msgOk msg = true →
    s.asks k msg = some c →
    c.type = tyKeepalive →
    Machine.exec (.keepalive t msg) s₀ = .next (s₀.after t (served k c (respond k c.seq 0x09 0 0 [])))) ∧
  (∀ (msg : DdpMsg) (k : Nat) c,
    msgOk msg = true →
    s.asks k msg = some c →
    c.type = tyRead →
    Machine.exec (.read t msg) s₀ = .next (s₀.after t (served k c (.read fun s =>
      let items := readItemsOf (s.rd (R.S_VERSION k)) c.payload
      if sizeLimit (s.rd (R.S_TRANSPORT k)) < readSize k items s then respond k c.seq tyError stTooBig 0 []
      else if bit? c.flags 6 then atomicRead k c.seq items
      else runOn ⟨k, c.seq, tyRead, items, []⟩)))) ∧
  (∀ (msg : DdpMsg) (k : Nat) c,
    msgOk msg = true →
    s.asks k msg = some c →
    c.type = tyWrite →
    Machine.exec (.write t msg) s₀ = .next (s₀.after t (served k c (.read fun s =>
      let items := (writeItemsOf (s.rd (R.S_VERSION k)) 0 c.payload.length c.payload).getD []
      if c.txn ≠ 0 then stageItems k c.seq c.txn items []
      else if bit? c.flags 6 then atomicWrite k c.seq items
      else runOn ⟨k, c.seq, tyWrite, items, []⟩)))) ∧
  (∀ (msg : DdpMsg) (k : Nat) c,
    msgOk msg = true →
    s.asks k msg = some c →
    c.type = tySet →
    Machine.exec (.setBits t msg) s₀ = .next (s₀.after t (served k c (.read fun s =>
      let items := (writeItemsOf (s.rd (R.S_VERSION k)) 1 c.payload.length c.payload).getD []
      if c.txn ≠ 0 then stageItems k c.seq c.txn items []
      else if bit? c.flags 6 then atomicWrite k c.seq items
      else runOn ⟨k, c.seq, tySet, items, []⟩)))) ∧
  (∀ (msg : DdpMsg) (k : Nat) c,
    msgOk msg = true →
    s.asks k msg = some c →
    c.type = tyClear →
    Machine.exec (.clearBits t msg) s₀ = .next (s₀.after t (served k c (.read fun s =>
      let items := (writeItemsOf (s.rd (R.S_VERSION k)) 2 c.payload.length c.payload).getD []
      if c.txn ≠ 0 then stageItems k c.seq c.txn items []
      else if bit? c.flags 6 then atomicWrite k c.seq items
      else runOn ⟨k, c.seq, tyClear, items, []⟩)))) ∧
  (∀ (msg : DdpMsg) (k : Nat) c,
    msgOk msg = true →
    s.asks k msg = some c →
    c.type = tyOpen →
    Machine.exec (.txnOpen t msg) s₀ = .next (s₀.after t (served k c (openTxn (.ddp k) (fun h => respond k c.seq 0x21 0 h [BitVec.ofNat 64 h]) (respond k c.seq 0x21 stResource 0 [0]))))) ∧
  (∀ (msg : DdpMsg) (k : Nat) c x,
    msgOk msg = true →
    s.asks k msg = some c →
    c.type = tyCommit →
    s.txn? c.txn = some x →
    x.who = .ddp k →
    s.rd (R.T_STATE c.txn) = 1 →
    bit? (s.rd (R.T_LINK c.txn)) 11 = false →
    Machine.exec (.txnCommit t msg) s₀ = .next (s₀.after t (served k c (acts [updSess k fun q => { q with waiting := q.waiting ++ [(c.seq, c.txn)] },
      commitTxn c.txn (fld (c.payload.getD 0 0).toNat 7 0) (fld (c.payload.getD 1 0).toNat 39 0)
        (ofT112 (c.payload.getD 2 0).toNat (c.payload.getD 3 0).toNat) (.commit k c.seq)])))) ∧
  (∀ (msg : DdpMsg) (k : Nat) c x,
    msgOk msg = true →
    s.asks k msg = some c →
    c.type = tyAbort →
    s.txn? c.txn = some x →
    x.who = .ddp k →
    (s.rd (R.T_STATE c.txn) < 3 ∨ bit? (s.rd (R.T_LINK c.txn)) 11 = false) →
    Machine.exec (.txnAbort t msg) s₀ = .next (s₀.after t (served k c (acts [abortTxn c.txn 4 none, respond k c.seq 0x25 0 c.txn []])))) ∧
  (∀ (msg : DdpMsg) (k : Nat) c,
    msgOk msg = true →
    s.asks k msg = some c →
    c.type = tySubscribe →
    Machine.exec (.subscribe t msg) s₀ = .next (s₀.after t (served k c (acts [
      updSess k fun q => { q with filters := c.payload.map fun w => (fld w.toNat 63 48, fld w.toNat 47 32) },
      respond k c.seq 0x31 0 0 []])))) ∧
  (∀ (w : Who) (k : Nat) (msg : List Word) (bad : Bool) (rspBad : Bool) v u,
    whoOk w = true →
    v = (hostMemory msg bad).run s →
    (u = (setHost fun g => { g with rspBad := rspBad }).run v) →
    u.takes w (R.MBX_DOORBELL k) 1 = true →
    u.rd (R.MBX_STATUS k) ≠ 1 →
    Machine.exec (.mbxDoorbell t w k msg bad rspBad) s₀ = .next (s₀.after t (acts [hostMemory msg bad, setHost fun g => { g with rspBad := rspBad }, wr (R.MBX_DOORBELL k) 0, acts [wr (R.MBX_STATUS k) 1, note (.mailbox k)], answer w 0 []])))

/-- Where the commands of sessions and their timers complete, and with what effect. From every state in which all that is due by the instant `t`
has come, with operands that meet the conditions of its clause, each command answers the next state that its own effect leaves; the
clause gives the whole next state, and with it all that stays. -/
def Obligations.SessionsComplete : Prop :=
  ∀ (s₀ s : State) (t : Nat), s = s₀.ready t →
  (∀ (k : Nat) q,
    sessOk k = true →
    aget s.eng.sess k = some q →
    (s.rd (R.S_STATE k) == 1 && decide (q.offered + 2000000000 ≤ s.now)) = true →
    Machine.exec (.authTimeout t k) s₀ = .next (s₀.after t (acts [freeSession k, raise 0x0003 k (s.rd (R.S_KEY k))]))) ∧
  (∀ (key : Nat) u,
    keyOk key = true →
    aget s.eng.txn.shut key = some u →
    (decide (u + 60000000000 ≤ s.now)) = true →
    Machine.exec (.authLockoutEnd t key) s₀ = .next (s₀.after t (setTxns fun g => { g with shut := g.shut.clear key }))) ∧
  (∀ (k : Nat) q,
    sessOk k = true →
    aget s.eng.sess k = some q →
    (decide (q.heard + 3 * q.period ≤ s.now)) = true →
    Machine.exec (.keepaliveTimeout t k) s₀ = .next (s₀.after t (closeSession k 2 none))) ∧
  (∀ (k : Nat) q,
    sessOk k = true →
    aget s.eng.sess k = some q →
    ¬(s.rd (R.S_STATE k) ≠ 3 ∨ s.executing k) →
    Machine.exec (.sessionCloseComplete t k) s₀ = .next (s₀.after t (acts [
      match q.closeSeq with
      | some seq =>
        let ws := sealDdp q.key 1 (ddpWords 0x06 (s.ddpFlags k true) (s.rd (R.S_ID k)) seq 0 (s.rd (R.S_VERSION k)) 0 [])
        acts [sendSealed k ws, if s.rd (R.S_TRANSPORT k) = 1 then mailboxDone (s.rd (R.S_BIND k)) ws else .skip]
      | none => .skip,
      ownerGone (.ddp k), freeSession k, raise 0x0002 k (k + q.cause * 256)]))) ∧
  (∀ (w : Who) (k : Nat) u,
    whoOk w = true →
    s.takes w (R.S_KILL k) 1 = true →
    u = (wr (R.S_KILL k) 0).run s →
    (u.rd (R.S_STATE k) == 2) = true →
    Machine.exec (.sKill t w k) s₀ = .next (s₀.after t (acts [wr (R.S_KILL k) 0, acts [wr (R.S_STATE k) 3,
    updSess k fun q => { q with held := [], cause := 1, closeSeq := none },
    .read fun s => forAll (s.eng.txn.txns.filter fun e => e.2.who == .ddp k && s.rd (R.T_STATE e.1) == 1) fun e => abortTxn e.1 6 none], answer w 0 []]))) ∧
  (∀ (k : Nat) q box mailbox e rest ws,
    sessOk k = true →
    aget s.eng.sess k = some q →
    box = s.rd (R.S_BIND k) →
    mailbox = (s.rd (R.S_TRANSPORT k) == 1) →
    q.evq = e :: rest →
    ¬(s.rd (R.S_STATE k) ≠ 2 ∨ (mailbox ∧ s.rd (R.MBX_STATUS box) = 1)) →
    (ws = (sealDdp q.key 2 (ddpWords 0x32 (s.ddpFlags k false) (s.rd (R.S_ID k)) (q.evSeq + 1) 0 (s.rd (R.S_VERSION k)) 0
          ((evWords { e with lost := min q.evLost 0xFFFF }).map fun x => BitVec.ofNat 64 x)))) →
    Machine.exec (.ddpEventSend t k) s₀ = .next (s₀.after t (acts [setSess k { q with
            evq := rest
            evSeq := q.evSeq + 1
            evLost := 0 },
          sendSealed k ws, if mailbox then mailboxDone box ws else .skip])))

/-- Where the commands of transactions complete, and with what effect. From every state in which all that is due by the instant `t`
has come, with operands that meet the conditions of its clause, each command answers the next state that its own effect leaves; the
clause gives the whole next state, and with it all that stays. -/
def Obligations.TransactionsComplete : Prop :=
  ∀ (s₀ s : State) (t : Nat), s = s₀.ready t →
  (∀ (m : Nat),
    masterOk m = true →
    s.starts (.ap m) (R.A_OPEN m) (R.A_OPEN m) 1 = true →
    Machine.exec (.aOpen t m) s₀ = .next (s₀.after t (acts [wr (R.A_OPEN m) 0, openTxn (.ap m) (fun h => acts [wr (R.A_BIND m) h, wr (R.A_OPEN m) h]) (wr (R.A_OPEN m) (stResource * 256)), answer (.ap m) 0 []]))) ∧
  (∀ (m : Nat) (h : Word),
    masterOk m = true →
    s.keeps (.ap m) (R.A_BIND m) (R.A_BIND m) 0 h = true →
    Machine.exec (.aBind t m h) s₀ = .next (s₀.after t (acts [storeNow (R.A_BIND m) 0 h, answer (.ap m) 0 []]))) ∧
  (∀ (m : Nat) u h,
    masterOk m = true →
    s.starts (.ap m) (R.A_COMMIT m) (R.A_COMMIT m) 1 = true →
    u = (wr (R.A_COMMIT m) 0).run s →
    h = u.rd (R.A_BIND m) →
    h ≠ 0 →
    u.rd (R.T_STATE h) = 1 →
    bit? (u.rd (R.T_LINK h)) 11 = false →
    Machine.exec (.aCommit t m) s₀ = .next (s₀.after t (acts [wr (R.A_COMMIT m) 0, acts [wr (R.A_COMMIT m) 0, unbindAll h, .read fun s =>
      commitTxn h (s.rd (R.A_INSTANT m)) (s.rd (R.A_ASN m) % 2 ^ 40) (s.rdTime (R.A_TIME m 0)) (.ap m)], answer (.ap m) 0 []]))) ∧
  (∀ (m : Nat) u h,
    masterOk m = true →
    s.starts (.ap m) (R.A_ABORT m) (R.A_ABORT m) 1 = true →
    u = (wr (R.A_ABORT m) 0).run s →
    h = u.rd (R.A_BIND m) →
    h ≠ 0 →
    u.rd (R.T_STATE h) = 1 →
    Machine.exec (.aAbort t m) s₀ = .next (s₀.after t (acts [wr (R.A_ABORT m) 0, acts [wr (R.A_ABORT m) 0, abortTxn h 4 none], answer (.ap m) 0 []]))) ∧
  (∀ (w : Who) (h : Nat) (v : Word),
    whoOk w = true →
    s.stores w (R.T_LINK h) v = true →
    Machine.exec (.tLinkWrite t w h v) s₀ = .next (s₀.after t (acts [storeNow (R.T_LINK h) 0 v, answer w 0 []]))) ∧
  (Machine.exec (.txnLockTimeout t) s₀ = .next (s₀.after t (waitsFail (failRun stTimeout) (s.eng.txn.waits.filter fun w => decide (w.since + 10000 ≤ s.now))))) ∧
  (Machine.exec (.txnLockGranted t) s₀ = .next (s₀.after t (acts [
  waitsFail (failRun stTimeout) (s.eng.txn.waits.filter fun w => decide (w.since + 10000 < s.now)),
  .read fun s => acts [
    forAll s.eng.txn.waits fun w => match w.what with
      | .item who it => acts [dropWait w.what, itemGoesOn who it (addWait w.what)]
      | .run r => acts [dropWait w.what, resumeRun r]
      | .commit h => commitStep h,
    setTxns fun g => { g with waits := keptWaits s.eng.txn.waits g.waits }]]))) ∧
  (∀ (h : Nat),
    txnOk h = true →
    (s.rd (R.T_STATE h) == 3 && s.txnDue h) = true →
    Machine.exec (.txnApply t h) s₀ = .next (s₀.after t (applyAt h ((s.txnInstant h).getD s.devTime)))) ∧
  (Machine.exec (.txnIdleTimeout t) s₀ = .next (s₀.after t (forAll (s.eng.txn.txns.filter fun e => s.rd (R.T_STATE e.1) == 1 && decide (e.2.touched + s.rd R.IDLE_LIMIT * 1000000 ≤ s.now)) fun e => abortTxn e.1 7 none))) ∧
  (∀ (h : Nat) x u,
    txnOk h = true →
    s.txn? h = some x →
    s.txnInstant h = some u →
    (s.rd (R.T_STATE h) == 4 && decide (u ≤ s.devTime + 100000 * uNs) && (x.touched == 0 || decide (x.touched + 1000000 ≤ s.now))) = true →
    Machine.exec (.txnOutcomeQueryTimer t h) s₀ = .next (s₀.after t (acts [putTxn h { x with touched := max 1 s.now }, fabAsk (fld (s.rd (R.T_LINK h)) 10 8) 0x04 (fld (s.rd (R.T_LINK h)) 7 0) [] h]))) ∧
  (∀ (h : Nat) u,
    txnOk h = true →
    s.txnInstant h = some u →
    (s.rd (R.T_STATE h) == 4 && decide (u + 100000000 * uNs ≤ s.devTime)) = true →
    Machine.exec (.txnOutcomeTimeout t h) s₀ = .next (s₀.after t (acts [abortTxn h 9 none, raise 0x0108 h (h + fld (s.rd (R.T_LINK h)) 10 8 * 256)])))

/-- Where the commands of the configuration store complete, and with what effect. From every state in which all that is due by the instant `t`
has come, with operands that meet the conditions of its clause, each command answers the next state that its own effect leaves; the
clause gives the whole next state, and with it all that stays. -/
def Obligations.ConfigurationsComplete : Prop :=
  ∀ (s₀ s : State) (t : Nat), s = s₀.ready t →
  (∀ (w : Who) (n : Word) u k off,
    whoOk w = true →
    s.takes w R.W_WRITE n = true →
    u = (wr R.W_WRITE 0).run s →
    k = u.rd R.W_TARGET →
    off = u.rd R.W_OFFSET →
    Machine.exec (.wWrite t w n) s₀ = .next (s₀.after t (acts [wr R.W_WRITE 0, acts [putSlot k (patch (u.slot k) off (u.dataOctets R.W_DATA n.toNat)), wr (R.SL_STATE k) 1, wr R.W_OFFSET (off + n.toNat)], answer w 0 []]))) ∧
  (∀ (w : Who) u k st,
    whoOk w = true →
    s.takes w R.W_SEAL 1 = true →
    u = (wr R.W_SEAL 0).run s →
    k = u.rd R.W_TARGET →
    st = u.sealStatus (u.whoPriv w) k →
    Machine.exec (.wSeal t w) s₀ = .next (s₀.after t (acts [wr R.W_SEAL 0, acts [wr R.W_SEAL st,
    match u.slotImage k with
    | some im => if st = 0 then acts [wr (R.SL_STATE k) 2, showSlot k im] else wr (R.SL_STATE k) 3
    | none => wr (R.SL_STATE k) 3], answer w 0 []]))) ∧
  (∀ (w : Who) (k : Nat),
    whoOk w = true →
    s.takes w (R.SL_ERASE k) 1 = true →
    Machine.exec (.slErase t w k) s₀ = .next (s₀.after t (acts [wr (R.SL_ERASE k) 0, acts [setTxns fun g => { g with slots := g.slots.clear k },
  forAll (List.range 10) fun m => wr ⟨0x0112, k, m⟩ 0], answer w 0 []]))) ∧
  (∀ (w : Who) u modes,
    whoOk w = true →
    s.takes w R.MODE_APPLY 1 = true →
    u = (wr R.MODE_APPLY 0).run s →
    modes = u.rd R.MODE_SET % 2 ^ 32 →
    Machine.exec (.modeApply t w) s₀ = .next (s₀.after t (acts [wr R.MODE_APPLY 0, (openTxn .dev (fun h => .read fun s =>
      let items := s.modeItems modes
      match s.txn? h with
      | none => .skip
      | some x => acts [
          putTxn h { x with items := items, resp := .mode, modes := some modes },
          wr (R.T_OBJECTS h) (min 256 (objectsOf items).length), wr R.MODE_APPLY h,
          if 256 < (objectsOf items).length ∨ ¬ s.modesReady modes then abortTxn h 2 none
          else commitTxn h (s.rd R.MODE_INSTANT) (s.rd R.MODE_ASN % 2 ^ 40) (s.rdTime (R.MODE_TIME 0)) .mode])
    (acts [wr R.MODE_APPLY (stResource * 256), raise 0x0104 0 (2 * 256)])), answer w 0 []])))

/-- Where the commands of radio ports complete, and with what effect. From every state in which all that is due by the instant `t`
has come, with operands that meet the conditions of its clause, each command answers the next state that its own effect leaves; the
clause gives the whole next state, and with it all that stays. -/
def Obligations.PortsComplete : Prop :=
  ∀ (s₀ s : State) (t : Nat), s = s₀.ready t →
  (∀ (p : Nat) (u : Nat) (f : Nat),
    portOk p = true →
    s.blockUp (1 + p / 6) = true →
    s.onTime (u * uNs) = true →
    s.rd (R.P_STATE p) = 2 →
    s.needsCal p f = true →
    Machine.exec (.tileTimedCommand t p u (.retune f)) s₀ = .next (s₀.after t (beginCal p f))) ∧
  (∀ (p : Nat) (u : Nat) r f,
    portOk p = true →
    s.blockUp (1 + p / 6) = true →
    s.onTime (u * uNs) = true →
    (s.port p).req = some r →
    f = s.feOf r →
    (s.rd (R.P_STATE p) = 4 ∧ s.onTime (r.t0 - f.antLead * uNs) ∧ (¬ f.coex ∨ (s.port p).granted)) →
    s.assessing r.id = false →
    Machine.exec (.tileTimedCommand t p u .key) s₀ = .next (s₀.after t (acts [wr (R.P_STATE p) 5,
        setPort p fun x => { x with cuts := [], antTx := true, keyed := s.keyedNow p r [] },
        note (.keyed r)]))) ∧
  (∀ (p : Nat) (u : Nat) r st lock,
    portOk p = true →
    s.blockUp (1 + p / 6) = true →
    s.onTime (u * uNs) = true →
    (s.port p).req = some r →
    (s.rd (R.P_STATE p) = 5 ∧ s.onTime (r.t1 + (s.feOf r).antBack * uNs)) →
    st = cutStatus (s.port p).cuts →
    lock = ((s.port p).cuts.contains 2 && (s.port p).keyed.maskLock) →
    Machine.exec (.tileTimedCommand t p u .unkey) s₀ = .next (s₀.after t (acts [endBlanking p (r.t1 + (s.feOf r).trswLag * uNs),
        setPort p fun x => { x with req := none, cuts := [], granted := false, antTx := false, keyed := keyedRest },
        wr (R.P_STATE p) 2,
        endReq r st,
        if s.rd (R.P_ENABLE p) = 0 then disablePort p
        else if lock then
          acts [wr (R.P_STATE p) 6, wr (R.P_LOCK_CAUSE p) 1, raise 0x0403 p p,
            forAll (s.port p).held fun h => endReq h 8, setPort p fun x => { x with held := [] },
            onlyIf (s.port p).startWait (startPort p)]
        else idleNow p]))) ∧
  (∀ (p : Nat) (u : Nat) (tx : Bool),
    portOk p = true →
    s.blockUp (1 + p / 6) = true →
    s.onTime (u * uNs) = true →
    s.rd (R.P_STATE p) ≠ 5 →
    s.rd (R.P_STATE p) ≠ 0 →
    Machine.exec (.tileTimedCommand t p u (.antenna tx)) s₀ = .next (s₀.after t (setPort p fun x => { x with antTx := tx }))) ∧
  (∀ (p : Nat) (u : Nat),
    portOk p = true →
    s.blockUp (1 + p / 6) = true →
    s.onTime (u * uNs) = true →
    Machine.exec (.tileTimedCommand t p u (.blank true)) s₀ = .next (s₀.after t (blankPort s.devTime p))) ∧
  (∀ (p : Nat) (u : Nat),
    portOk p = true →
    s.blockUp (1 + p / 6) = true →
    s.onTime (u * uNs) = true →
    Machine.exec (.tileTimedCommand t p u (.blank false)) s₀ = .next (s₀.after t (unblankPort s.devTime p))) ∧
  (∀ (p : Nat),
    portOk p = true →
    s.blockUp (1 + p / 6) = true →
    Machine.exec (.rxBlockCrcFail t p) s₀ = .next (s₀.after t (acts [inc (R.LINK_ERR p), raiseMs p 0x0408 p p, endPortFrames p 6]))) ∧
  (∀ (p : Nat) r f,
    portOk p = true →
    s.blockUp (1 + p / 6) = true →
    (s.port p).req = some r →
    f = s.feOf r →
    (s.rd (R.P_STATE p) = 5 ∧ r.t0 ≤ s.devTime + f.ramp * uNs ∧ s.devTime ≤ r.t1 + f.ramp * uNs) →
    Machine.exec (.txBlockCrcFail t p) s₀ = .next (s₀.after t (acts [inc (R.LINK_ERR p), raiseMs p 0x0408 p (p + 256), driverOff p, onlyIf (s.onAir p) (cutAt p 3 s.devTime)]))) ∧
  (∀ (w : Who) (p : Nat) (v : Word),
    whoOk w = true →
    s.stores w (R.P_ENABLE p) v = true →
    Machine.exec (.pEnable t w p v) s₀ = .next (s₀.after t (acts [storeNow (R.P_ENABLE p) 0 v, answer w 0 []]))) ∧
  (∀ (p : Nat),
    portOk p = true →
    s.blockUp (1 + p / 6) = true →
    ¬(s.rd (R.P_STATE p) = 0) →
    Machine.exec (.rxSynthUnlock t p) s₀ = .next (s₀.after t (acts [inc (R.RX_UNLOCK p), raise 0x040B p p, wantStart p]))) ∧
  (∀ (p : Nat) (pow : Int),
    portOk p = true →
    s.blockUp (1 + p / 6) = true →
    ¬(s.rd (R.P_STATE p) ≠ 1) →
    Machine.exec (.portStarted t p pow) s₀ = .next (s₀.after t (acts [
    wr (R.P_STATE p) (if s.rd (R.P_LOCK_CAUSE p) = 0 then 2 else 6),
    wr (R.AGC_STATE p) (if s.blanked p then 4 else 1),
    wr (R.AGC_GAIN p) (s.agcGain p pow),
    setPort p fun x => { x with upFrom := s.devTime },
    startLanes p, note (.portUp p),
    if s.rd (R.P_LOCK_CAUSE p) = 0 then idleNow p
    else acts [forAll (s.port p).held fun r => endReq r 8, setPort p fun x => { x with held := [] }]]))) ∧
  (∀ (p : Nat) (settled : Bool),
    portOk p = true →
    s.blockUp (1 + p / 6) = true →
    ¬(s.rd (R.P_STATE p) ≠ 3) →
    Machine.exec (.tsCalibrationDone t p settled) s₀ = .next (s₀.after t (if ¬ settled then onlyIf (s.rd (R.TS_STATE p) == 1) (wr (R.TS_STATE p) 2)
  else if s.rd (R.TS_STATE p) ≠ 2 then .skip
  else acts [
    wr (R.TS_STATE p) 3, wr (R.TS_FREQ p) (s.port p).calFreq, wr (R.TS_LAST_CAL p) (s.now - (s.port p).calFrom),
    wr (R.TS_FAIL_RUN p) 0, setPort p fun x => { x with lastCal := some s.now },
    match (s.port p).req with
    | some r => armReq p r
    | none => wr (R.P_STATE p) 2,
    .read fun s => onlyIf (s.rd (R.P_STATE p) == 2) (idleNow p)]))) ∧
  (∀ (p : Nat),
    portOk p = true →
    s.blockUp (1 + p / 6) = true →
    ¬(s.rd (R.P_STATE p) ≠ 3 ∨ s.rd (R.TS_STATE p) ≠ 1 ∨ s.now < (s.port p).calFrom + 40000) →
    Machine.exec (.tsCalibrationFail t p) s₀ = .next (s₀.after t (acts [
    inc (R.CAL_FAIL p), wr (R.TS_FAIL_RUN p) (min 3 (s.rd (R.TS_FAIL_RUN p) + 1)),
    raise 0x0406 p (p + (s.port p).calFreq / 1000 * 2 ^ 32),
    wr (R.TS_STATE p) 0, wr (R.P_STATE p) 2, setPort p fun x => { x with lastCal := none },
    endPending p 6,
    .read fun s => if 3 ≤ s.rd (R.TS_FAIL_RUN p) then
        acts [wr (R.P_STATE p) 6, wr (R.P_LOCK_CAUSE p) 2, wr (R.TS_STATE p) 4, raise 0x0407 p p,
          forAll (s.port p).held fun r => endReq r 8, setPort p fun x => { x with held := [] },
          onlyIf (s.port p).startWait (startPort p)]
      else idleNow p]))) ∧
  (∀ (p : Nat) (ball : Bool) (held : Nat) level,
    portOk p = true →
    s.blockUp 7 = true →
    level = s.grantSeen (p / 6) ball held →
    Machine.exec (.coexGrantSample t p ball held) s₀ = .next (s₀.after t (acts [wr (R.CX_GNT (p / 6)) (b2n level),
    match (s.port p).req with
    | none => .skip
    | some r =>
      let f := s.feOf r
      if s.rd (R.P_STATE p) = 4 ∧ f.coex ∧ r.t0 ≤ s.devTime + max f.cxDeadline f.antLead * uNs then
        if level then setPort p fun x => { x with granted := true }
        else acts [wr (R.P_STATE p) 2, deny p, endPending p 5, idleNow p]
      else .skip]))) ∧
  (∀ (p : Nat) (samples : List (Int × Int)) r f,
    portOk p = true →
    s.blockUp 7 = true →
    (s.port p).req = some r →
    f = s.feOf r →
    (s.rd (R.P_STATE p) = 4 ∧ s.onTime (r.t0 - f.antLead * uNs) ∧ (¬ f.coex ∨ (s.port p).granted)) →
    Machine.exec (.keyingStart t p samples) s₀ = .next (s₀.after t (if s.assessing r.id then acts [dropAssessment r.id, wr (R.P_STATE p) 2, endPending p 10, idleNow p]
      else acts [wr (R.P_STATE p) 5,
        setPort p fun x => { x with cuts := [], antTx := true, keyed := s.keyedNow p r samples },
        note (.keyed r)]))) ∧
  (∀ (p : Nat) r st lock,
    portOk p = true →
    s.blockUp 7 = true →
    (s.port p).req = some r →
    (s.rd (R.P_STATE p) = 5 ∧ s.onTime (r.t1 + (s.feOf r).antBack * uNs)) →
    st = cutStatus (s.port p).cuts →
    lock = ((s.port p).cuts.contains 2 && (s.port p).keyed.maskLock) →
    Machine.exec (.txFrameEnd t p) s₀ = .next (s₀.after t (acts [endBlanking p (r.t1 + (s.feOf r).trswLag * uNs),
        setPort p fun x => { x with req := none, cuts := [], granted := false, antTx := false, keyed := keyedRest },
        wr (R.P_STATE p) 2,
        endReq r st,
        if s.rd (R.P_ENABLE p) = 0 then disablePort p
        else if lock then
          acts [wr (R.P_STATE p) 6, wr (R.P_LOCK_CAUSE p) 1, raise 0x0403 p p,
            forAll (s.port p).held fun h => endReq h 8, setPort p fun x => { x with held := [] },
            onlyIf (s.port p).startWait (startPort p)]
        else idleNow p]))) ∧
  (∀ (tile : Nat) (held : Nat) (gaps : List Nat),
    tileOk tile = true →
    s.blockUp 7 = true →
    (decide (100 ≤ held)) = true →
    Machine.exec (.coexGrantWithdrawn t tile held gaps) s₀ = .next (s₀.after t (acts [ wr (R.CX_GNT tile) 0, forAll (List.range 6) fun k => withdraw (6 * tile + k) (gaps.getD k 0)]))) ∧
  (∀ (p : Nat) (bin : Int) (first : List (Int × Nat)) (second : List (Int × Nat)),
    portOk p = true →
    s.blockUp (1 + p / 6) = true →
    Machine.exec (.maskViolation t p bin first second) s₀ = .next (s₀.after t (match (s.port p).req with
  | none => .skip
  | some r =>
  let w := (s.feOf r).maskBins
  let off := bin * (w.1 : Int)
  let mask := (s.port p).keyed.mask
  match maskLimit off.natAbs 0 mask with
  | none => .skip
  | some (b, lim, den) =>
    let above (bins : List (Int × Nat)) : Bool := standsAbove (binPower bins bin) (inChannel w.1 mask bins) lim den
    if s.onAir p ∧ (s.port p).keyed.maskOn ∧ off.natAbs ≤ w.2 ∧ s.periodEnds r ∧ above first ∧ above second then
      let excess := excessOver (binPower second bin) (inChannel w.1 mask second) lim den 1024 0
      let last := b * 2 ^ 56 + unsgn 24 off * 2 ^ 32 + excess % 65536
      acts [inc (R.MASK_VIOL p), wr (R.MK_LAST p) last, raise 0x0402 p (p + last / 2 ^ 32 * 2 ^ 32),
        driverOff p, cutAt p 2 s.devTime]
    else .skip))) ∧
  (∀ (w : Who) (p : Nat) u,
    whoOk w = true →
    s.takes w (R.P_TX_UNLOCK p) 1 = true →
    u = (wr (R.P_TX_UNLOCK p) 0).run s →
    Machine.exec (.pTxUnlock t w p) s₀ = .next (s₀.after t (acts [wr (R.P_TX_UNLOCK p) 0, acts [ onlyIf (u.rd (R.P_STATE p) == 6) (acts [wr (R.P_STATE p) 2, wr (R.P_LOCK_CAUSE p) 0]), onlyIf (u.rd (R.P_STATE p) == 1) (wr (R.P_LOCK_CAUSE p) 0), wr (R.TS_FAIL_RUN p) 0, onlyIf (u.rd (R.TS_STATE p) == 4) (wr (R.TS_STATE p) 0)], answer w 0 []]))) ∧
  (∀ (p : Nat) (clipped : Nat) ls,
    (portOk p && decide (clipped ≤ 128)) = true →
    s.blockUp (1 + p / 6) = true →
    ls = s.breakLanes p →
    (s.rd (R.AGC_STATE p) = 2 ∧ s.rd (R.AGC_MODE p) = 0 ∧ 64 < clipped) →
    Machine.exec (.agcBreak t p clipped) s₀ = .next (s₀.after t (acts [wr (R.AGC_STATE p) 3, alsoEndsPort p 4, forAll ls fun l => endFrame l 4 [], inc (R.AGC_BREAKS p), raise 0x0401 p (p + ls.length * 256)]))) ∧
  (∀ (p : Nat) (pow : Int),
    portOk p = true →
    s.blockUp (1 + p / 6) = true →
    (s.rd (R.AGC_STATE p) = 3) →
    Machine.exec (.agcSettlingEnd t p pow) s₀ = .next (s₀.after t (acts [wr (R.AGC_GAIN p) (s.agcGain p pow), wr (R.AGC_STATE p) (if (s.busyLanes p).isEmpty then 1 else 2)]))) ∧
  (∀ (p : Nat) (power : Int) thr,
    portOk p = true →
    s.blockUp (1 + p / 6) = true →
    thr = s.rdi (R.LNA_BYP_THR p) →
    Machine.exec (.lnaBypassChange t p power) s₀ = .next (s₀.after t (.seq (agcTracks p power) <| if fld (s.rd (R.P_FE_CTRL p)) 13 12 = 3 ∧ s.rd (R.AGC_STATE p) = 1 then
    if thr < power then setPort p fun x => { x with agcByp := true }
    else if power ≤ thr - 24 then setPort p fun x => { x with agcByp := false }
    else .skip
  else .skip))) ∧
  (∀ (preamble : Nat) (delimiter : Nat) (word : Nat) w' m,
    (decide (word < 2 ^ 32) && decide (delimiter < 2 ^ 8)) = true →
    s.eng.radio.wake = some w' →
    m = wakeMatch w' word →
    (s.eng.rst.power == 1 && wakeFramed preamble delimiter && m != 0) = true →
    Machine.exec (.wakePatternAccepted t preamble delimiter word) s₀ = .next (s₀.after t (acts [inc R.WK_MATCHES, wr R.WK_LAST m, powerUp true])))

/-- Where the commands of lanes and energy detectors complete, and with what effect. From every state in which all that is due by the instant `t`
has come, with operands that meet the conditions of its clause, each command answers the next state that its own effect leaves; the
clause gives the whole next state, and with it all that stays. -/
def Obligations.LanesComplete : Prop :=
  ∀ (s₀ s : State) (t : Nat), s = s₀.ready t →
  (∀ (p : Nat),
    portOk p = true →
    s.blockUp 7 = true →
    Machine.exec (.laneBindCell t p) s₀ = .next (s₀.after t (.seq (ackWaitBind p) <| .read fun s =>
  let cells (bank : Nat) := ((s.cells bank).filter fun c => cellPort c.2.1 == p && cellRx c.2.1).filterMap (s.openWindow p bank)
  let now := s.rd R.ST_ACTIVE
  onlyIf (s.receiving p) (forAll (cells (1 - now) ++ cells now) fun x => bindCell p x.1 x.2)))) ∧
  (∀ (p : Nat) ovr,
    portOk p = true →
    s.blockUp 7 = true →
    (ovr = (s.eng.tsch.wins.filter fun w => w.port == p && decide (w.fin ≤ s.devTime))) →
    Machine.exec (.laneUnbind t p) s₀ = .next (s₀.after t (acts [forAll ovr fun w => forAll (s.boundLanes (.cell w.id)) unbindLane,
    setTsch fun g => { g with wins := g.wins.filter fun w => !(ovr.contains w) || s.windowKept w }]))) ∧
  (∀ (l : Nat) (symbols : Nat) (lvl : Int) (noise : Int) p mode,
    laneOk l = true →
    s.blockUp 5 = true →
    p = s.rd (R.L_PORT l) →
    mode = s.rd (R.L_MODE l) →
    ¬(s.rd (R.L_STATE l) ≠ 2 ∨ s.rd (R.AGC_STATE p) = 4 ∨ (modeFamily mode ≠ 2 ∧ symbols < s.rd (R.CP_DET_SYMBOLS p))) →
    Machine.exec (.preambleDetect t l symbols lvl noise) s₀ = .next (s₀.after t (acts [inc (R.DETECTS l),
    wri (R.L_DGAIN l) (s.dgainFor p lvl), wri (R.L_NOISE l) (s.planeLevel p noise),
    setLane l { (s.lane l) with
      frame := some ⟨s.devTime - s.rd (R.P_FE_DELAY_RX p) * uNs, none, -696, 0, mode, 0, none, s.rd R.DL_SYNC, true, s.dclk⟩ },
    setLaneState l 3, countBusy p,
    onlyIf (s.rd (R.AGC_STATE p) == 1) (wr (R.AGC_STATE p) 2)]))) ∧
  (∀ (l : Nat) (margin : Int) p f,
    laneOk l = true →
    s.blockUp 5 = true →
    p = s.rd (R.L_PORT l) →
    (s.lane l).frame = some f →
    (s.inSync l && s.rd (R.CP_CAPTURE p) != 0 && decide (4 * (s.rd (R.CP_CAPTURE p) : Int) ≤ margin)) →
    Machine.exec (.preambleCapture t l margin) s₀ = .next (s₀.after t (acts [setLane l { (s.lane l) with frame := some { f with tDet := s.devTime - s.rd (R.P_FE_DELAY_RX p) * uNs } },
        inc (R.CAPTURES l)]))) ∧
  (∀ (l : Nat),
    laneOk l = true →
    s.blockUp 5 = true →
    (s.inSync l) = true →
    Machine.exec (.syncMiss t l) s₀ = .next (s₀.after t (acts [inc (R.SYNC_MISSES l), afterFrame l (s.rd (R.L_PORT l))]))) ∧
  (∀ (l : Nat) (fec : Bool) (sync : Nat) (lvl : Int) (cfo : Int) p f fsk,
    laneOk l = true →
    s.blockUp 5 = true →
    p = s.rd (R.L_PORT l) →
    (s.lane l).frame = some f →
    fsk = (modeFamily f.mode == 1) →
    ¬(!(s.inSync l) || (fsk && fec && !(bit? f.mode 47)) || (modeFamily f.mode == 5 && sync != f.sync)) →
    Machine.exec (.sfdDetect t l fec sync lvl cfo) s₀ = .next (s₀.after t (acts [
      setLane l { (s.lane l) with frame := some { f with
        tSof := some (s.devTime - s.rd (R.P_FE_DELAY_RX p) * uNs), rssi := s.rssiOf l lvl, cfo := sgn 32 (unsgn 32 cfo),
        mode := if fsk then setFld f.mode 47 47 (b2n fec) else f.mode } },
      onlyIf (s.rd (R.L_STATE l) == 3) (setLaneState l 4),
      match (s.lane l).bind with
      | .ack req => note (.ackSof req (s.devTime - s.rd (R.P_FE_DELAY_RX p) * uNs))
      | _ => .skip]))) ∧
  (∀ (l : Nat) (good : Bool) (len : Nat) (modeSwitch : Bool) (sel : Nat) (fcs4 : Bool) f,
    laneOk l = true →
    s.blockUp 5 = true →
    s.frameNow l = some f →
    ¬(f.tSof.isNone || modeFamily f.mode == 5) →
    Machine.exec (.phrReceived t l good len modeSwitch sel fcs4) s₀ = .next (s₀.after t (acts [
      setFrame l { f with len := len % 2048, mode := modeReceived f.mode sel, fcs4 := fcs4 },
      if !good || decide (familyMaximum f.mode < len) then endFrame l 2 []
      else onlyIf (modeSwitch || !(modeAccepts f.mode sel)) (endFrame l 3 [])]))) ∧
  (∀ (l : Nat) (psdu : List Nat) (soft : List Int) f p,
    (laneOk l && octets psdu) = true →
    s.blockUp 5 = true →
    s.frameNow l = some f →
    p = s.rd (R.L_PORT l) →
    ¬(f.tSof.isNone) →
    Machine.exec (.rxFrameEnd t l psdu soft) s₀ = .next (s₀.after t (if modeFamily f.mode == 5 then
      match f.hdr with
      | none => .skip
      | some h => onlyIf (s.lane l).frame.isSome (acts [inc (R.LLR_COPIES l),
          setLaneEng fun g => { g with
            copies := g.copies ++ [⟨h, s.now, l, p, s.rd (R.L_CHANNEL l), f.rssi,
              lqiOf f.rssi (s.rdi (R.L_NOISE l)), f.cfo, f.tSof.getD 0, f.tDet, (s.lane l).bind,
              dlReceive (dlRate h) (dlWords h) soft⟩]
            ends := (g.ends.filter fun e => e.cycle == s.dclk && e.lane != l) ++ [⟨l, s.dclk, p, [0], f, false⟩] },
          afterFrame l p])
    else
      let octs := psduRead f psdu soft
      if octs.length = f.len ∧ fcsGood f.fcs4 octs then endFrame l 0 octs else endFrame l 1 []))) ∧
  (∀ (p : Nat) e,
    portOk p = true →
    s.blockUp 5 = true →
    ((s.eng.lane.edWait.find? fun e => e.port == p) = some e) →
    ¬(16 ≤ (s.eng.lane.edBusy.filter fun b => b.port == p).length) →
    Machine.exec (.edDetectorFree t p) s₀ = .next (s₀.after t (acts [setLaneEng fun g => { g with edWait := g.edWait.erase e },
      if e.due < s.now + e.len then ccaBusy e
      else setLaneEng fun g => { g with edBusy := g.edBusy ++ [{ e with start := s.now }] }]))) ∧
  (∀ (req : Nat) (power : Int) e mode mode',
    s.blockUp 5 = true →
    ((s.eng.lane.edBusy.find? fun e => e.req == req) = some e) →
    ¬(s.now < e.start + e.len) →
    (mode = ((s.eng.sn.exs.find? fun x => x.req == req).map (·.mode))) →
    (mode' = (match mode with
        | some m => m
        | none => ((s.att? req).map (·.mode)).getD 0)) →
    Machine.exec (.edResult t req power) s₀ = .next (s₀.after t (acts [setLaneEng fun g => { g with edBusy := g.edBusy.filter fun x => x.req != req },
        match s.lbtOf (s.planFreq e.port e.channel) (s.passband e.port mode') with
        | some lbt => onlyIf (s.channelBusy e.port e.channel lbt power) (ccaBusy e)
        | none => .skip])))

/-- Where the commands of Deep Link groups and decoders complete, and with what effect. From every state in which all that is due by the instant `t`
has come, with operands that meet the conditions of its clause, each command answers the next state that its own effect leaves; the
clause gives the whole next state, and with it all that stays. -/
def Obligations.DeepLinkComplete : Prop :=
  ∀ (s₀ s : State) (t : Nat), s = s₀.ready t →
  (∀ (l : Nat) (chips : List Int) sums,
    laneOk l = true →
    s.blockUp 6 = true →
    sums = headerSums chips →
    Machine.exec (.dlHeaderDecode t l chips) s₀ = .next (s₀.after t (if sums.contains 0 then takeFree fun v => headerReceived l (headerBits v sums) else headerReceived l (headerBits 0 sums)))) ∧
  (∀ c rest,
    s.blockUp 6 = true →
    s.eng.lane.copies = c :: rest →
    Machine.exec (.dlCopyCombine t) s₀ = .next (s₀.after t (acts [setLaneEng fun g => { g with copies := rest },
      match latestGroup (s.dlMatches c) with
      | none => openGroup c
      | some (i, g) =>
        if g.state = 3 then acts [inc (R.DL_SURPLUS c.port),
          setDl fun d => { d with surplus := d.surplus ++ [(i, { c with llrs := [] })] }]
        else addCopy i g c]))) ∧
  (∀ j d (x : Nat),
    s.blockUp 6 = true →
    s.freeDecoder = some j →
    d = arbDecide (s.rd (R.ARB_N 1)) (s.eng.arb.at 1 ⟨arbSeed 1, 0⟩) s.decodeWaiting →
    d.1 = some x →
    Machine.exec (.dlDecodeGrant t) s₀ = .next (s₀.after t (acts [eng fun e => { e with arb := e.arb.set 1 d.2.2 }, inc (R.ARB_GRANTS 1), onlyIf d.2.1 (inc (R.ARB_OLDEST 1)), startDecode j x]))) ∧
  (∀ (d : Nat) r res ok hard,
    decoderOk d = true →
    s.blockUp 6 = true →
    aget s.eng.dl.decoders d = some r →
    res = s.decodeOf r →
    ok = res.1 →
    hard = res.2.2 →
    Machine.exec (.dlDecodeEnd t d) s₀ = .next (s₀.after t (acts [
      setDl fun x => { x with decoders := x.decoders.clear d },
      .read fun s => wr R.DEC_BUSY s.eng.dl.decoders.length,
      addTo R.DEC_ITERATIONS res.2.1,
      match aget s.eng.dl.groups r.group with
      | none => .skip
      | some g =>
        if g.serial ≠ r.serial ∨ g.state = 3 then .skip
        else
          let again := (g.words.getD r.word ⟨[], none, false, false, false⟩).again
          let upd (w : DlWord) : DlWord :=
            if ok then { w with conv := some hard, running := false, again := false }
            else { w with running := false, queued := again, again := false }
          let ws := g.words.zipIdx.map fun x => if x.2 = r.word then upd x.1 else x.1
          let g' := { g with words := ws, state := groupState ws }
          acts [onlyIf (!ok) (inc (R.DL_ITER_LIMIT g.port)),
            if ws.all fun w => w.conv.isSome then dlFinish r.group g' r.copy
            else acts [setGroup r.group g', onlyIf (!ok && again) (queueDecodes r.group g.port [r.word]),
              failCheck r.group]]]))) ∧
  (∀ (g : Nat) g',
    dlGroupOk g = true →
    s.blockUp 6 = true →
    aget s.eng.dl.groups g = some g' →
    ¬(s.now < g'.first + g'.span) →
    Machine.exec (.dlGroupExpire t g) s₀ = .next (s₀.after t (acts [freeGroup g, onlyIf (g'.state != 3) (acts [inc (R.DL_EXPIRED g'.port), raise 0x0603 g'.port (g'.port + dlTag g'.hdr * 256)])]))) ∧
  (∀ y1 c rest,
    s.blockUp 7 = true →
    s.eng.dl.surplus = (y1, c) :: rest →
    Machine.exec (.dlSurplusReport t) s₀ = .next (s₀.after t (acts [setDl fun d => { d with surplus := rest },
      match s.eng.tsch.dlAcks.find? fun y => y.port == c.port && y.tag == dlTag c.hdr with
      | none => .skip
      | some y =>
        let waits := s.eng.tsch.acks.any fun x => x.port == y.port && x.dl == some y.tag
        onlyIf (s.rd R.TS_RUN == 1 && !waits) (askAck { y.ack with t0 := dlCopyEnd c + y.delay })])))

/-- Where the commands of the TSCH engine complete, and with what effect. From every state in which all that is due by the instant `t`
has come, with operands that meet the conditions of its clause, each command answers the next state that its own effect leaves; the
clause gives the whole next state, and with it all that stays. -/
def Obligations.CellsComplete : Prop :=
  ∀ (s₀ s : State) (t : Nat), s = s₀.ready t →
  (∀ (w : Who) (v : Word),
    whoOk w = true →
    s.stores w R.TS_RUN v = true →
    Machine.exec (.tsRun t w v) s₀ = .next (s₀.after t (acts [storeNow R.TS_RUN 0 v, answer w 0 []]))) ∧
  (∀ (p : Nat) a cs,
    portOk p = true →
    s.blockUp 7 = true →
    s.decideAsn p = some a →
    cs = s.txCells p a →
    Machine.exec (.txDecision t p) s₀ = .next (s₀.after t (acts [setTsch fun g => { g with decided := g.decided.set p ((a :: g.decided.at p []).take 64) },
      countKeptBack p a cs,
      if (s.portAtts p).any fun old => old.bank != s.bankOf a then addTo (R.TX_YIELD p) cs.length
      else
        let r := s.chooseCell a 0 cs
        acts [addTo (R.TX_NO_FIT p) r.2,
          match r.1 with
          | none => .skip
          | some x =>
            let held := s.exHolds p x
            if held.all s.exTie then acts [forAll held fun e => replanEx e none, admitAtt p x] else inc (R.TX_YIELD p)],
      countBackoff p a cs]))) ∧
  (∀ (p : Nat),
    portOk p = true →
    s.blockUp 7 = true →
    Machine.exec (.txRetuneInstant t p) s₀ = .next (s₀.after t (acts [ forAll (s.portAtts p) attRetune, forAll (s.eng.tsch.acks.filter fun x => x.port == p) ackRetune, forAll (s.portExs p) snRetune]))) ∧
  (∀ (p : Nat),
    portOk p = true →
    s.blockUp 7 = true →
    Machine.exec (.ackWaitBind t p) s₀ = .next (s₀.after t (forAll (s.portAtts p) fun x => .read fun s =>
  if x.state ≠ 4 ∨ x.lane.isSome ∨ s.devTime < x.t1 + s.tplAt x.asn x.tmpl tRxAckDelay then .skip
  else match s.freeLane p with
    | some l => acts [bindLane l (.ack x.req) x.chan x.mode, setAtt { x with lane := some l }]
    | none => acts [inc (R.TX_NO_ACK_LANE p), attRetry x]))) ∧
  (∀ (p : Nat),
    portOk p = true →
    s.blockUp 7 = true →
    Machine.exec (.ackTimeout t p) s₀ = .next (s₀.after t (forAll (s.portAtts p) fun x => .read fun s =>
  onlyIf (x.state == 4 && (!x.sof || !(s.ackUnderWay x.req)) && decide (x.edge ≤ s.devTime))
    (acts [forAll (s.boundLanes (.ack x.req)) unbindLane, attRetry x])))) ∧
  (∀ (tile : Nat) (f : Option MacFrame) (foreign : Bool) r rest,
    tileOk tile = true →
    s.blockUp 7 = true →
    s.eng.lane.queues.at tile [] = r :: rest →
    Machine.exec (.rxRecord t tile f foreign) s₀ = .next (s₀.after t (.seq (setLaneEng fun g => { g with queues := if rest.isEmpty then g.queues.clear tile else g.queues.set tile rest })
    (match r.bind with
    | .ack req => rxAck r req f
    | _ =>
      if r.status ≠ 0 then .skip
      else match f with
        | none => reject r.port
        | some g =>
          if g.type = 2 then
            match s.eng.sn.exs.find? fun x => x.port == r.port && x.chan == r.channel && x.step == 3 &&
                decide (r.tSof + 8000 * uNs ≤ x.edge) with
            | some x => acts [setEx { x with sof := true }, rxAck r x.req f]
            | none => reject r.port
          else if !(s.accepts g) then reject r.port
          else if g.level = 0 then
            match s.joinPacket g with
            | some o => acts [note (.joinRx r g o), acknowledge r g 0 false]
            | none => rejectSec r.port
          else match g.src with
            | .ext e => find (r.port / 6) 0 e fun found => match found with
                | .here n => rxSecured r g n
                | .there _ _ _ => inc (R.PL_FOREIGN (r.port / 6))
                | .miss => if foreign then inc (R.PL_FOREIGN (r.port / 6)) else rejectSec r.port
            | _ => reject r.port)))) ∧
  (∀ (p : Nat) fin other,
    portOk p = true →
    s.blockUp 7 = true →
    fin = s.eng.tsch.ebFrom.at p 0 + s.rd (R.EB_PERIOD p) * 1000000 →
    other = (s.eng.tsch.ebDue.filter (· != p)) →
    (s.rd (R.EB_PERIOD p) != 0 && decide (fin ≤ s.now)) = true →
    Machine.exec (.ebPeriod t p) s₀ = .next (s₀.after t (acts [
    setTsch fun g => { g with ebFrom := g.ebFrom.set p fin },
    if s.ebInHand p then setTsch fun g => { g with ebDue := p :: p :: other }
    else setTsch fun g => { g with ebDue := p :: other, ebKept := g.ebKept.clear p, withheld := g.withheld.filter (· != (true, p)) }])))

/-- Where the commands of sleepy nodes and the tally bins complete, and with what effect. From every state in which all that is due by the instant `t`
has come, with operands that meet the conditions of its clause, each command answers the next state that its own effect leaves; the
clause gives the whole next state, and with it all that stays. -/
def Obligations.SleepyComplete : Prop :=
  ∀ (s₀ s : State) (t : Nat), s = s₀.ready t →
  (∀ ms,
    s.blockUp 8 = true →
    ms = s.devTime / (1000 * uUs) →
    ¬(s.rd R.TS_RUN = 0 ∨ s.rd R.SN_EN = 0) →
    Machine.exec (.wheelBucket t) s₀ = .next (s₀.after t (forAll ((s.eng.sn.wheel.filter fun w => decide (w.2 ≤ ms)).map (·.1)) wheelEntry))) ∧
  (∀ (n : Nat) x t0,
    nodeOk n = true →
    s.blockUp 8 = true →
    s.snEx? n = some x →
    t0 = x.t1 + s.rd R.SN_FOLLOW_GAP * uUs →
    ¬(x.step ≠ 4) →
    Machine.exec (.snFollowOn t n) s₀ = .next (s₀.after t (if s.campHeld x.pkt then replanEx x none
    else admitTx (s.exTxs x)
      (fun ids => if x.past then snNext { x with resv := ids } t0
        else .seq (planEx { x with step := 0, resv := ids, t0 := t0, ret := s.retuneAt t0, decided := s.now })
          (.read fun s => forAll (s.snEx? n).toList snRetune))
      (fun _ => replanEx x (some R.SN_TALLY_WAIT))))) ∧
  (∀ (n : Nat) x plain,
    nodeOk n = true →
    s.blockUp 8 = true →
    s.snEx? n = some x →
    plain = x.t1 + s.rd R.SN_DL_GAP * uUs →
    Machine.exec (.snDlNextCopy t n) s₀ = .next (s₀.after t (let hears (l : Nat) : Bool := s.rd (R.L_PORT l) == x.port && s.rd (R.L_CHANNEL l) == x.chan && modeFamily (s.rd (R.L_MODE l)) == 5
    let busy := (s.busyLanes x.port).any hears
    let heard := ((s.eng.lane.heardTo.filter fun e => hears e.1 && decide (plain < e.2)).map (·.2)).foldl max 0
    let due := if heard = 0 then plain else heard + 1000 * uUs
    if x.step = 3 ∧ x.sent < x.copies ∧ ¬ busy ∧ due ≤ s.devTime + s.rd R.TS_RETUNE_LEAD * uNs then
      snNext x (max due (s.devTime + s.keyLead x.port * uNs))
    else .skip))) ∧
  (∀ (n : Nat) x coming,
    nodeOk n = true →
    s.blockUp 8 = true →
    s.snEx? n = some x →
    (coming = (x.sof && (((s.boundLanes (.ack x.req)).any fun l => (s.lane l).frame.isSome) ||
      s.eng.lane.queues.any fun q => q.2.any fun r => r.bind == .ack x.req))) →
    (x.step = 3 ∧ ¬ coming ∧ x.edge ≤ s.devTime) →
    Machine.exec (.snAckTimeout t n) s₀ = .next (s₀.after t (acts [forAll (s.boundLanes (.ack x.req)) unbindLane, onlyIf (x.sent == x.copies) (missEx x)]))) ∧
  (∀ (n : Nat) p,
    nodeOk n = true →
    s.blockUp 8 = true →
    aget s.eng.sn.plans n = some p →
    (s.snService n == 2 && s.snState n == 1 && decide (p.due ≤ s.devTime)) = true →
    Machine.exec (.ritRequestMissed t n) s₀ = .next (s₀.after t (if s.ritArriving n p.due then placeEntry n (s.devTime + 1000 * uUs) else acts [inc R.SN_ATTEMPTS, unanswered n]))) ∧
  (∀ old,
    s.blockUp 8 = true →
    old = (s.eng.sn.ages.map (·.1)).takeWhile s.agedOut →
    Machine.exec (.psTtlSweep t) s₀ = .next (s₀.after t (let keyed (i : Nat) : Bool := s.eng.sn.exs.any fun x => x.pkt == i && x.past
  forAll (old.filter fun i => !(keyed i)) fun i => .read fun s => .seq (freeAged i)
    (forAll (s.eng.sn.exs.filter fun x => x.pkt == i) fun x => replanEx x none)))) ∧
  (∀ n rest,
    s.blockUp 8 = true →
    s.eng.sn.overflow = n :: rest →
    ¬(s.rd R.WH_FREE = 0) →
    Machine.exec (.overflowGrant t) s₀ = .next (s₀.after t (acts [setSn fun g => { g with overflow := rest }, wr R.OVF_LEN rest.length, setSnState n 1, planNode n s.nowNs]))) ∧
  (∀ (w : Who) (v : Word),
    whoOk w = true →
    s.stores w R.SN_EN v = true →
    Machine.exec (.snEn t w v) s₀ = .next (s₀.after t (acts [storeNow R.SN_EN 0 v, answer w 0 []]))) ∧
  (∀ (w : Who) (n : Nat) (j : Nat) (v : Word),
    (whoOk w && decide (j < 3)) = true →
    s.stores w ⟨0x2310, n, j⟩ v = true →
    Machine.exec (.snNodeConfigWrite t w n j v) s₀ = .next (s₀.after t (acts [storeNow ⟨0x2310, n, j⟩ 0 v, answer w 0 []]))) ∧
  (∀ (w : Who) (n : Nat) u,
    whoOk w = true →
    s.takes w (R.SN_CMD n) 1 = true →
    u = (wr (R.SN_CMD n) 0).run s →
    ¬(u.snState n ≠ 3) →
    Machine.exec (.snCmdLeaveUnreachable t w n) s₀ = .next (s₀.after t (acts [wr (R.SN_CMD n) 0, acts [setMisses n 0, if (u.snFrames n).isEmpty then setSnState n 0 else if u.wheelFull ∨ u.snService n = 2 then admitNode n else acts [enterSweep n, planFull n u.devTime]], answer w 0 []]))) ∧
  (∀ (w : Who) (n : Nat),
    whoOk w = true →
    s.takes w (R.SN_CMD n) 2 = true →
    Machine.exec (.snCmdFreeFrames t w n) s₀ = .next (s₀.after t (acts [wr (R.SN_CMD n) 0, acts [giveUp n, dropPending n], answer w 0 []]))) ∧
  (∀ (w : Who) (n : Nat),
    whoOk w = true →
    s.takes w (R.SN_CMD n) 3 = true →
    Machine.exec (.snCmdResetEstimate t w n) s₀ = .next (s₀.after t (acts [wr (R.SN_CMD n) 0, (setSn fun g => { g with resets := n :: g.resets.filter (· != n) }), answer w 0 []]))) ∧
  (s.blockUp 9 = true →
    Machine.exec (.tallyBinClose t) s₀ = .next (s₀.after t (.seq (closeEach (if s.eng.tally.resv.isEmpty then 0 else 128)) (.read fun s => onlyIf (s.secondsDue != 0) (closeSeconds s.secondsDue ((s.eng.tally.openSec + 1) * uSec))))))

/-- Where the commands of the node table and forwarding complete, and with what effect. From every state in which all that is due by the instant `t`
has come, with operands that meet the conditions of its clause, each command answers the next state that its own effect leaves; the
clause gives the whole next state, and with it all that stays. -/
def Obligations.NodesComplete : Prop :=
  ∀ (s₀ s : State) (t : Nat), s = s₀.ready t →
  (∀ (w : Who) (k : Nat) u e iid,
    whoOk w = true →
    s.takes w (R.CR_CMD k) 1 = true →
    u = (wr (R.CR_CMD k) 0).run s →
    e = u.rd (R.CR_EUI64 k) →
    e ≠ 0 →
    iid = (if u.rd (R.CR_IID k) = 0 then bxor e (2 ^ 57) else u.rd (R.CR_IID k)) →
    u.lookup 0 e = none →
    u.lookup 1 iid = none →
    Machine.exec (.crCmd t w k) s₀ = .next (s₀.after t (acts [wr (R.CR_CMD k) 0, acts [setNodes fun g => { g with creates := g.creates.set k ⟨e, iid, u.rd (R.CR_INDEX k), u.peers, u.now⟩ },
      if u.peers.isEmpty then createEntry k else forAll u.peers fun d => fabAsk d 0x10 (k % 16) [e, iid] k], answer w 0 []]))) ∧
  (∀ (k : Nat) c d y1,
    createOk k = true →
    s.blockUp 10 = true →
    aget s.eng.nodes.creates k = some c →
    c.waiting = d :: y1 →
    (decide (c.since + s.rd R.NT_REMOTE_WAIT * 1000 ≤ s.now)) = true →
    Machine.exec (.ntClaimTimeout t k) s₀ = .next (s₀.after t (retryCreate k d))) ∧
  (∀ (w : Who) (n : Nat) u e i,
    whoOk w = true →
    s.takes w (R.NT_CMD n) 1 = true →
    u = (wr (R.NT_CMD n) 0).run s →
    ¬(u.nodeState n = 0) →
    e = u.rd (R.NT_EUI64 n) →
    i = u.rd (R.NT_IID n) →
    Machine.exec (.ntCmdRemove t w n) s₀ = .next (s₀.after t (acts [wr (R.NT_CMD n) 0, acts [removeKey 0 e (none == some 0), removeKey 1 i (none == some 1), forget 0 e, forget 1 i, invalidate [(0, e), (1, i)], dropPending n, unwheel n, freeEntry n, note (.nodeGone n)], answer w 0 []]))) ∧
  (∀ (w : Who) (n : Nat) u,
    whoOk w = true →
    s.takes w (R.NT_CMD n) 2 = true →
    u = (wr (R.NT_CMD n) 0).run s →
    Machine.exec (.ntCmdClearCounts t w n) s₀ = .next (s₀.after t (acts [wr (R.NT_CMD n) 0, acts [wr (R.NT_COUNTS n) 0, wr (R.NT_METRICS n) (8 * 2 ^ 32 + fld (u.rd (R.NT_METRICS n)) 27 16 * 2 ^ 16)], answer w 0 []]))) ∧
  (∀ (k : Nat),
    pipeOk k = true →
    s.blockUp 10 = true →
    Machine.exec (.pipelineUplink t k) s₀ = .next (s₀.after t (onlyIf (s.pipeFree k) <|
  match s.eng.nodes.input.at k [] with
  | [] => .skip
  | m :: rest => acts [
      setNodes fun g => { g with input := if rest.isEmpty then g.input.clear k else g.input.set k rest },
      inc (R.PL_UP k),
      onlyIf (s.nodeState m.node != 0 && s.rd (R.NT_GEN m.node) == m.gen) (hearNode m.node m.rssi m.lqi),
      match lowpanRead ⟨s.contexts, m.srcIid, m.dstIid⟩ m.payload with
      | .unsupported => inc (R.PL_UNSUPPORTED k)
      | .packet o => uplinkPacket k m o
      | .frag tag size off data => addFragment k m tag size off data]))) ∧
  (∀ (k : Nat),
    pipeOk k = true →
    s.blockUp 10 = true →
    Machine.exec (.pipelineDownlink t k) s₀ = .next (s₀.after t (onlyIf (s.pipeFree k) <|
  match s.eng.nodes.down.at k [] with
  | [] => .skip
  | x :: rest => acts [
      setNodes fun g => { g with down := if rest.isEmpty then g.down.clear k else g.down.set k rest },
      match x.peer with
      | some (n, gen) => fromPeer k x.fc n gen x.pkt
      | none => downlink k x.fc x.pkt]))) ∧
  (∀ (f : Nat) (mf : Option MacFrame),
    fifoOk f = true →
    s.blockUp 10 = true →
    Machine.exec (.pipelineHostPacket t f mf) s₀ = .next (s₀.after t (onlyIf (s.pipeFree (f % 4)) <|
  match (s.fromHost f).pkts with
  | [] => .skip
  | (n, items) :: _ =>
    let k := f % 4
    let w1 := items.getD 0 0
    let w2 := items.getD 1 0
    let o := hostOctets n items
    let ts := if bit? w1 59 then some (fld w2 63 48) else none
    let q := fld w1 57 46
    let node := fld w1 30 8
    acts [fromTaken f,
      match fld w1 63 60 with
      | 0 => allocPkt { blankPkt with octets := o, tsId := ts } (fun i => .read fun s =>
          if ipVer o = 6 ∧ s.inPrefix (ipDst o) then downlink k (s.flowClass 0 o) i
          else toQueue (s.rd (R.FC_QUEUE (s.flowClass 0 o))) 1 [i]) .skip
      | 1 => allocPkt { blankPkt with form := .eth, octets := o, tsId := ts } (fun i => toQueue q 1 [i]) .skip
      | 2 => match mf with
        | none => inc (R.PL_UNSUPPORTED k)
        | some g => allocPkt { blankPkt with
            form := .mesh, octets := o, tsId := ts, node := node, gen := fld w2 47 40
            mac := some (if bit? w1 58 then { g with src := .ext uidOf, fc := some 0 } else { g with level := 0 })
            group := if node = 0 then none else some (s.nodeGroup node)
            port := fld w1 45 41
            chan := if fld w1 40 31 = 1023 then none else some (fld w1 40 31) } (fun i => toQueue q 2 [i]) .skip
      | _ => inc (R.PL_UNSUPPORTED k)]))) ∧
  (∀ (k : Nat) old,
    pipeOk k = true →
    s.blockUp 10 = true →
    (old = (s.eng.nodes.reasms.filter fun r => r.pipe == k && decide (r.since + s.rd R.FW_REASM_MS * 1000000 ≤ s.now))) →
    Machine.exec (.reasmTimeout t k) s₀ = .next (s₀.after t (forAll old fun r => acts [setReasms fun l => l.erase r, freePkt r.pkt, inc (R.PL_REASM_TIMEOUT k), raiseMs 0 0x0A06 r.first.node (r.first.node * 256)]))) ∧
  (∀ (k : Nat) r,
    pipeOk k = true →
    s.blockUp 10 = true →
    ((s.eng.nodes.remotes.find? fun r => r.pipe == k && decide (r.since + s.rd R.NT_REMOTE_WAIT * 1000 ≤ s.now)) = some r) →
    Machine.exec (.ntRemoteTimeout t k) s₀ = .next (s₀.after t (acts [dropRemote r.id, inc (R.PL_REMOTE_TIMEOUT k), raise 0x0A05 k k, noNode k r.pkt]))) ∧
  (∀ (m : Nat) (win : Nat) (mem : Nat) (v : Word) (c : Ref),
    (masterOk m && decide (win < 32) && decide (mem < 256)) = true →
    s.keeps (.ap m) ⟨0x3009, win, mem⟩ c 0 v = true →
    Machine.exec (.nodeWindowAccess t m win mem true v) s₀ = .next (s₀.after t (acts [storeNow c 0 v, answer (.ap m) 0 []]))) ∧
  (∀ (m : Nat) (win : Nat) (mem : Nat) (v : Word) (c : Ref),
    (masterOk m && decide (win < 32) && decide (mem < 256)) = true →
    s.starts (.ap m) ⟨0x3009, win, mem⟩ c v = true →
    Machine.exec (.nodeWindowAccess t m win mem true v) s₀ = .next (s₀.after t (acts [wr c 0, command (.ap m) none c v.toNat, answer (.ap m) 0 []]))) ∧
  (∀ (m : Nat) (win : Nat) (mem : Nat) (v : Word) q,
    (masterOk m && decide (win < 32) && decide (mem < 256)) = true →
    s.reads m ⟨0x3009, win, mem⟩ = some q →
    Machine.exec (.nodeWindowAccess t m win mem false v) s₀ = .next (s₀.after t (readMember (.ap m) q fun v => answer (.ap m) 0 [v]))) ∧
  (∀ (upTo : Nat) w' next done_,
    (decide (upTo < 2 ^ 23)) = true →
    s.blockUp 10 = true →
    w' = s.rd R.LEAP_STATE →
    next = fld w' 22 0 →
    ¬(¬ bit? w' 63) →
    (done_ = ((s.objs.filter fun e => e.1.idx == 0x3100 && e.1.mem == 0 && decide (next ≤ e.1.inst ∧ e.1.inst ≤ upTo)).map
      fun e => e.1.inst)) →
    Machine.exec (.leapSweep t upTo) s₀ = .next (s₀.after t (acts [forAll done_ leapNode, wr R.LEAP_STATE (if 8388607 ≤ upTo then 0 else 2 ^ 63 + max next (upTo + 1))])))

/-- Where the commands of queues, shapers and gates complete, and with what effect. From every state in which all that is due by the instant `t`
has come, with operands that meet the conditions of its clause, each command answers the next state that its own effect leaves; the
clause gives the whole next state, and with it all that stays. -/
def Obligations.QueuesComplete : Prop :=
  ∀ (s₀ s : State) (t : Nat), s = s₀.ready t →
  (∀ touched,
    s.blockUp 11 = true →
    (touched = ((s.objs.filter fun e => e.1.idx == 0x3430).map fun e => e.1.inst)) →
    (decide (s.eng.q.shEdge < s.refillEdge)) = true →
    Machine.exec (.shaperRefill t) s₀ = .next (s₀.after t (acts [setQ fun g => { g with shEdge := s.refillEdge },
    forAll (touched ++ s.eng.q.shapers.map (·.1)).eraseDups (refillShaper (s.refillEdge - s.eng.q.shEdge))]))) ∧
  (∀ touched,
    s.blockUp 11 = true →
    (touched = ((s.objs.filter fun e => e.1.idx == 0x3440).map fun e => e.1.inst)) →
    (decide (s.eng.q.mtEdge < s.refillEdge)) = true →
    Machine.exec (.meterRefill t) s₀ = .next (s₀.after t (acts [setQ fun g => { g with mtEdge := s.refillEdge },
    forAll (touched ++ s.eng.q.meters.map (·.1)).eraseDups (refillMeter (s.refillEdge - s.eng.q.mtEdge))]))) ∧
  (∀ (e : Nat),
    ethOk e = true →
    s.blockUp 11 = true →
    Machine.exec (.ethRelease t e) s₀ = .next (s₀.after t (.seq refillsDue <| .read fun s =>
  if s.rd (R.ETH_LINK e) = 0 ∨ s.now < s.eng.time.paused.at e 0 ∨ ¬ s.backhaulOn e then .skip
  else
    let c := s.ethChoice e [7, 6, 5, 4, 3, 2, 1, 0] []
    acts [forAll c.2 countDeferral,
      match c.1 with
      | none => .skip
      | some (tc, q, d) =>
        match s.queue q with
        | [] => .skip
        | i :: rest => acts [
            setQ fun g => { g with drr := g.drr.set (8 * e + tc) (q, if rest.isEmpty then d.clear q else d) },
            popHead q (s.headLen e q), sendEth e i]]))) ∧
  (∀ (q : Nat),
    queueOk q = true →
    s.blockUp 11 = true →
    Machine.exec (.meshRelease t q) s₀ = .next (s₀.after t (.seq refillsDue <| .read fun s =>
  match s.queue q with
  | [] => .skip
  | i :: _ => match s.pkt? i with
    | none => .skip
    | some p => onlyIf (s.qKind q == 2 && s.shaperOk q) (acts [popHead q (s.meshLen p),
        onlyIf p.camp.isSome (note (.campLeft i)),
        if p.node ≠ 0 then
          if s.snService p.node ≠ 0 then enterPending p.node i (frameEntered p.node) else offerUnicast p.node i
        else offerBroadcast p.port i])))) ∧
  (∀ (q : Nat),
    queueOk q = true →
    s.blockUp 11 = true →
    Machine.exec (.hostRelease t q) s₀ = .next (s₀.after t (.seq refillsDue <| .read fun s =>
  let f := s.qTarget q
  match s.queue q with
  | [] => .skip
  | i :: _ => onlyIf (s.qKind q == 3 && s.shaperOk q && s.fifoRoom f i)
      (acts [popHead q (((s.pkt? i).map fun p => p.octets.length).getD 0), toFifo f i])))) ∧
  (∀ (q : Nat),
    queueOk q = true →
    s.blockUp 11 = true →
    Machine.exec (.fabricRelease t q) s₀ = .next (s₀.after t (.seq refillsDue <| .read fun s =>
  let l := s.qTarget q
  match s.queue q with
  | [] => .skip
  | i :: _ => match s.pkt? i with
    | none => .skip
    | some p =>
      let dev := p.srcNode
      let fp : FabPkt := ⟨0x20, dev, s.rd R.DEVNUM, s.rd (R.FB_PEER l) != dev, 0, p.gen * 2 ^ 23 + p.node, frameWords p⟩
      onlyIf (s.qKind q == 4 && s.shaperOk q && s.linkUp l && hasCredit (s.flink l) fp) (acts [popHead q p.octets.length,
        enqueueFab l ⟨fp, s.now, none⟩, freePkt i])))) ∧
  (∀ (e : Nat) r,
    portEthOk e = true →
    s.blockUp 11 = true →
    r = s.glAt (s.bankAt e s.devTime) e s.devTime →
    Machine.exec (.gateEntryChange t e) s₀ = .next (s₀.after t (acts [wr (R.GT_OPEN e) r.2.1, wr (R.GT_ENTRY e) r.1]))) ∧
  (∀ (e : Nat) b n,
    portEthOk e = true →
    s.blockUp 11 = true →
    (s.gate e).pending = some (b, n) →
    ¬(s.devTime < n) →
    Machine.exec (.gateBankSwitch t e) s₀ = .next (s₀.after t (acts [setQ fun g => { g with gates := g.gates.set e ⟨b, none⟩ }, wr (R.GT_STATE e) 0,
      raise 0x0B05 e (e + b * 256), showGate e]))) ∧
  (∀ (k : Nat) p,
    s.blockUp 11 = true →
    s.pkt? k = some p →
    (p.released && p.form != .mesh) = true →
    Machine.exec (.cellsFreed t k) s₀ = .next (s₀.after t (freePkt k)))

/-- Where the commands of keys complete, and with what effect. From every state in which all that is due by the instant `t`
has come, with operands that meet the conditions of its clause, each command answers the next state that its own effect leaves; the
clause gives the whole next state, and with it all that stays. -/
def Obligations.KeysComplete : Prop :=
  ∀ (s₀ s : State) (t : Nat), s = s₀.ready t →
  (∀ (w : Who) (n : Word) u off data,
    whoOk w = true →
    s.takes w R.KI_WRITE n = true →
    u = (wr R.KI_WRITE 0).run s →
    off = u.rd R.KI_OFFSET →
    (data = (wordsToOctets ((List.range (n.toNat / 8)).map fun k => u.word (R.KI_DATA k)))) →
    Machine.exec (.kiWrite t w n) s₀ = .next (s₀.after t (acts [wr R.KI_WRITE 0, (acts [setKeys fun e =>
      let b := e.buffer ++ List.replicate (off + n.toNat - e.buffer.length) 0
      { e with buffer := b.take off ++ data ++ b.drop (off + n.toNat) },
    wr R.KI_OFFSET (off + n.toNat)]), answer w 0 []]))) ∧
  (∀ (w : Who) u (c : KeyCmd),
    whoOk w = true →
    s.takes w R.KI_CMD 1 = true →
    u = (wr R.KI_CMD 0).run s →
    c = (⟨1, u.rd R.KI_TARGET, u.rd R.KI_ATTR, u.rd R.KI_USES, u.rd R.KI_SOURCE, u.rd R.KI_KCV,
    u.importOctets (u.rd R.KI_LEN)⟩) →
    ¬(u.eng.keys.cmd.isSome) →
    ¬(u.keyFault c ≠ 0) →
    (u.jobs 5).length < 4096 →
    Machine.exec (.kiCmdImport t w) s₀ = .next (s₀.after t (acts [wr R.KI_CMD 0, acts [setJobs 5 (u.jobs 5 ++ [.key]), acts [setKeys fun e => { e with cmd := some c }, wr R.KI_STATUS 1, clearBuffer]], answer w 0 []]))) ∧
  (∀ (w : Who) u (c : KeyCmd),
    whoOk w = true →
    s.takes w R.KI_CMD 2 = true →
    u = (wr R.KI_CMD 0).run s →
    c = (⟨2, u.rd R.KI_TARGET, u.rd R.KI_ATTR, u.rd R.KI_USES, u.rd R.KI_SOURCE, u.rd R.KI_KCV,
    u.importOctets (u.rd R.KI_LEN)⟩) →
    ¬(u.eng.keys.cmd.isSome) →
    ¬(u.keyFault c ≠ 0) →
    (u.jobs 5).length < 4096 →
    Machine.exec (.kiCmdGenerate t w) s₀ = .next (s₀.after t (acts [wr R.KI_CMD 0, acts [setJobs 5 (u.jobs 5 ++ [.key]), acts [setKeys fun e => { e with cmd := some c }, wr R.KI_STATUS 1, clearBuffer]], answer w 0 []]))) ∧
  (∀ (w : Who) u (c : KeyCmd),
    whoOk w = true →
    s.takes w R.KI_CMD 3 = true →
    u = (wr R.KI_CMD 0).run s →
    c = (⟨3, u.rd R.KI_TARGET, u.rd R.KI_ATTR, u.rd R.KI_USES, u.rd R.KI_SOURCE, u.rd R.KI_KCV,
    u.importOctets (u.rd R.KI_LEN)⟩) →
    ¬(u.eng.keys.cmd.isSome) →
    ¬(u.keyFault c ≠ 0) →
    (u.jobs 5).length < 4096 →
    Machine.exec (.kiCmdDerive t w) s₀ = .next (s₀.after t (acts [wr R.KI_CMD 0, acts [setJobs 5 (u.jobs 5 ++ [.key]), acts [setKeys fun e => { e with cmd := some c }, wr R.KI_STATUS 1, clearBuffer]], answer w 0 []]))) ∧
  (∀ (j : Nat) (turn : Nat × Nat) c,
    s.nextJob = some (j, .key, turn) →
    s.eng.keys.cmd = some c →
    Machine.exec (.keyCommandDone t) s₀ = .next (s₀.after t (acts [setKeys fun e => { e with turn := turn }, acts [
      setKeys fun e => { e with cmd := none }, endJob 5 .key,
      if c.kind = 2 then takeRandom fun o => enterKey c ((o ++ List.replicate 64 0).take (kLen (kType c.attr)))
      else if c.kind = 3 then
        if c.source = 0xFFFF then enterKey c (deriveValue s.eng.keys.rootKey c.data c.target c.attr)
        else withKey c.source opDerive (fun k => enterKey c (deriveValue k c.data c.target c.attr)) (keyEnds c.target 3)
      else if c.source = 0xFFFE then enterKey c (Config.shake256 c.data)
      else .read fun s =>
        let op := if s.keyServes c.source opDecaps then opDecaps else opUnwrap
        withKey c.source op (fun k =>
          match (if op = opDecaps then unwrapKem k c else unwrapWith k c) with
          | some v => enterKey c v
          | none => keyEnds c.target 4) (keyEnds c.target 3)]]))) ∧
  (∀ (w : Who) (k : Nat),
    whoOk w = true →
    s.takes w (R.K_ZEROIZE k) 1 = true →
    Machine.exec (.kZeroize t w k) s₀ = .next (s₀.after t (acts [wr (R.K_ZEROIZE k) 0, acts [
  setKeys fun e => { e with slots := e.slots.clear k },
  forAll [R.K_ATTR k, R.K_STATE k, R.K_USES k, R.K_KCV k, R.K_STAGED_KCV k, R.K_ROLL k, R.K_FC k] fun r => wr r 0,
  note (.keyChanged k)], answer w 0 []]))) ∧
  (∀ (k : Nat),
    keyOk k = true →
    s.rd R.TS_RUN = 1 →
    s.rd (R.K_STATE k) = 4 →
    (s.kslot k).promAsn / s.rd R.TS_REF_LEN < s.asnNow / s.rd R.TS_REF_LEN →
    Machine.exec (.keyPromote t k) s₀ = .next (s₀.after t (promoteKey k))) ∧
  (∀ (w : Who) u b,
    whoOk w = true →
    s.takes w R.LC_REQUEST 1 = true →
    u = (wr R.LC_REQUEST 0).run s →
    b = u.rd R.LC_TARGET →
    Machine.exec (.lcRequest t w) s₀ = .next (s₀.after t (acts [wr R.LC_REQUEST 0, (if u.eng.keys.cmd.isSome ∨ ((u.jobs 5).any fun j => j != .key) then acts [wr R.LC_REQUEST 1, newNonce] else .seq (wr R.LC_REQUEST 1) (askJob 5 (.life b) (lcRuns b) newNonce)), answer w 0 []]))) ∧
  (Machine.exec (.cryptoOpDone t) s₀ = .next (s₀.after t (serveJob fun c j => match j with
  | .key => keyDone
  | .join id => verifyDone id
  | .attest => reportReady
  | .image k => imageSealDone k
  | .update => endJob c j
  | .life b => .seq (endJob c j) (lcRuns b)
  | .ddpIn k m => .seq (endJob c j) (openIn k m)
  | .ddpOut k ws => .seq (endJob c j) (emit (.ddp k ws))
  | .accept id n fresh => .seq (endJob c j) (acceptJoin id n fresh)
  | .resume eui seg path b => .seq (endJob c j) (judgeResume eui seg path b)
  | .resumed eui seg b rs path n => .seq (endJob c j) (acceptResume eui seg b rs path n))))

/-- Where the commands of joins and attestation complete, and with what effect. From every state in which all that is due by the instant `t`
has come, with operands that meet the conditions of its clause, each command answers the next state that its own effect leaves; the
clause gives the whole next state, and with it all that stays. -/
def Obligations.JoinsComplete : Prop :=
  ∀ (s₀ s : State) (t : Nat), s = s₀.ready t →
  (∀ i p,
    s.joinHead = some (i, p) →
    Machine.exec (.joinSegment t) s₀ = .next (s₀.after t (match p.mac.map (·.src) with
    | some (Addr.ext e) => acts [takeJoin i, joinTimes, joinSegment e ⟨none, p.port, p.chan.getD 0, p.mode⟩ (udpBody p.octets)]
    | some _ => takeJoin i
    | none => .skip))) ∧
  (∀ old,
    (old = (s.eng.join.asms.filter fun a => decide (a.since + s.rd R.J_STEP_WAIT * 1000000 ≤ s.now))) →
    Machine.exec (.joinReasmTimeout t) s₀ = .next (s₀.after t (forAll old fun a => acts [setAsms fun l => l.erase a, inc R.J_SEG_DROP]))) ∧
  (∀ (id : Nat) (j : Nat) (turn : Nat × Nat) u x,
    s.nextJob = some (j, .join id, turn) →
    (u = (setKeys fun e => { e with turn := turn }).run s) →
    u.joinSess id = some x →
    x.state = 2 →
    (u.jobs 3).contains (.join id) = true →
    Machine.exec (.joinVerifyDone t id) s₀ = .next (s₀.after t (acts [setKeys fun e => { e with turn := turn }, acts [endJob 3 (.join id),
        if u.credFault x ≠ 0 then failSession x (u.credFault x) 0
        else match u.issuerOf (le (((credOf x).drop 12).take 8)) with
          | none => failSession x rjUnknownIssuer 0
          | some i =>
            withKey (u.rd (R.IS_SLOT i)) opVerify (fun d =>
              let pk := u.eng.join.issuers.at i []
              if Config.shake256 pk ≠ d ∨ ¬ Config.mldsaVerify pk ((credOf x).take 1988) ((credOf x).drop 1988) "FOLORI CRED2" then
                failSession x rjCredential 0
              else .seq (quickJob 3) <| if !(Config.mldsaVerify (((credOf x).drop 36).take 1952) (transcript x) (x.req.drop 6385) "FOLORI JOIN2") then
                failSession x rjPossession 0
              else want (.full id)) (failSession x rjCredential 0)]]))) ∧
  (∀ i p,
    s.joinHead = some (i, p) →
    ¬(p.mac.isSome) →
    Machine.exec (.joinRelay t) s₀ = .next (s₀.after t (acts [takeJoin i, joinTimes, onlyIf (s.joined p.srcNode) (joinRelay p.srcNode (udpBody p.octets))]))) ∧
  (∀ (id : Nat) x,
    s.joinSess id = some x →
    (x.state == 1 && decide (x.since + s.rd R.J_STEP_WAIT * 1000000 ≤ s.now)) = true →
    Machine.exec (.joinStepTimeout t id) s₀ = .next (s₀.after t (acts [dropJoin id, inc R.J_TIMEOUTS]))) ∧
  (∀ (id : Nat) x,
    s.joinSess id = some x →
    (x.state == 3 && decide (x.since + s.rd R.J_LINGER * 1000000 ≤ s.now)) = true →
    Machine.exec (.joinLingerExpiry t id) s₀ = .next (s₀.after t (dropJoin id))) ∧
  (∀ (w : Who) (n : Word) u off,
    whoOk w = true →
    s.takes w R.J_EN_WRITE n = true →
    u = (wr R.J_EN_WRITE 0).run s →
    off = u.rd R.J_EN_OFFSET →
    Machine.exec (.jEnWrite t w n) s₀ = .next (s₀.after t (acts [wr R.J_EN_WRITE 0, acts [setJoin fun g => { g with statement := patch g.statement off (u.dataOctets R.J_EN_DATA n.toNat) },
    wr R.J_EN_OFFSET ((off + n.toNat) % 65536), wr R.J_EN_STATE 0], answer w 0 []]))) ∧
  (∀ (w : Who) u st k owner ok signed,
    whoOk w = true →
    s.takes w R.J_EN_SEAL 6461 = true →
    u = (wr R.J_EN_SEAL 0).run s →
    st = (u.eng.join.statement ++ List.replicate 6461 0).take 6461 →
    k = u.rd R.J_KEM_SLOT →
    owner = (st.drop 1200).take 1952 →
    ok = (le ((st.drop 8).take 8) == u.rd R.J_NETWORK_ID &&
    u.keyHeld k && kType (u.rd (R.K_ATTR k)) == 9 && (st.drop 16).take 1184 == Config.publicOf (u.kslot k).val &&
    Config.shake256 owner == (u.kslot 4).val && u.keyServes 4 opVerify) →
    signed = Config.mldsaVerify owner (st.take 3152) (st.drop 3152) "FOLORI ROOT2" →
    Machine.exec (.jEnSeal t w) s₀ = .next (s₀.after t (acts [wr R.J_EN_SEAL 0, acts [setJoin fun g => { g with statement := st },
    onlyIf ok (keyStarts 4),
    wr R.J_EN_STATE (if ok && signed then 1 else 2), wr R.J_RS_DIGEST (le ((Config.shake256 st).take 8))], answer w 0 []]))) ∧
  (∀ (w : Who) (k : Nat) (n : Word) u off,
    whoOk w = true →
    s.takes w (R.IS_WRITE k) n = true →
    u = (wr (R.IS_WRITE k) 0).run s →
    off = u.rd (R.IS_OFFSET k) →
    Machine.exec (.isWrite t w k n) s₀ = .next (s₀.after t (acts [wr (R.IS_WRITE k) 0, acts [setJoin fun g => { g with
      issuers := g.issuers.set k (patch (g.issuers.at k []) off (u.dataOctets (R.IS_DATA k) n.toNat)) },
    wr (R.IS_OFFSET k) ((off + n.toNat) % 65536), wr (R.IS_STATE k) 0], answer w 0 []]))) ∧
  (∀ (w : Who) (k : Nat) u pk d k' ok,
    whoOk w = true →
    s.takes w (R.IS_SEAL k) 1952 = true →
    u = (wr (R.IS_SEAL k) 0).run s →
    pk = ((u.eng.join.issuers.at k []) ++ List.replicate 1952 0).take 1952 →
    d = Config.shake256 pk →
    k' = u.rd (R.IS_SLOT k) →
    ok = (u.keyHeld k' && kType (u.rd (R.K_ATTR k')) == 8 && (u.kslot k').val == d) →
    Machine.exec (.isSeal t w k) s₀ = .next (s₀.after t (acts [wr (R.IS_SEAL k) 0, acts [setJoin fun g => { g with issuers := g.issuers.set k pk },
    wr (R.IS_STATE k) (if ok then 1 else 2), onlyIf ok (wr (R.IS_ID k) (le (d.take 8)))], answer w 0 []]))) ∧
  (∀ (w : Who) u,
    whoOk w = true →
    s.takes w R.AT_CMD 1 = true →
    u = (wr R.AT_CMD 0).run s →
    ¬(u.rd R.UP_STATE = 6) →
    (u.jobs 4).length < 4096 →
    Machine.exec (.atCmd t w) s₀ = .next (s₀.after t (acts [wr R.AT_CMD 0, acts [setJobs 4 (u.jobs 4 ++ [.attest]), acts [wr R.AT_STATUS 1, setJoin fun g => { g with report := u.report }]], answer w 0 []]))) ∧
  (∀ (j : Nat) (turn : Nat × Nat) u,
    s.nextJob = some (j, .attest, turn) →
    (u = (setKeys fun e => { e with turn := turn }).run s) →
    (u.jobs 4).contains .attest = true →
    Machine.exec (.atReportReady t) s₀ = .next (s₀.after t (acts [setKeys fun e => { e with turn := turn }, acts [endJob 4 .attest,
  withKey 1 opSign (fun k => acts [
      setJoin fun g => { g with report := g.report.take 312 ++ Config.mldsaSign k (g.report.take 312) "FOLORI ATTEST" },
      wr R.AT_STATUS 2, raise 0x0D06 0 0]) (wr R.AT_STATUS 0)]])))

/-- Where the commands of node images and campaigns complete, and with what effect. From every state in which all that is due by the instant `t`
has come, with operands that meet the conditions of its clause, each command answers the next state that its own effect leaves; the
clause gives the whole next state, and with it all that stays. -/
def Obligations.CampaignsComplete : Prop :=
  ∀ (s₀ s : State) (t : Nat), s = s₀.ready t →
  (∀ (w : Who) (k : Nat) (n : Word) u off o,
    whoOk w = true →
    s.takes w (R.IM_WRITE k) n = true →
    u = (wr (R.IM_WRITE k) 0).run s →
    off = u.rd (R.IM_OFFSET k) →
    o = patch (u.image k) off (u.dataOctets (R.IM_DATA k) n.toNat) →
    Machine.exec (.imWrite t w k n) s₀ = .next (s₀.after t (acts [wr (R.IM_WRITE k) 0, acts [setCamp fun g => { g with images := g.images.set k o },
    wr (R.IM_OFFSET k) (off + n.toNat), wr (R.IM_STATE k) 1, wr (R.IM_LENGTH k) o.length], answer w 0 []]))) ∧
  (∀ (w : Who) (k : Nat) u,
    whoOk w = true →
    s.takes w (R.IM_SEAL k) 1 = true →
    u = (wr (R.IM_SEAL k) 0).run s →
    (u.jobs 4).length < 4096 →
    Machine.exec (.imSeal t w k) s₀ = .next (s₀.after t (acts [wr (R.IM_SEAL k) 0, acts [setJobs 4 (u.jobs 4 ++ [(.image k)]), setCamp fun g => { g with sealKeys := g.sealKeys.set k (u.importOctets 1952) }], answer w 0 []]))) ∧
  (∀ (k : Nat) (j : Nat) (turn : Nat × Nat) u o pk,
    imageOk k = true →
    s.nextJob = some (j, .image k, turn) →
    (u = (setKeys fun e => { e with turn := turn }).run s) →
    (u.jobs 4).contains (.image k) = true →
    o = u.image k →
    pk = u.eng.camp.sealKeys.at k [] →
    Machine.exec (.imSealDone t k) s₀ = .next (s₀.after t (acts [setKeys fun e => { e with turn := turn }, acts [endJob 4 (.image k), setCamp fun g => { g with sealKeys := g.sealKeys.clear k },
      withKey (u.rd (R.IM_SLOT k)) opVerify (fun d =>
        acts [wr (R.IM_STATE k) (if imageSound o && Config.shake256 pk == d &&
          Config.mldsaVerify pk (o.take 64) ((o.drop 64).take 3309) "FOLORI IMAGE" then 2 else 3), wr (R.IM_VERSION k) (imgVersion o), wr (R.IM_TARGET k) (imgTarget o)])
        (acts [wr (R.IM_STATE k) 3, wr (R.IM_VERSION k) (imgVersion o), wr (R.IM_TARGET k) (imgTarget o)])]]))) ∧
  (∀ (w : Who) (k : Nat),
    whoOk w = true →
    s.takes w (R.IM_ERASE k) 1 = true →
    Machine.exec (.imErase t w k) s₀ = .next (s₀.after t (acts [wr (R.IM_ERASE k) 0, acts [setCamp fun g => { g with images := g.images.clear k },
  forAll [R.IM_STATE k, R.IM_LENGTH k, R.IM_VERSION k, R.IM_TARGET k, R.IM_OFFSET k] fun r => wr r 0], answer w 0 []]))) ∧
  (∀ (w : Who) (c : Nat) u id ports,
    whoOk w = true →
    s.takes w (R.CA_CMD c) 1 = true →
    u = (wr (R.CA_CMD c) 0).run s →
    ¬(u.rd (R.CA_STATE c) ≠ 0) →
    ¬(u.rd (R.IM_STATE (u.rd (R.CA_IMAGE c))) ≠ 2) →
    ¬(u.campOverlap c) →
    ¬(!(u.campAhead c)) →
    id = u.eng.camp.lastId % 65535 + 1 →
    ports = onesOf 24 (u.rd (R.CA_PORTS c)) →
    Machine.exec (.caCmdStart t w c) s₀ = .next (s₀.after t (acts [wr (R.CA_CMD c) 0, acts [campLast c 0, setCamp fun g => { g with lastId := id }, wr (R.CA_ID c) id, addUsers (u.rd (R.CA_IMAGE c)) true,
      putCamp c ⟨0, [], ports.map fun p => (p, ⟨0, 0, none, none, false⟩)⟩, fixTargets c,
      wr (R.CA_STATE c) 1, raise 0x0E01 c (c + id * 256),
      .read fun s => forAll ports fun p => campBroadcast c p (s.announce c) fun _ => .skip], answer w 0 []]))) ∧
  (∀ (w : Who) (c : Nat) u st,
    whoOk w = true →
    s.takes w (R.CA_CMD c) 2 = true →
    u = (wr (R.CA_CMD c) 0).run s →
    st = u.rd (R.CA_STATE c) →
    (st = 2 ∨ st = 3) →
    Machine.exec (.caCmdPause t w c) s₀ = .next (s₀.after t (acts [wr (R.CA_CMD c) 0, acts [campLast c 0, putCamp c { u.camp c with phase := st }, wr (R.CA_STATE c) 4], answer w 0 []]))) ∧
  (∀ (w : Who) (c : Nat) u,
    whoOk w = true →
    s.takes w (R.CA_CMD c) 3 = true →
    u = (wr (R.CA_CMD c) 0).run s →
    u.rd (R.CA_STATE c) = 4 →
    Machine.exec (.caCmdResume t w c) s₀ = .next (s₀.after t (acts [wr (R.CA_CMD c) 0, acts [campLast c 0, wr (R.CA_STATE c) (u.camp c).phase, campFill c, fill c], answer w 0 []]))) ∧
  (∀ (w : Who) (c : Nat) u,
    whoOk w = true →
    s.takes w (R.CA_CMD c) 4 = true →
    u = (wr (R.CA_CMD c) 0).run s →
    ¬(u.rd (R.CA_STATE c) = 0) →
    Machine.exec (.caCmdAbort t w c) s₀ = .next (s₀.after t (acts [wr (R.CA_CMD c) 0, acts [campLast c 0, dropCampFrames c, wr (R.CA_STATE c) 6, raise 0x0E06 c c], answer w 0 []]))) ∧
  (∀ (w : Who) (c : Nat) u,
    whoOk w = true →
    s.takes w (R.CA_CMD c) 5 = true →
    u = (wr (R.CA_CMD c) 0).run s →
    (u.rd (R.CA_STATE c) = 5 ∨ u.rd (R.CA_STATE c) = 6) →
    Machine.exec (.caCmdRelease t w c) s₀ = .next (s₀.after t (acts [wr (R.CA_CMD c) 0, acts [campLast c 0, addUsers (u.rd (R.CA_IMAGE c)) false, forAll (u.camp c).nodes fun e => wr (R.CN_STATE e.1 c) 0,
      setCamp fun g => { g with camps := g.camps.clear c }, showNodes c, wr (R.CA_STATE c) 0], answer w 0 []]))) ∧
  (∀ (c : Nat),
    campOk c = true →
    (s.rd (R.CA_STATE c) == 1 && s.rd R.TS_RUN == 1 && decide (s.rd (R.CA_START_ASN c) % 2 ^ 40 ≤ s.asnNow)) = true →
    Machine.exec (.caMulticastStart t c) s₀ = .next (s₀.after t (acts [wr (R.CA_STATE c) 2, campFill c]))) ∧
  (∀ (c : Nat) (p : Nat) x o rep due,
    (campOk c && portOk p) = true →
    aget (s.camp c).ports p = some x →
    o = s.campImage c →
    rep = s.rd (R.CA_REPAIR c) →
    (due = (match x.last with
      | some t => t + s.rd (R.CA_GAP c) * 1000 * uUs
      | none => 0)) →
    ¬(s.rd (R.CA_STATE c) ≠ 2 ∨ x.frame.isSome ∨ blockTotal o rep ≤ x.next ∨ s.devTime < due) →
    Machine.exec (.caBlockSend t c p) s₀ = .next (s₀.after t (acts [campBroadcast c p (s.blockMsg c (blockIndex o rep x.next)) fun i => .read fun s =>
          putCamp c { s.camp c with
            ports := (s.camp c).ports.set p ⟨x.next + 1, if (x.since + 1 = 64) then 0 else x.since + 1, x.last, some i, false⟩ },
        .read fun s => onlyIf ((x.since + 1 = 64) && ((s.camp c).ports.at p x).next != x.next)
          (campBroadcast c p (s.announce c) fun _ => .skip)]))) ∧
  (∀ (n : Nat) (msg : List Nat) c x,
    (nodeOk n && octets msg) = true →
    s.campById (le ((msg.drop 2).take 2)) = some c →
    ¬(!(statusOk (s.campImage c) (s.rd (R.CA_REPAIR c)) msg)) →
    aget (s.camp c).nodes n = some x →
    ¬(x.state < 1 ∨ 3 < x.state) →
    Machine.exec (.caStatus t n msg) s₀ = .next (s₀.after t (if (if s.rd (R.CA_STATE c) = 4 then (s.camp c).phase else s.rd (R.CA_STATE c)) = 3 then
          if x.state = cnTarget ∧ msg.getD 4 0 = 0 then acts [setTarget c n { x with status := some msg }, fill c]
          else acts [actOnStatus c n x msg, fill c]
        else if (if s.rd (R.CA_STATE c) = 4 then (s.camp c).phase else s.rd (R.CA_STATE c)) = 2 then setTarget c n { x with status := some msg }
        else .skip))) ∧
  (∀ (c : Nat) (n : Nat) x t',
    (campOk c && nodeOk n) = true →
    aget (s.camp c).nodes n = some x →
    x.left = some t' →
    ¬(s.rd (R.CA_STATE c) ≠ 3 ∨ ¬ (x.state = cnAsked ∨ x.state = cnFilling) ∨
          s.now < t' + s.rd (R.CA_STATUS_WAIT c) * 1000000000) →
    Machine.exec (.caStatusTimeout t c n) s₀ = .next (s₀.after t (if s.rd (R.CA_FILL_TRIES c) ≤ x.tries + 1 then
        acts [setTarget c n { x with state := cnUnreached, req := none, left := none },
          raiseMs 0 0x0E05 n (c + n * 256), fill c]
      else askStatus c n { x with tries := x.tries + 1 } x.state)))

/-- Where the commands of the Ethernet ports complete, and with what effect. From every state in which all that is due by the instant `t`
has come, with operands that meet the conditions of its clause, each command answers the next state that its own effect leaves; the
clause gives the whole next state, and with it all that stays. -/
def Obligations.EthernetComplete : Prop :=
  ∀ (s₀ s : State) (t : Nat), s = s₀.ready t →
  (∀ (e : Nat) (f : List Nat) (fcsOk : Bool) x,
    (ethOk e && octets f) = true →
    s.blockUp 12 = true →
    x = ethParse f →
    ¬(s.rd (R.ETH_LINK e) = 0) →
    Machine.exec (.ethRxFrame t e f fcsOk) s₀ = .next (s₀.after t (if !fcsOk then inc (R.RX_FCS_ERR e)
  else match pauseOf f with
    | some q => acts [inc (R.RX_PAUSE e), onlyIf (s.rd (R.ETH_PAUSE e) == 1)
        (setTime fun g => { g with paused := g.paused.set e (s.now + s.wireTime e (q * 64) / uNs) })]
    | none =>
      if ¬ s.backhaulOn e then inc (R.RX_FILTERED e) else
      match s.ethIf e x with
      | none => inc (R.RX_FILTERED e)
      | some i =>
        if s.rd (R.ETH_MTU e) + 22 < f.length + 4 ∨ x.stacked ∨ ¬ s.ethForUs e x.dst then inc (R.RX_FILTERED e)
        else acts [inc (R.ETH_RX_FRAMES e), count128 (R.RX_OCTETS e 0) (f.length + 4),
          match s.ethDest e i x with
          | .ptp m => let t := m.getD 0 0 % 16
              if t < 11 ∨ 13 < t then .skip
              else if m.getD 4 0 ≠ s.rd R.PTP_DOMAIN ∨ m.getD 0 0 / 16 * 256 + m.getD 5 0 ≠ s.rd R.PTP_SDOID then inc (R.PP_ERRORS e)
              else ingressHost (s.rd R.PTP_FIFO) 3 e f
          | .ddp => .skip
          | .ctrl => ingressHost (s.rd R.ETH_CTRL_FIFO) 2 e f
          | .pipe o =>
            let fc := s.flowClass e o
            allocPkt { blankPkt with octets := o, port := e, time := s.stampRx e }
              (fun k => meterPkt (s.rd (R.FC_METER fc)) (f.length + 4) 0 k (toPipe fc none o k)) .skip
          | .none => inc (R.RX_FILTERED e)]))) ∧
  (∀ (e : Nat) (speed : Nat),
    ethOk e = true →
    s.blockUp 12 = true →
    (s.rd (R.ETH_LINK e) == 0 && (modeSpeeds (s.rd (R.ETH_MODE e))).contains speed) = true →
    Machine.exec (.ethLinkUp t e speed) s₀ = .next (s₀.after t (acts [wr (R.ETH_LINK e) 1, wr (R.ETH_SPEED e) speed, raise 0x0F01 e (e + speed * 256)]))) ∧
  (∀ (e : Nat),
    ethOk e = true →
    (s.rd (R.ETH_LINK e) == 1) = true →
    Machine.exec (.ethLinkDown t e) s₀ = .next (s₀.after t (acts [
  match aget s.eng.time.wire e with
  | some (fin, ts) => onlyIf (decide (s.now < fin)) (setTq e (markLost ts (s.tq e)))
  | none => .skip,
  wr (R.ETH_LINK e) 0, wr (R.ETH_SPEED e) 0, raise 0x0F02 e e]))) ∧
  (∀ (w : Who) (v : Word),
    (whoOk w && !(mdioWrites v)) = true →
    s.takes w R.MD_CMD v = true →
    Machine.exec (.mdioRead t w v) s₀ = .next (s₀.after t (acts [wr R.MD_CMD 0, acts [eng fun e => { e with rst := { e.rst with mdTaken := true } }, setTime fun g => { g with mdio := some v.toNat }, wr R.MD_RESULT 0], answer w 0 []]))) ∧
  (∀ (w : Who) (v : Word),
    (whoOk w && mdioWrites v) = true →
    s.takes w R.MD_CMD v = true →
    Machine.exec (.mdioWrite t w v) s₀ = .next (s₀.after t (acts [wr R.MD_CMD 0, acts [eng fun e => { e with rst := { e.rst with mdTaken := true } }, setTime fun g => { g with mdio := some v.toNat }, wr R.MD_RESULT 0], answer w 0 []]))) ∧
  (∀ (ans : Option Nat) w',
    s.eng.time.mdio = some w' →
    Machine.exec (.mdioDone t ans) s₀ = .next (s₀.after t (acts [setTime fun g => { g with mdio := none },
      wr R.MD_RESULT (2 ^ 63 + match ans with
        | some d => if bit? w' 62 then 0 else d % 65536
        | none => 2 ^ 62)])))

/-- Where the commands of the time unit, PTP and the pulses complete, and with what effect. From every state in which all that is due by the instant `t`
has come, with operands that meet the conditions of its clause, each command answers the next state that its own effect leaves; the
clause gives the whole next state, and with it all that stays. -/
def Obligations.TimeComplete : Prop :=
  ∀ (s₀ s : State) (t : Nat), s = s₀.ready t →
  (∀ (w : Who) u,
    whoOk w = true →
    s.takes w R.TU_CMD 1 = true →
    u = (wr R.TU_CMD 0).run s →
    Machine.exec (.tuCmdStep t w) s₀ = .next (s₀.after t (acts [wr R.TU_CMD 0, (stepTo ((u.devTime : Int) + (u.rdi R.TU_STEP_NS) * uNs).toNat), answer w 0 []]))) ∧
  (∀ (w : Who) (u : Nat),
    whoOk w = true →
    s.takes w R.TU_CMD 2 = true →
    u = ((wr R.TU_CMD 0).run s).rdTime (R.TU_SET 0) →
    Machine.exec (.tuCmdSet t w) s₀ = .next (s₀.after t (acts [wr R.TU_CMD 0, .seq binsFirst (.read fun s => acts [
  setDevTime u, ppsStepped s, wr R.TU_STEP_SEQ ((s.rd R.TU_STEP_SEQ + 1) % 2 ^ 32),
  raise 0x0F04 0 (unsgn 64 (satS64 (((u : Int) - s.devTime) / uNs))),
  .read fun s' => onlyIf (s'.rd (R.BL_STATE 9) == 0 && s'.secondsDue != 0) (closeSeconds s'.secondsDue s.devTime),
  shiftAir s.devTime u, tsTimeStep s.devTime, forAll (List.range 24) rearm, forAll [0, 1, 2, 3] showGate]), answer w 0 []]))) ∧
  (∀ (e : Nat),
    portEthOk e = true →
    s.blockUp 12 = true →
    (s.rd (R.PP_STATE e) == 3) = true →
    Machine.exec (.ptpSyncTimer t e) s₀ = .next (s₀.after t (ptpDue e 0 (s.rdi (R.PP_LOG_SYNC e)) (.read fun s =>
    let q := (s.ptp e).seqSync
    let u := s.stampTx e
    let at_ (m : PtpMsg) : PtpMsg := { m with time := u / uNs, corr := fracCorr u }
    acts [setPtp e fun p => { p with seqSync := (q + 1) % 65536 },
      if s.rd (R.PP_ONE_STEP e) = 1 then sendPtp e true (at_ (s.ownPtp e ptSync q))
      else acts [sendPtp e true { s.ownPtp e ptSync q with twoStep := true }, sendPtp e false (at_ (s.ownPtp e ptFollowUp q))]])))) ∧
  (∀ (e : Nat),
    portEthOk e = true →
    s.blockUp 12 = true →
    ((s.rd (R.PP_STATE e) == 4 || s.rd (R.PP_STATE e) == 5) && s.rd (R.PP_DELAY e) == 0) = true →
    Machine.exec (.ptpDelayReqTimer t e) s₀ = .next (s₀.after t (ptpDue e 1 (s.rdi (R.PP_LOG_DELAY e)) (.read fun s =>
      let q := (s.ptp e).seqDelay
      acts [setPtp e fun p => { p with
          seqDelay := (q + 1) % 65536
          dreq := some ⟨q, 0, 0, s.stampTx e, 0, s.rd R.TU_STEP_SEQ⟩ },
        sendPtp e true (s.ownPtp e ptDelayReq q)])))) ∧
  (∀ (e : Nat),
    portEthOk e = true →
    s.blockUp 12 = true →
    (s.rd (R.PP_STATE e) != 0 && s.rd (R.PP_DELAY e) == 1) = true →
    Machine.exec (.ptpPdelayReqTimer t e) s₀ = .next (s₀.after t (ptpDue e 2 (s.rdi (R.PP_LOG_DELAY e)) (.read fun s =>
      let q := (s.ptp e).seqPdelay
      acts [setPtp e fun p => { p with
          seqPdelay := (q + 1) % 65536
          preq := some ⟨q, 0, 0, s.stampTx e, 0, s.rd R.TU_STEP_SEQ⟩ },
        sendPtp e true (s.ownPtp e ptPdelayReq q)])))) ∧
  (∀ (e : Nat) (m : PtpMsg),
    portEthOk e = true →
    s.blockUp 12 = true →
    Machine.exec (.ptpSyncRx t e m) s₀ = .next (s₀.after t (ptpRx e true m (fun s => s.slaving e && s.fromParent e m) (.read fun s =>
  let w : PtpWait := ⟨m.seq, m.id, m.port, s.stampRx e, corrUnits m.corr, s.rd R.TU_STEP_SEQ⟩
  let other := match (s.ptp e).source with
    | some x => x != (m.id, m.port)
    | none => false
  acts [onlyIf (other && s.rd R.SV_SOURCE == 1 && s.rd (R.PP_PARENT_ID e) == 0 && s.rd (R.PP_PARENT_PORT e) == 0) holdover,
    setPtp e fun p => { p with source := some (m.id, m.port), open_ := if m.twoStep then some w else none },
    onlyIf (!m.twoStep) (syncDone e w (m.time * uNs : Nat))])))) ∧
  (∀ (e : Nat) (m : PtpMsg),
    portEthOk e = true →
    s.blockUp 12 = true →
    Machine.exec (.ptpFollowUpRx t e m) s₀ = .next (s₀.after t (ptpRx e false m (fun s => s.slaving e && s.fromParent e m) (.read fun s =>
  match (s.ptp e).open_ with
  | none => inc (R.PP_ERRORS e)
  | some w =>
    if w.seq ≠ m.seq ∨ w.id ≠ m.id ∨ w.port ≠ m.port then inc (R.PP_ERRORS e)
    else acts [setPtp e fun p => { p with open_ := none },
      syncDone e { w with corr := w.corr + corrUnits m.corr } (m.time * uNs : Nat)])))) ∧
  (∀ (e : Nat) (m : PtpMsg),
    portEthOk e = true →
    s.blockUp 12 = true →
    Machine.exec (.ptpDelayReqRx t e m) s₀ = .next (s₀.after t (ptpRx e true m (fun s => s.rd (R.PP_STATE e) == 3) (.read fun s =>
  let u := s.stampRx e
  sendPtp e false { s.ownPtp e ptDelayResp m.seq with
    time := u / uNs
    corr := m.corr - fracCorr u
    reqId := m.id
    reqPort := m.port })))) ∧
  (∀ (e : Nat) (m : PtpMsg),
    portEthOk e = true →
    s.blockUp 12 = true →
    Machine.exec (.ptpDelayRespRx t e m) s₀ = .next (s₀.after t (ptpRx e false m (fun s => s.slaving e && s.fromParent e m && m.reqId == uidOf && m.reqPort == e + 1) (.read fun s =>
    match (s.ptp e).dreq, (s.ptp e).sync with
    | some w, some (y, t1) =>
      if w.seq ≠ m.seq then inc (R.PP_ERRORS e)
      else acts [setPtp e fun p => { p with dreq := none },
        onlyIf (w.step == y.step)
          (newDelay e (((y.time : Int) - t1 - y.corr + ((m.time * uNs : Nat) - (w.time : Int) - corrUnits m.corr)) / 2))]
    | _, _ => inc (R.PP_ERRORS e))))) ∧
  (∀ (e : Nat) (m : PtpMsg),
    portEthOk e = true →
    s.blockUp 12 = true →
    Machine.exec (.ptpPdelayReqRx t e m) s₀ = .next (s₀.after t (ptpRx e true m (fun s => s.rd (R.PP_STATE e) != 0 && s.rd (R.PP_DELAY e) == 1) (.read fun s =>
    let u2 := s.stampRx e
    let u3 := s.stampTx e
    let r (type : Nat) : PtpMsg := { s.ownPtp e type m.seq with reqId := m.id, reqPort := m.port }
    if s.rd (R.PP_ONE_STEP e) = 1 then
      sendPtp e true { r ptPdelayResp with corr := m.corr + ((u3 - u2) / uFrac : Nat) }
    else acts [sendPtp e true { r ptPdelayResp with twoStep := true, time := u2 / uNs, corr := -(fracCorr u2) },
      sendPtp e false { r ptPdelayFollow with time := u3 / uNs, corr := m.corr + fracCorr u3 }])))) ∧
  (∀ (e : Nat) (m : PtpMsg) (u3 : Nat),
    portEthOk e = true →
    s.blockUp 12 = true →
    Machine.exec (.ptpPdelayRespRx t e m u3) s₀ = .next (s₀.after t (ptpRx e true m (fun s => s.rd (R.PP_STATE e) != 0 && s.rd (R.PP_DELAY e) == 1 && m.reqId == uidOf && m.reqPort == e + 1)
    (.read fun s => match (s.ptp e).preq with
      | none => inc (R.PP_ERRORS e)
      | some w =>
        if w.seq ≠ m.seq then inc (R.PP_ERRORS e)
        else acts [setPtp e fun p => { p with preq := none },
          onlyIf (w.step == s.rd R.TU_STEP_SEQ)
            (newDelay e (((s.stampRx e : Int) - w.time - ((u3 : Int) - m.time) * uNs - corrUnits m.corr) / 2))])))) ∧
  (∀ (w : Who) (e : Nat) (v : Word),
    whoOk w = true →
    s.stores w (R.PP_STATE e) v = true →
    Machine.exec (.ppState t w e v) s₀ = .next (s₀.after t (acts [storeNow (R.PP_STATE e) 0 v, answer w 0 []]))) ∧
  (∀ (w : Who) (e : Nat) (id : Bool) (v : Word) r,
    whoOk w = true →
    r = (if id then R.PP_PARENT_ID e else R.PP_PARENT_PORT e) →
    s.stores w r v = true →
    Machine.exec (.ppParentWrite t w e id v) s₀ = .next (s₀.after t (acts [storeNow r 0 v, answer w 0 []]))) ∧
  ((decide (s.eng.time.lastMeas + s.rd R.SV_LOSS_MS * 1000000 ≤ s.now)) = true →
    Machine.exec (.svLossTimeout t) s₀ = .next (s₀.after t holdover)) ∧
  (∀ (w : Who) (v : Word),
    whoOk w = true →
    s.stores w R.SV_SOURCE v = true →
    Machine.exec (.svSource t w v) s₀ = .next (s₀.after t (acts [storeNow R.SV_SOURCE 0 v, answer w 0 []]))) ∧
  (∀ (m : Nat) (q : Nat),
    masterOk m = true →
    s.reads m (R.TQ_ENTRY q) = some (R.TQ_ENTRY q) →
    Machine.exec (.tqEntryRead t m q) s₀ = .next (s₀.after t (acts [wrTime (R.TQ_TIME q 0) (s.tqWord q).2, .read fun s => acts [latchRest (.ap m) (R.TQ_ENTRY q) 3, tqPop q, answer (.ap m) 0 [BitVec.ofNat 64 (s.live (R.TQ_ENTRY q))]]]))) ∧
  (∀ (rising : Bool),
    (rising = (s.rd R.PPS_IN_EDGE == 0)) →
    Machine.exec (.ppsInEdge t rising) s₀ = .next (s₀.after t (acts [
    setTime fun g => { g with ppsLast := some s.now },
    onlyIf (s.rd R.SV_SOURCE == 2) (measure (fromSecond ((s.devTime : Int) - s.rdi R.PPS_IN_DELAY * uNs)))]))) ∧
  (∀ t',
    s.eng.time.ppsLast = some t' →
    (decide (t' + 1500000000 ≤ s.now)) = true →
    Machine.exec (.ppsInLost t) s₀ = .next (s₀.after t (acts [
      setTime fun g => { g with ppsLast := none }, raise 0x0F07 0 0, onlyIf (s.rd R.SV_SOURCE == 2) holdover]))) ∧
  (Machine.exec (.ppsOutPulse t) s₀ = .next (s₀.after t (acts [
  setTime fun g => { g with
    ppsFrom := if s.ppsRuns then some (g.ppsFrom.getD s.devTime) else none
    ppsTail := if s.ppsRuns then g.ppsTail else 0 },
  .read fun s => setTime fun g => { g with ppsOut := s.ppsLevel }]))) ∧
  (∀ (w : Who),
    whoOk w = true →
    s.stores w R.PPS_EN 1 = true →
    Machine.exec (.ppsEn t w) s₀ = .next (s₀.after t (acts [storeNow R.PPS_EN 0 1, answer w 0 []]))) ∧
  (∀ (hz : Nat) valid,
    valid = s.trefFits hz →
    ¬((s.rd R.TR_VALID == 1) = valid) →
    Machine.exec (.trefValidityChange t hz) s₀ = .next (s₀.after t (acts [wr R.TR_VALID (b2n valid), raise (if valid then 0x0F09 else 0x0F08) 0 0])))

/-- Where the commands of the redundant pair complete, and with what effect. From every state in which all that is due by the instant `t`
has come, with operands that meet the conditions of its clause, each command answers the next state that its own effect leaves; the
clause gives the whole next state, and with it all that stays. -/
def Obligations.PairComplete : Prop :=
  ∀ (s₀ s : State) (t : Nat), s = s₀.ready t →
  (∀ (refresh : Bool),
    (s.inPair && decide (s.eng.pair.hbLast + 990000 ≤ s.now)) = true →
    Machine.exec (.heartbeatPeriod t refresh) s₀ = .next (s₀.after t (acts [
  onlyIf refresh (setPair fun g => { g with refreshed := s.now }),
  setPair fun g => { g with hbLast := s.now },
  .read fun s => if s.hbRuns then
      let k := s.eng.pair.hbBit
      acts [emit (.hb (some (bit? (hbWord s.eng.pair.hbSeq) (7 - k)))),
        setPair fun g => { g with
          hbOn := true
          hbBit := (k + 1) % 8
          hbSeq := if k = 7 then (g.hbSeq + 1) % 8 else g.hbSeq }]
    else hbOff]))) ∧
  ((!(s.hbRuns)) = true →
    s.eng.pair.hbOn = true →
    Machine.exec (.heartbeatStop t) s₀ = .next (s₀.after t (acts [setPair fun g => { g with hbOn := false }, emit (.hb none)]))) ∧
  (∀ (cause : Nat) (held : Nat),
    Machine.exec (.grantLost t cause held) s₀ = .next (s₀.after t (onlyIf (levelTaken held) <| acts [
  setPair fun g => if cause = 0 then { g with grant := false } else { g with fence := true },
  onlyIf s.inPair (acts [muteFor 1,
    onlyIf (decide (psSwitching ≤ s.rd R.PR_STATE) && decide (s.rd R.PR_STATE ≤ psYielding)) (acts [
      setPairState psDemoting, setLevel 2 true, raise 0x1005 0 (min cause 1), hbOff,
      askReset ⟨8, 2, 0, some 0, false⟩])])]))) ∧
  (∀ (fence : Bool) (gap : Nat) (held : Nat) g0 st,
    g0 = min gap 10000000 →
    st = s.rd R.PR_STATE →
    Machine.exec (.grantSeen t fence gap held) s₀ = .next (s₀.after t (onlyIf (levelTaken held) <| acts [
    setPair fun g => { g with grant := true, fence := fence },
    onlyIf (s.inPair && !fence && (st == psSyncing || st == psReady)) (acts [
      setPairState psSwitching, raise 0x1003 0 (match (if st = psReady then s.eng.pair.newest else none) with
        | some (m, _) => m.seq
        | none => 0),
      setPair fun g => { g with rx := none }, perturbClear,
      match (if st = psReady then s.eng.pair.newest else none) with
      | some (m, area) => acts [wr R.PR_AREA area, bindImage m]
      | none => acts [wr R.PR_AREA 0, clearServices, clearNodes, wr R.PR_TAKEOVER_AGE (2 ^ 64 - 1)],
      calibrateAll, releaseLoop, leapCounters, announce,
      .eff (.pass g0),
      .read fun s => acts [
        unmuteFor 1, setPairState psActive, wr R.J_SERVE_ASN s.tsAsn, wr R.LEAP_STATE (2 ^ 63 + 1),
        wr R.PR_GAP g0, inc R.PR_SWITCHOVERS, raise 0x1004 0 g0,
        setPair fun g => { g with
          step7 := some (s.now, 2)
          started := s.now
          newest := none }]])]))) ∧
  (∀ t' left,
    s.eng.pair.step7 = some (t', left) →
    (decide (t' + (3 - left) * 1000000000 ≤ s.now)) = true →
    Machine.exec (.pairAnnounceRepeat t) s₀ = .next (s₀.after t (acts [announce,
      setPair fun g => { g with step7 := if left ≤ 1 then none else some (t', left - 1) }]))) ∧
  ((s.rd R.PR_STATE == psActive && s.eng.pair.run.isNone && s.imageDue) = true →
    Machine.exec (.mooringImageStart t) s₀ = .next (s₀.after t (imageBegins (match s.eng.pair.sent with
    | some (_, y) => y
    | none => false)))) ∧
  (∀ (nodes : Nat) (buckets : Nat) r,
    s.eng.pair.run = some r →
    ¬(r.ready) →
    Machine.exec (.mooringPassEnd t nodes buckets) s₀ = .next (s₀.after t (if nodes ≤ 2048 ∧ buckets ≤ 2048 then setPair fun g => { g with run := some { r with passes := r.passes + 1, ready := true } }
    else if 16 ≤ r.passes + 1 then acts [inc R.PR_ABANDONED, setPair fun g => { g with run := none, started := s.now }]
    else setPair fun g => { g with run := some { r with passes := r.passes + 1 } }))) ∧
  (∀ (ns : Nat) r kek,
    s.eng.pair.run = some r →
    s.pairKey opWrap = some kek →
    ¬(¬ r.ready ∨ s.pendingSoon) →
    Machine.exec (.mooringFreeze t ns) s₀ = .next (s₀.after t (acts [
      .eff (.pass (min ns 200000)),
      .read fun s =>
        let m := s.mooring r.seq kek
        acts [
          pairStarts s.ownerValues,
          wr R.PR_FREEZE_MAX (max (s.rd R.PR_FREEZE_MAX) (min ns 200000)),
          setPair fun g => { g with run := none, sent := some (m, r.yield) },
          pairPost 0x30 r.seq m.hdr none,
          forAll m.blocks fun b => pairPost 0x31 (b.1 * 2 ^ 56 + 8 * b.2.1) b.2.2 none,
          pairPost 0x32 r.seq [] (some r.seq)]]))) ∧
  (∀ m last,
    s.eng.pair.rx = some (m, last) →
    (decide (last + 100000000 ≤ s.now)) = true →
    Machine.exec (.moorStreamTimeout t) s₀ = .next (s₀.after t (imageBad m.seq))) ∧
  ((s.rd R.PR_STATE == psReady && decide (s.rd R.PR_MAX_AGE * 1000 < s.imageAge)) = true →
    Machine.exec (.prImageAgeExpiry t) s₀ = .next (s₀.after t (notReady 0))) ∧
  ((s.rd R.PR_STATE == psReady && !(s.eng.pair.locked) && decide (s.eng.pair.unlocked + s.rd R.PR_TIME_HOLD * 1000000000 ≤ s.now)) = true →
    Machine.exec (.prTimeHoldExpiry t) s₀ = .next (s₀.after t (notReady 1))) ∧
  (∀ (w : Who) u,
    whoOk w = true →
    s.takes w R.PR_CMD 1 = true →
    u = (wr R.PR_CMD 0).run s →
    ¬(u.rd R.PR_STATE ≠ psActive) →
    ¬(u.eng.pair.run.isSome) →
    Machine.exec (.prCmdImage t w) s₀ = .next (s₀.after t (acts [wr R.PR_CMD 0, acts [wr R.PR_CMD 0, imageBegins false], answer w 0 []]))) ∧
  (∀ (w : Who) u,
    whoOk w = true →
    s.takes w R.PR_CMD 2 = true →
    u = (wr R.PR_CMD 0).run s →
    ¬(u.rd R.PR_STATE ≠ psActive) →
    ¬(u.rd R.PR_PEER_STATE ≠ psReady) →
    ¬(u.eng.pair.run.isSome) →
    Machine.exec (.prCmdYield t w) s₀ = .next (s₀.after t (acts [wr R.PR_CMD 0, acts [wr R.PR_CMD 0, imageBegins true], answer w 0 []]))) ∧
  (∀ (w : Who) u,
    whoOk w = true →
    s.takes w R.PR_CMD 3 = true →
    u = (wr R.PR_CMD 0).run s →
    ¬(u.rd R.PR_STATE ≠ psYielding) →
    Machine.exec (.prCmdCancelYield t w) s₀ = .next (s₀.after t (acts [wr R.PR_CMD 0, acts [wr R.PR_CMD 0, setPairState psActive], answer w 0 []]))) ∧
  ((s.rd R.PR_STATE == psYielding && s.eng.pair.grant && decide (s.eng.pair.yieldAt + s.rd R.PR_YIELD_MS * 1000000 ≤ s.now)) = true →
    Machine.exec (.prYieldExpiry t) s₀ = .next (s₀.after t (acts [setPairState psActive, raise 0x100A 0 0]))) ∧
  ((decide (psSwitching ≤ s.rd R.PR_STATE) && decide (s.rd R.PR_STATE ≤ psYielding) &&
    (s.rd R.PR_PEER_STATE == psSyncing || s.rd R.PR_PEER_STATE == psReady) && s.msGone s.eng.pair.syncAt) = true →
    Machine.exec (.timeSyncTimer t) s₀ = .next (s₀.after t (acts [pairPost 0x33 0 [0, 0] none, setPair fun g => { g with syncAt := some s.now }]))) ∧
  ((decide (s.eng.pair.lastExch + 10000000 ≤ s.now)) = true →
    Machine.exec (.pairTimeLoopTimeout t) s₀ = .next (s₀.after t (setPair fun g => { g with
    unlocked := if g.locked then s.now else g.unlocked
    locked := false
    good := 0 }))) ∧
  (s.msGone s.eng.pair.statusAt = true →
    s.inPair = true →
    Machine.exec (.pairStatusTimer t) s₀ = .next (s₀.after t (acts [pairPost 0x35 (s.rd R.PR_STATE) [] none, setPair fun g => { g with statusAt := some s.now }]))) ∧
  ((decide (s.eng.pair.heard + 10000000 ≤ s.now)) = true →
    Machine.exec (.pairStatusTimeout t) s₀ = .next (s₀.after t (wr R.PR_PEER_STATE 0)))

/-- Where the commands of the witness complete, and with what effect. From every state in which all that is due by the instant `t`
has come, with operands that meet the conditions of its clause, each command answers the next state that its own effect leaves; the
clause gives the whole next state, and with it all that stays. -/
def Obligations.WitnessComplete : Prop :=
  ∀ (s₀ s : State) (t : Nat), s = s₀.ready t →
  ((s.isWitness && s.rd R.WIT_STATE == 0 && decide (s.eng.wit.since + s.rd R.WIT_START_WAIT * 1000000 ≤ s.now)) = true →
    Machine.exec (.witStartWaitExpiry t) s₀ = .next (s₀.after t (if s.witAlive 0 then grantUnit 0 else if s.witAlive 1 then grantUnit 1
     else acts [wr R.WIT_STATE 1, setWit fun g => { g with since := s.now }]))) ∧
  (∀ (x : Nat) (ps : List (Nat × Nat)),
    unitOk x = true →
    (s.isWitness && hbAlive ps) = true →
    Machine.exec (.witHeartbeatAlive t x ps) s₀ = .next (s₀.after t (acts [
  setWit fun g => { g with alive := x :: g.alive.filter (· != x), words := g.words.set x s.now }, witShow,
  .read fun s => if s.rd R.WIT_STATE = 1 then (if s.witAlive 0 then grantUnit 0 else grantUnit 1) else witJudge]))) ∧
  (∀ (x : Nat),
    unitOk x = true →
    (s.isWitness && s.witAlive x &&
    decide (s.eng.wit.words.at x 0 + s.rd R.WIT_HB_LOSS * 1000000 ≤ s.now)) = true →
    Machine.exec (.witHeartbeatLost t x) s₀ = .next (s₀.after t (acts [
  setWit fun g => { g with alive := g.alive.filter (· != x) }, witShow, witJudge]))) ∧
  ((s.isWitness && s.granted.isSome && !(s.eng.wit.shown) && decide (s.eng.wit.grantAt + s.rd R.WIT_TAKE_MS * 1000000 ≤ s.now)) = true →
    Machine.exec (.witTakeTimeout t) s₀ = .next (s₀.after t (acts [setWit fun g => { g with failed := true }, witJudge]))) ∧
  (∀ (x : Nat) (code : Nat) (held : Nat),
    (unitOk x && decide (code < 4)) = true →
    (s.isWitness && decide (1000 ≤ held)) = true →
    Machine.exec (.witStateCode t x code held) s₀ = .next (s₀.after t (acts [
  onlyIf (s.witCode x != code) (setWit fun g => { g with codes := g.codes.set x code, held := g.held.set x (s.now - held) }),
  onlyIf (s.granted == some x) (
    if code = 2 ∨ code = 3 then setWit fun g => { g with shown := true, failed := g.failed && !(decide (code = 2)) }
    else onlyIf (code == 0 && s.eng.wit.shown) (setWit fun g => { g with failed := true })),
  witShow, witJudge]))) ∧
  (∀ (w : Who) u x,
    whoOk w = true →
    s.takes w R.WIT_CMD 1 = true →
    u = (wr R.WIT_CMD 0).run s →
    u.granted = some x →
    (u.witAlive (1 - x) ∧ u.witCode (1 - x) = 1) →
    Machine.exec (.witCmd t w) s₀ = .next (s₀.after t (acts [wr R.WIT_CMD 0, acts [wr R.WIT_CMD 0, witMove x false], answer w 0 []]))) ∧
  ((s.isWitness && s.rd R.WIT_STATE == 4 && decide (s.eng.wit.since + s.rd R.WIT_FENCE_GAP ≤ s.now)) = true →
    Machine.exec (.witFenceGapExpiry t) s₀ = .next (s₀.after t (grantUnit s.eng.wit.target))) ∧
  (∀ (x : Nat),
    unitOk x = true →
    (s.isWitness && s.eng.wit.fences.contains x && s.witAlive x && decide (s.witCode x ≤ 1) &&
      decide (s.eng.wit.held.at x 0 + 1000000 ≤ s.now)) = true →
    Machine.exec (.witFenceRelease t x) s₀ = .next (s₀.after t (acts [setWit fun g => { g with fences := g.fences.filter (· != x) }, witShow])))

/-- Where the commands of the fabric complete, and with what effect. From every state in which all that is due by the instant `t`
has come, with operands that meet the conditions of its clause, each command answers the next state that its own effect leaves; the
clause gives the whole next state, and with it all that stays. -/
def Obligations.FabricComplete : Prop :=
  ∀ (s₀ s : State) (t : Nat), s = s₀.ready t →
  (∀ (w : Who) (l : Nat) (v : Word),
    whoOk w = true →
    s.stores w (R.FB_EN l) v = true →
    Machine.exec (.fbEn t w l v) s₀ = .next (s₀.after t (acts [storeNow (R.FB_EN l) 0 v, answer w 0 []]))) ∧
  (∀ (l : Nat) (lanes : List Nat) skew,
    (linkOk l && lanes.length == 4) = true →
    s.blockUp 13 = true →
    skew = lanes.foldl max 0 - lanes.foldl min (lanes.foldl max 0) →
    (s.rd (R.FB_STATE l) = 1 ∧ (s.flink l).since ≤ s.now ∧ skew ≤ 20000) →
    Machine.exec (.fbLaneLock t l lanes) s₀ = .next (s₀.after t (acts [wr (R.FB_STATE l) 2, setLink l fun x => { x with since := s.now }, sendHello l]))) ∧
  (∀ (l : Nat),
    linkOk l = true →
    s.blockUp 13 = true →
    (s.rd (R.FB_STATE l) = 1 ∧ (s.flink l).since + 10000000 ≤ s.now) →
    Machine.exec (.fbTrainTimeout t l) s₀ = .next (s₀.after t (setLink l fun x => { x with since := s.now + 100000000 }))) ∧
  (∀ (l : Nat),
    linkOk l = true →
    s.blockUp 13 = true →
    (s.rd (R.FB_STATE l) == 2 && decide ((s.flink l).since + 10000 ≤ s.now)) = true →
    Machine.exec (.fbHelloTimer t l) s₀ = .next (s₀.after t (acts [sendHello l, setLink l fun x => { x with since := s.now }]))) ∧
  (∀ (l : Nat) (ws : List Nat) p dev role ver,
    (linkOk l && words ws) = true →
    s.blockUp 13 = true →
    ctrlParse 2 ws = some p →
    ¬(s.rd (R.FB_STATE l) ≠ 2 ∨ p.payload.length ≠ 2) →
    dev = fld p.arg 58 56 →
    role = fld p.arg 55 52 →
    ver = fld p.arg 51 44 →
    Machine.exec (.fbHelloRx t l ws) s₀ = .next (s₀.after t (let refuse (c : Nat) : Act := acts [wr (R.FB_STATE l) 4, wr (R.FB_CAUSE l) c,
        setLink l fun x => { x with since := s.now }, raise 0x1103 l (l + c * 256)]
      if dev = s.rd R.DEVNUM then refuse 2
      else if role ≠ s.rd (R.FB_ROLE l) ∨ (role = 1 ∧ ¬ s.pairMember) then refuse 3
      else if ¬ protoCompatible (s.rd R.FB_PROTO) (s.rd R.FB_BRIDGE) ver (fld p.arg 43 36) then refuse 1
      else
        let w := p.payload.getD 1 0
        acts [wr (R.FB_STATE l) 3, wr (R.FB_CAUSE l) 0, wr (R.FB_PEER l) dev, wr (R.FB_PEER_UID l) (p.payload.getD 0 0),
          wr (R.FB_VERSION l) (min ver (s.rd R.FB_PROTO)),
          setLink l fun _ => { linkRest with
            heard := s.now
            pools := [fld w 63 48, fld w 47 32, fld w 31 16, fld w 15 0]
            offer := (ver, fld p.arg 43 36)
            topo := if role = 0 then s.lastTopo dev else 0 },
          openLedger l, topoOwed, raise 0x1101 l (l + dev * 256 + min ver (s.rd R.FB_PROTO) * 65536),
          routesChanged, showPairLink]))) ∧
  (∀ (l : Nat),
    linkOk l = true →
    s.blockUp 13 = true →
    (s.rd (R.FB_STATE l) = 4 ∧ (s.flink l).since + 1000000000 ≤ s.now) →
    Machine.exec (.fbRefusedExpiry t l) s₀ = .next (s₀.after t (acts [wr (R.FB_STATE l) 1, setLink l fun x => { x with since := s.now }]))) ∧
  (∀ (l : Nat) (cause : Nat),
    linkOk l = true →
    s.blockUp 13 = true →
    ¬(¬ s.linkUp l) →
    ¬(cause = 0 ∧ s.now < (s.flink l).heard + 1000000) →
    ¬(cause = 1 ∧ (s.flink l).replays < 16) →
    Machine.exec (.fbLinkDown t l cause) s₀ = .next (s₀.after t (acts [dropLink l (min cause 2), wr (R.FB_STATE l) 1, inc (R.FB_RETRAINS l), routesChanged, showPairLink]))) ∧
  (∀ (l : Nat) (ws : List Nat) k,
    (linkOk l && words ws) = true →
    s.blockUp 13 = true →
    k = s.flink l →
    ¬(¬ s.linkUp l) →
    Machine.exec (.fbPacketRx t l ws) s₀ = .next (s₀.after t (match fabParse ws with
    | none => acts [inc (R.FB_CRC_ERR l), setLink l fun x => { x with nak := true }, sendNak l]
    | some (p, ack, lseq) =>
      if p.type = 0 then .skip
      else if lseq = nextSeq k.rxSeq then
        acts [setLink l fun x => { x with rxSeq := lseq, nak := false, heard := s.now }, ackFab l ack, inc (R.FB_RX_PKTS l),
          match aget s.eng.flt.frozen (19 + l) with
          | some z => acts [holdFab l p, stallFab l z p]
          | none => if k.pools.getD (fabPool p) 0 = 0 ∨
              [1024, 256, 1024, 256].getD (fabPool p) 0 < k.holds.getD (fabPool p) 0 + fabBlocks p then acts [holdFab l p, note (.breach l p)]
          else deliverFab l p]
      else if k.nak ∨ ¬ seqAhead lseq k.rxSeq then setLink l fun x => { x with heard := s.now }
      else acts [inc (R.FB_CRC_ERR l), setLink l fun x => { x with nak := true, heard := s.now }, sendNak l]))) ∧
  (∀ (l : Nat) (ws : List Nat) p want k,
    (linkOk l && words ws) = true →
    s.blockUp 13 = true →
    ctrlParse 1 ws = some p →
    ¬(¬ s.linkUp l) →
    want = fld p.arg 59 48 →
    k = s.flink l →
    Machine.exec (.fbNakRx t l ws) s₀ = .next (s₀.after t (acts [setLink l fun x => { x with
          heard := s.now
          replay := x.replay.filter fun e => e.1 == want || seqAhead e.1 want
          replays := if (x.replay.head?.map (·.1)) == some want then x.replays + 1 else 1 },
        inc (R.FB_REPLAYS l),
        .read fun s => forAll (s.flink l).replay fun e => emit (.fab l (fabWords e.2 k.rxSeq e.1)),
        .read fun s => onlyIf (decide (16 ≤ (s.flink l).replays)) (fabLinkDown l 1)]))) ∧
  (∀ (l : Nat) (ws : List Nat) p w',
    (linkOk l && words ws) = true →
    s.blockUp 13 = true →
    ctrlParse 0 ws = some p →
    ¬(¬ s.linkUp l) →
    w' = p.payload.getD 0 0 →
    Machine.exec (.fbStatusRx t l ws) s₀ = .next (s₀.after t (let cum (i : Nat) : Nat :=
        let old := (s.flink l).freed.getD i 0
        old + (fld w' (63 - 16 * i) (48 - 16 * i) + 65536 - old % 65536) % 65536
      acts [setLink l fun x => { x with heard := s.now, freed := (List.range 4).map cum }, ackFab l (fld p.arg 59 48)]))) ∧
  (∀ (l : Nat) x,
    linkOk l = true →
    s.blockUp 13 = true →
    x = s.flink l →
    (s.linkUp l && (x.told.1 != x.rxSeq || x.told.2.1 != x.given || decide (x.told.2.2 + 10000 ≤ s.now))) = true →
    Machine.exec (.fbStatusTimer t l) s₀ = .next (s₀.after t (sendStatus l))) ∧
  (∀ reach due,
    s.blockUp 13 = true →
    (reach = ((s.ordinaryUp.map fun l => s.rd (R.FB_PEER l)).foldl setBit 0)) →
    (due = (s.eng.fab.topoDue || (match s.eng.fab.topoAt with
    | none => true
    | some u => decide (u + 100000000 ≤ s.now)))) →
    due = true →
    Machine.exec (.topoTimer t) s₀ = .next (s₀.after t (acts [
    setFab fun g => { g with topoDue := false, topoAt := some s.now },
    forAll s.ordinaryUp fun l =>
      enqueueFab l ⟨⟨0x15, s.rd (R.FB_PEER l), s.rd R.DEVNUM, false, 0, reach, []⟩, s.now, none⟩])))

/-- Where the commands of host FIFOs, arbiters and PCIe complete, and with what effect. From every state in which all that is due by the instant `t`
has come, with operands that meet the conditions of its clause, each command answers the next state that its own effect leaves; the
clause gives the whole next state, and with it all that stays. -/
def Obligations.HostFifosComplete : Prop :=
  ∀ (s₀ s : State) (t : Nat), s = s₀.ready t →
  (∀ (waiting : List (Nat × Nat)) ws d (x : Nat),
    arbOk 0 = true →
    (ws = (List.range 16).filterMap (fun r => (waiting.find? fun (x : Nat × Nat) => x.1 == r).map fun x => (r, x.2, s.rd (R.AR_TICKETS r)))) →
    d = arbDecide (s.rd (R.ARB_N 0)) (s.eng.arb.at 0 ⟨arbSeed 0, 0⟩) ws →
    d.1 = some x →
    Machine.exec (.arbDecide t 0 waiting) s₀ = .next (s₀.after t (acts [eng fun e => { e with arb := e.arb.set 0 d.2.2 }, inc (R.ARB_GRANTS 0), onlyIf d.2.1 (inc (R.ARB_OLDEST 0)), .skip]))) ∧
  (∀ (waiting : List (Nat × Nat)) j d (x : Nat),
    arbOk 1 = true →
    s.blockUp 6 = true →
    s.freeDecoder = some j →
    d = arbDecide (s.rd (R.ARB_N 1)) (s.eng.arb.at 1 ⟨arbSeed 1, 0⟩) s.decodeWaiting →
    d.1 = some x →
    Machine.exec (.arbDecide t 1 waiting) s₀ = .next (s₀.after t (acts [eng fun e => { e with arb := e.arb.set 1 d.2.2 }, inc (R.ARB_GRANTS 1), onlyIf d.2.1 (inc (R.ARB_OLDEST 1)), startDecode j x]))) ∧
  (∀ (k : Nat) (waiting : List (Nat × Nat)) (l : Nat) d (x : Nat),
    arbOk k = true →
    k = l + 2 →
    s.blockUp 13 = true →
    d = arbDecide (s.rd (R.ARB_N k)) (s.eng.arb.at k ⟨arbSeed k, 0⟩) (s.fabWaiting l) →
    d.1 = some x →
    Machine.exec (.arbDecide t k waiting) s₀ = .next (s₀.after t (acts [eng fun e => { e with arb := e.arb.set k d.2.2 }, inc (R.ARB_GRANTS k), onlyIf d.2.1 (inc (R.ARB_OLDEST k)), transmitFab l (x == 1)]))) ∧
  (∀ (chan : Nat) (off : Nat) (single : Bool) detail,
    (decide (chan < 2)) = true →
    detail = chan + off / 256 * 256 →
    Machine.exec (.dramEccError t chan off single) s₀ = .next (s₀.after t (if single then acts [inc (R.MC_CE chan), raiseMax 1000000000 chan 0x0381 0 detail] else acts [inc (R.MC_UE chan), raise 0x0382 0 detail, if s.coreDram off then .skip else if s.eng.flt.dump.isSome ∧ 0x80000000 ≤ off ∧ off < 0x90000000 then dumpEnds true [] else fatalError 2 detail]))) ∧
  (∀ (found : List (Nat × Nat × Bool)),
    ((found.all fun (x : Nat × Nat × Bool) => decide (x.1 < 2)) = true) →
    Machine.exec (.dramPatrolScrub t found) s₀ = .next (s₀.after t (forAll found fun (x : Nat × Nat × Bool) => dramError x.1 x.2.1 x.2.2))) ∧
  (∀ (m : Nat) (f : Nat),
    masterOk m = true →
    s.reads m (R.HF_POP f) = some (R.HF_POP f) →
    Machine.exec (.hfPop t m f) s₀ = .next (s₀.after t (acts [popFifo f, answer (.ap m) 0 [BitVec.ofNat 64 (s.live (R.HF_POP f))]]))) ∧
  (∀ (m : Nat) (f : Nat) (v : Word),
    masterOk m = true →
    s.pushes m (R.HF_START f) v = true →
    s.rd (R.HF_MODE (32 + f)) = 1 →
    (s.fromHost f).cur = none →
    s.roomForItem f = true →
    (s.fromHost f).held = none →
    Machine.exec (.hfStart t m f v) s₀ = .next (s₀.after t (acts [takeItem f 0 v.toNat, answer (.ap m) 0 []]))) ∧
  (∀ (m : Nat) (f : Nat) (v : Word) x u l,
    masterOk m = true →
    s.pushes m (R.HF_DATA f) v = true →
    x = markCommit [(0x0391, f)] →
    u = x.run s →
    u.rd (R.HF_MODE (32 + f)) = 1 →
    (u.fromHost f).cur = some l →
    u.roomForItem f = true →
    (u.fromHost f).held = none →
    Machine.exec (.hfData t m f v) s₀ = .next (s₀.after t (acts [x, takeItem f 1 v.toNat, answer (.ap m) 0 []]))) ∧
  (∀ (m : Nat) (f : Nat) (v : Word) x u l,
    masterOk m = true →
    s.pushes m (R.HF_END f) v = true →
    x = markCommit [(0x0391, f)] →
    u = x.run s →
    u.rd (R.HF_MODE (32 + f)) = 1 →
    (u.fromHost f).cur = some l →
    lengthWordOk v.toNat l.length = true →
    Machine.exec (.hfEnd t m f v) s₀ = .next (s₀.after t (acts [x, setFrom f { u.fromHost f with cur := none, pkts := (u.fromHost f).pkts ++ [(fld v.toNat 15 0, l)] }, answer (.ap m) 0 []]))) ∧
  (∀ (m : Nat) (f : Nat),
    masterOk m = true →
    s.starts (.ap m) (R.HF_ABORT f) (R.HF_ABORT f) 1 = true →
    Machine.exec (.hfAbort t m f) s₀ = .next (s₀.after t (acts [wr (R.HF_ABORT f) 0, setFrom f { s.fromHost f with cur := none }, answer (.ap m) 0 []]))) ∧
  (∀ (f : Nat) x h,
    fifoOk f = true →
    s.blockUp 15 = true →
    x = s.fromHost f →
    x.held = some h →
    Machine.exec (.hfHeldWriteDone t f) s₀ = .next (s₀.after t (if h.since + 2 ^ 20 ≤ s.now then pushStalls f h
    else onlyIf (s.roomForItem f) (acts [setFrom f { x with held := none }, takeItem f h.mem h.val, answer h.who 0 []])))) ∧
  (∀ (f : Nat) h,
    fifoOk f = true →
    s.blockUp 15 = true →
    (s.fromHost f).held = some h →
    (decide (h.since + 2 ^ 20 ≤ s.now) && !(s.roomForItem f)) = true →
    Machine.exec (.hfStallTimeout t f) s₀ = .next (s₀.after t (acts [setFrom f { s.fromHost f with held := none }, inc (R.HF_STALL_TO (32 + f)), raiseMs 0 0x0383 (32 + f) (32 + f),
    answer h.who 0x08 []]))) ∧
  (∀ (f : Nat) x,
    fifoOk f = true →
    s.blockUp 15 = true →
    x = s.toHost f →
    (decide (0 < x.fresh) && decide (x.since + s.rd (R.HF_NOTICE_NS f) ≤ s.now)) = true →
    Machine.exec (.hfNoticeTimer t f) s₀ = .next (s₀.after t (hostNotice f))) ∧
  (∀ (w : Who) (f : Nat) (v : Word),
    whoOk w = true →
    s.stores w (R.HF_MODE f) v = true →
    Machine.exec (.hfMode t w f v) s₀ = .next (s₀.after t (acts [storeNow (R.HF_MODE f) 0 v, answer w 0 []]))) ∧
  (∀ (w : Who) (k : Nat) (items : List Word) (bad : Bool) u,
    whoOk w = true →
    u = (hostMemory items bad).run s →
    u.takes w (R.HR_CMD k) 1 = true →
    u.rd (R.HF_MODE k) = 2 →
    Machine.exec (.hrCmd t w k items bad) s₀ = .next (s₀.after t (acts [hostMemory items bad, wr (R.HR_CMD k) 0, acts [wr (R.HR_STATE k) 1, ringRuns k], answer w 0 []]))) ∧
  (∀ (w : Who) (k : Nat) (v : Word) (items : List Word) (bad : Bool) u,
    whoOk w = true →
    u = (hostMemory items bad).run s →
    u.stores w (R.HR_HOST_IDX k) v = true →
    Machine.exec (.hrHostIdx t w k v items bad) s₀ = .next (s₀.after t (acts [hostMemory items bad, storeNow (R.HR_HOST_IDX k) 0 v, answer w 0 []]))) ∧
  (∀ (k : Nat),
    ringOk k = true →
    s.blockUp 15 = true →
    (s.rd (R.HR_STATE k) == 1) = true →
    Machine.exec (.ringBusError t k) s₀ = .next (s₀.after t (ringError k 1))) ∧
  (Machine.exec (.pcieFlr t) s₀ = .next (s₀.after t (pulse 12 1 14))) ∧
  ((!s.eng.pcie.perst) = true →
    Machine.exec (.perstNAssert t) s₀ = .next (s₀.after t (acts [
  pcieLink false 0 0,
  eng fun e => { e with pcie := { e.pcie with perst := true } },
  assertSrc ⟨11, 1, 14, none, false⟩]))) ∧
  (s.eng.pcie.perst = true →
    Machine.exec (.perstNRelease t) s₀ = .next (s₀.after t (acts [
  eng fun e => { e with pcie := { e.pcie with perst := false } },
  releaseSrcs fun x => x.cause == 11]))) ∧
  (∀ (up : Bool) (width : Nat) (rate : Nat) x,
    (decide (width ≤ 16) && decide (rate ≤ 16)) = true →
    x = s.eng.pcie →
    ¬(up ∧ (x.perst ∨ s.blockUp 14 = false)) →
    ¬(up = x.up ∧ (¬ up ∨ (width = x.width ∧ rate = x.rate))) →
    Machine.exec (.pcieLinkChange t up width rate) s₀ = .next (s₀.after t (acts [
    eng fun e => { e with pcie := { x with
      up := up
      width := if up then width else 0
      rate := if up then rate else 0 } },
    onlyIf (!up) stopRings,
    raise 0x0386 0 (if up then 1 + width % 16 * 256 + rate % 32 * 65536 else 0)])))

/-- Where the commands of interrupts, events and timers complete, and with what effect. From every state in which all that is due by the instant `t`
has come, with operands that meet the conditions of its clause, each command answers the next state that its own effect leaves; the
clause gives the whole next state, and with it all that stays. -/
def Obligations.InterruptsComplete : Prop :=
  ∀ (s₀ s : State) (t : Nat), s = s₀.ready t →
  (∀ (src : Nat),
    edgeOk src = true →
    Machine.exec (.irqEdge t src) s₀ = .next (s₀.after t (if s.eng.irq.stopped then
    eng fun e => { e with irq := { e.irq with latched := src :: e.irq.latched.filter (· ≠ src) } }
  else setPending src))) ∧
  (∀ (src : Nat) (high : Bool),
    critOk src = true →
    ¬(bit? s.eng.irq.levels src = high) →
    Machine.exec (.irqLevelChange t src high) s₀ = .next (s₀.after t (acts [
    eng fun e => { e with irq := { e.irq with levels := if high then setBit e.irq.levels src else clrBit e.irq.levels src } },
    if s.eng.irq.stopped ∨ s.srcActive src then .skip
    else if high then setPending src else clearPending src]))) ∧
  (∀ (j : Nat) (mask : Word) (m : Nat),
    (whoOk (.ap m) && decide (j < 32)) = true →
    s.keeps (.ap m) (R.IRQ_PENDING j) (R.IRQ_PENDING j) 1 mask = true →
    Machine.exec (.irqSoftwareSet t (.ap m) j mask) s₀ = .next (s₀.after t (acts [storeNow (R.IRQ_PENDING j) 1 mask, answer (.ap m) 0 []]))) ∧
  (∀ (j : Nat) (mask : Word) (k : Nat),
    (whoOk (.ddp k) && decide (j < 32)) = true →
    s.keeps (.ddp k) (R.IRQ_PENDING j) (R.IRQ_PENDING j) 1 mask = true →
    Machine.exec (.irqSoftwareSet t (.ddp k) j mask) s₀ = .next (s₀.after t (acts [storeNow (R.IRQ_PENDING j) 1 mask, answer (.ddp k) 0 []]))) ∧
  (∀ (j : Nat) (mask : Word) (m : Nat),
    (whoOk (.ap m) && decide (j < 32)) = true →
    s.keeps (.ap m) (R.IRQ_PENDING j) (R.IRQ_PENDING j) 2 mask = true →
    Machine.exec (.irqSoftwareClear t (.ap m) j mask) s₀ = .next (s₀.after t (acts [storeNow (R.IRQ_PENDING j) 2 mask, answer (.ap m) 0 []]))) ∧
  (∀ (j : Nat) (mask : Word) (k : Nat),
    (whoOk (.ddp k) && decide (j < 32)) = true →
    s.keeps (.ddp k) (R.IRQ_PENDING j) (R.IRQ_PENDING j) 2 mask = true →
    Machine.exec (.irqSoftwareClear t (.ddp k) j mask) s₀ = .next (s₀.after t (acts [storeNow (R.IRQ_PENDING j) 2 mask, answer (.ddp k) 0 []]))) ∧
  (∀ (w : Who) (v : Word),
    whoOk w = true →
    s.stores w R.IRQ_MODE v = true →
    Machine.exec (.irqMode t w v) s₀ = .next (s₀.after t (acts [storeNow R.IRQ_MODE 0 v, answer w 0 []]))) ∧
  (∀ (m : Nat) (x : Nat),
    masterOk m = true →
    s.reads m (R.CX_CLAIM x) = some (R.CX_CLAIM x) →
    Machine.exec (.cxClaim t m x) s₀ = .next (s₀.after t (acts [claim x, answer (.ap m) 0 [BitVec.ofNat 64 (s.live (R.CX_CLAIM x))]]))) ∧
  (∀ (m : Nat) (x : Nat) (src : Word),
    masterOk m = true →
    s.keeps (.ap m) (R.CX_COMPLETE x) (R.CX_COMPLETE x) 0 src = true →
    Machine.exec (.cxComplete t m x src) s₀ = .next (s₀.after t (acts [storeNow (R.CX_COMPLETE x) 0 src, answer (.ap m) 0 []]))) ∧
  (∀ (v : Nat),
    (decide (v < 64)) = true →
    s.blockUp 14 = true →
    Machine.exec (.msixUnmask t v) s₀ = .next (s₀.after t (acts [
  setIrq fun q => { q with msixMask := clrBit q.msixMask v, pba := clrBit q.pba v },
  onlyIf (bit? s.eng.irq.pba v) (emit (.msix v))]))) ∧
  (∀ (m : Nat),
    masterOk m = true →
    s.reads m (R.EV_POP 0) = some (R.EV_POP 0) →
    Machine.exec (.evPop t m) s₀ = .next (s₀.after t (acts [evPop, .read fun s => acts [latchRest (.ap m) (R.EV_POP 0) 4, answer (.ap m) 0 [BitVec.ofNat 64 (s.live (R.EV_POP 0))]]]))) ∧
  (∀ (k : Nat) wrap hit iv,
    timerOk k = true →
    wrap = (s.rd (R.TM_COUNT k) == 0) →
    hit = s.tickMatches k →
    iv = (if wrap then s.rdi (R.TM_INTERVAL k) else (s.timer k).interval) →
    ¬(!(s.ticking k) || decide (s.now < (s.timer k).due)) →
    Machine.exec (.timerTick t k) s₀ = .next (s₀.after t (acts [
    setTimer k fun x => { x with due := x.due + s.tickTime k },
    match s.nextCount k with
    | none => acts [wrFld (R.TM_CTRL k) 0 0 0, timerPhase k true]
    | some c => acts [wr (R.TM_COUNT k) c, setTimer k fun x => { x with interval := iv },
        wri (R.TM_CMP k) (if hit && bit? (s.rd (R.TM_CTRL k)) 10 then (s.nextCmp k : Int) + iv else (s.nextCmp k : Int))],
    timerFlags k wrap hit]))) ∧
  (∀ (k : Nat) wrap hit iv,
    timerOk k = true →
    (s.rd (R.TM_COUNT k) == 0) = true →
    wrap = (s.rd (R.TM_COUNT k) == 0) →
    hit = s.tickMatches k →
    iv = (if wrap then s.rdi (R.TM_INTERVAL k) else (s.timer k).interval) →
    ¬(!(s.ticking k) || decide (s.now < (s.timer k).due)) →
    Machine.exec (.timerWrap t k) s₀ = .next (s₀.after t (acts [
    setTimer k fun x => { x with due := x.due + s.tickTime k },
    match s.nextCount k with
    | none => acts [wrFld (R.TM_CTRL k) 0 0 0, timerPhase k true]
    | some c => acts [wr (R.TM_COUNT k) c, setTimer k fun x => { x with interval := iv },
        wri (R.TM_CMP k) (if hit && bit? (s.rd (R.TM_CTRL k)) 10 then (s.nextCmp k : Int) + iv else (s.nextCmp k : Int))],
    timerFlags k wrap hit]))) ∧
  (∀ (k : Nat) wrap hit iv,
    timerOk k = true →
    (s.tickMatches k) = true →
    wrap = (s.rd (R.TM_COUNT k) == 0) →
    hit = s.tickMatches k →
    iv = (if wrap then s.rdi (R.TM_INTERVAL k) else (s.timer k).interval) →
    ¬(!(s.ticking k) || decide (s.now < (s.timer k).due)) →
    Machine.exec (.timerMatch t k) s₀ = .next (s₀.after t (acts [
    setTimer k fun x => { x with due := x.due + s.tickTime k },
    match s.nextCount k with
    | none => acts [wrFld (R.TM_CTRL k) 0 0 0, timerPhase k true]
    | some c => acts [wr (R.TM_COUNT k) c, setTimer k fun x => { x with interval := iv },
        wri (R.TM_CMP k) (if hit && bit? (s.rd (R.TM_CTRL k)) 10 then (s.nextCmp k : Int) + iv else (s.nextCmp k : Int))],
    timerFlags k wrap hit]))) ∧
  (∀ (w : Who) (k : Nat) u,
    whoOk w = true →
    s.takes w (R.TM_CMD k) 1 = true →
    u = (wr (R.TM_CMD k) 0).run s →
    Machine.exec (.tmCmd t w k) s₀ = .next (s₀.after t (acts [wr (R.TM_CMD k) 0, acts [
  wr (R.TM_COUNT k) (u.rd (R.TM_RELOAD k)), wr (R.TM_CMP k) (u.rd (R.TM_CMP_PRE k)),
  setTimer k fun x => { x with interval := u.rdi (R.TM_INTERVAL k) }], answer w 0 []]))) ∧
  (∀ (w : Who) (k : Nat) (v : Word),
    whoOk w = true →
    s.stores w (R.TM_CTRL k) v = true →
    Machine.exec (.tmCtrl t w k v) s₀ = .next (s₀.after t (acts [storeNow (R.TM_CTRL k) 0 v, answer w 0 []])))

/-- Where the commands of resets, boot and watchdogs complete, and with what effect. From every state in which all that is due by the instant `t`
has come, with operands that meet the conditions of its clause, each command answers the next state that its own effect leaves; the
clause gives the whole next state, and with it all that stays. -/
def Obligations.ResetsComplete : Prop :=
  ∀ (s₀ s : State) (t : Nat), s = s₀.ready t →
  (∀ (mv : Nat) (tied : Bool),
    mv < 1700 →
    Machine.exec (.vbatPor t mv tied) s₀ = .next (s₀.after t (acts [setRst fun g => { g with power := 3, since := s.now, pwrEn := true }, assertSrc ⟨0, 4, 0, none, false⟩]))) ∧
  (∀ (mv : Nat) (tied : Bool),
    ¬ (mv < 1700) →
    s.eng.rst.power = 3 →
    Machine.exec (.vbatPor t mv tied) s₀ = .next (s₀.after t (acts [
      setRst fun g => { g with power := 0, since := s.now, tied := tied, rtc := (0, s.now), pwrEn := true },
      mainPor, releaseSrcs fun x => x.cause == 0]))) ∧
  (∀ (pins : Nat) (mv : List Nat),
    (pinsOk pins && decide (mv.length = 24)) = true →
    (s.eng.rst.power == 0 || s.eng.rst.power == 3) = true →
    Machine.exec (.railsGood t pins mv) s₀ = .next (s₀.after t (acts [
  onlyIf (s.eng.rst.power == 3 && decide ((railThresholds 0 false).1 ≤ mv.getD 0 0)) mainPor,
  forAll mv.zipIdx fun x => railRises x.2 x.1,
  fuseLoader,
  .read fun s => onlyIf (s.eng.rst.low == 0) (acts [
    setRst fun g => { g with srcs := g.srcs.map fun x =>
      if x.cause = 2 ∧ x.ends = none then { x with ends := some (s.now + 1000000) } else x },
    releaseWith pins fun x => x.cause == 1])]))) ∧
  (∀ (mv : List (Nat × Nat)),
    ((mv.all fun x => decide (x.1 < 24)) = true) →
    (s.railsFall mv != 0) = true →
    Machine.exec (.brownOut t mv) s₀ = .next (s₀.after t (acts [
  onlyIf s.noReset (setRst fun g => { g with rails := 0 }),
  setRst fun g => { g with low := bor g.low (s.railsFall mv) },
  assertSrc ⟨2, 3, 0, none, false⟩,
  setRst fun g => { g with rails := bor g.rails (s.railsFall mv) }]))) ∧
  (∀ (pins : Nat) (held : Nat),
    pinsOk pins = true →
    ¬(held < 1000) →
    Machine.exec (.resetNAssert t pins held) s₀ = .next (s₀.after t (acts [setRst fun g => { g with resetIn := false }, assertSrc ⟨3, 2, 0, none, false⟩]))) ∧
  (∀ (pins : Nat) (held : Nat),
    pinsOk pins = true →
    ¬(held < 1000) →
    Machine.exec (.resetNRelease t pins held) s₀ = .next (s₀.after t (acts [setRst fun g => { g with resetIn := true }, releaseWith pins fun x => x.cause == 3]))) ∧
  (∀ (d : Nat),
    domainOk d = true →
    (s.eng.rst.mapped && decide (d < 11)) = true →
    Machine.exec (.pllLock t d) s₀ = .next (s₀.after t (setRst fun g => { g with locked := setBit g.locked d }))) ∧
  (∀ (d : Nat) (pins : Nat),
    (domainOk d && pinsOk pins) = true →
    Machine.exec (.clockGood t d pins) s₀ = .next (s₀.after t (onlyIf (decide (11 ≤ d) || bit? s.eng.rst.locked d) <|
  let waiting := (List.range 17).filter fun b => s.rd (R.BL_STATE b) == 3 && blockDomain b == d && !(s.blockHeld b)
  acts [wr (R.CK_GOOD d) 1,
    forAll waiting fun b => acts [wr (R.BL_STATE b) 2, setRst fun g => { g with opening := g.opening ++ [b] }],
    releaseWith pins fun x => (x.cause == 4 && x.target == d) || (x.cause == 13 && failBlock d == some x.target)]))) ∧
  (∀ (pins : Nat) (cap : Nat) (a : List Nat) (b : List Nat),
    (pinsOk pins && capOk cap) = true →
    (s.rd (R.CK_GOOD 0) == 1 && s.rd (R.CK_GOOD 4) == 1 && !s.eng.rst.trained) = true →
    Machine.exec (.dramTrained t pins cap a b) s₀ = .next (s₀.after t (match [5600, 4800, 4000, 3200].find? fun v => a.contains v && b.contains v with
     | none => setRst fun g => { g with fault := true }
     | some v => acts [wr R.MC_SPEED v, wr R.MC_CAPACITY (cap * 2 ^ 30), wr (R.CK_FREQ 4) (v * 250),
        setRst fun g => { g with trained := true, fault := false }, releaseWith pins fun _ => false]))) ∧
  (∀ (bank : Nat),
    (decide (bank < 2)) = true →
    s.eng.rst.stage = 2 →
    s.flashBoot = true →
    s.rd R.BT_STAGE = 0 →
    s.mayBoot bank = true →
    Machine.exec (.bootImageVerified t bank) s₀ = .next (s₀.after t (acts [
      setUp fun g => { g with run := g.banks.at bank [] }, showImage, wr R.UP_BANK bank, bootCounts bank, bootEnds,
      match s.bootRec with
      | some r => onlyIf (r.bank != bank) (raise 0x1206 0 bank)
      | none => .skip]))) ∧
  (∀ (bank : Nat),
    (decide (bank < 2)) = true →
    s.eng.rst.stage = 2 →
    s.flashBoot = false →
    s.rd R.BT_STAGE = 2 →
    Machine.exec (.bootImageVerified t bank) s₀ = .next (s₀.after t (if s.bootStatus s.eng.rst.image ≠ 0 then .skip
      else acts [setUp fun g => { g with run := s.eng.rst.image }, showImage, wr R.UP_BANK 255, wr R.UP_RUN_STATE 0, bootEnds]))) ∧
  (((s.eng.rst.stage == 2 && s.rd R.BT_STAGE == 0 &&
    [0, 1].all fun k => (s.eng.up.banks.at k []).isEmpty || !(s.bankBoots k)) = true) →
    Machine.exec (.bootFailed t) s₀ = .next (s₀.after t (acts [
  wr R.BT_STAGE 4, setRst fun g => { g with stage := 3, fault := true }]))) ∧
  (∀ (w : Who) (n : Word) u off,
    whoOk w = true →
    s.takes w R.BT_WRITE n = true →
    u = (wr R.BT_WRITE 0).run s →
    off = u.rd R.BT_OFFSET →
    Machine.exec (.btWrite t w n) s₀ = .next (s₀.after t (acts [wr R.BT_WRITE 0, acts [setRst fun g => { g with image := patch g.image off (u.dataOctets R.BT_DATA n.toNat) }, wr R.BT_OFFSET (off + n.toNat)], answer w 0 []]))) ∧
  (∀ (w : Who) (len : Word),
    whoOk w = true →
    s.takes w R.BT_DONE len = true →
    Machine.exec (.btDone t w len) s₀ = .next (s₀.after t (acts [wr R.BT_DONE 0, acts [setRst fun g => { g with image := g.image.take len.toNat }, wr R.BT_STAGE 2], answer w 0 []]))) ∧
  ((s.eng.rst.stage == 2 && s.rd R.BT_STAGE == 2 && s.bootStatus s.eng.rst.image != 0) = true →
    Machine.exec (.bootImageRefused t) s₀ = .next (s₀.after t (acts [ wr R.BT_STAGE 1, raise 0x020A 0 0]))) ∧
  (∀ (meas : List (Nat × Nat)),
    Machine.exec (.clockWindow t meas) s₀ = .next (s₀.after t (forAll meas fun m => .read fun s =>
  let d := m.1
  let n := s.eng.rst.bad.at d 0 + 1
  acts [wr (R.CK_FREQ d) (m.2 / 1000),
    if ¬ s.clockJudged d then .skip
    else if s.clockPasses d m.2 then setRst fun g => { g with bad := g.bad.clear d }
    else if n < 2 then setRst fun g => { g with bad := g.bad.set d n }
    else acts [setRst fun g => { g with bad := g.bad.clear d }, clockFails d]]))) ∧
  (∀ (last : Nat),
    (s.rd R.BT_STAGE == 3 && decide (last + 1000000000 ≤ s.now)) = true →
    Machine.exec (.smWatchdogExpiry t last) s₀ = .next (s₀.after t (pulse 5 2 0))) ∧
  (∀ (cycles : Nat),
    (lockedUp cycles && s.eng.rst.stage != 1 && s.eng.rst.stage != 3 && !(s.eng.flt.halted.contains 8)) = true →
    Machine.exec (.smLockup t cycles) s₀ = .next (s₀.after t (pulse 6 2 0))) ∧
  (∀ (c : Nat),
    coreOk c = true →
    (s.wdExpired c) = true →
    Machine.exec (.acWatchdogExpiry t c) s₀ = .next (s₀.after t (corePulse 32 c))) ∧
  (∀ (c : Nat) (cycles : Nat),
    coreOk c = true →
    (lockedUp cycles && s.rd (R.AC_STATE c) == 0 && !(s.eng.flt.halted.contains c)) = true →
    Machine.exec (.acLockup t c cycles) s₀ = .next (s₀.after t (corePulse 40 c))) ∧
  (∀ (w : Who) (c : Nat) u,
    whoOk w = true →
    s.takes w (R.AC_WD_KICK c) 1 = true →
    u = (wr (R.AC_WD_KICK c) 0).run s →
    Machine.exec (.acWdKick t w c) s₀ = .next (s₀.after t (acts [wr (R.AC_WD_KICK c) 0, setRst fun g => { g with kicks := g.kicks.set c (if u.eng.flt.halted.contains c then 0 else u.now) }, answer w 0 []]))) ∧
  (∀ (w : Who),
    whoOk w = true →
    s.takes w R.LEGACY_RESET 0x5A = true →
    Machine.exec (.legacyReset t w) s₀ = .next (s₀.after t (acts [wr R.LEGACY_RESET 0, askReset ⟨7, 2, 0, some 0, false⟩, answer w 0 []]))) ∧
  (∀ (w : Who) (c : Nat) (hold : Bool),
    (whoOk w && decide (c < 32)) = true →
    s.takes w R.RS_REQ (resetWord 0 c hold) = true →
    Machine.exec (.rsReqCore t w c hold) s₀ = .next (s₀.after t (acts [wr R.RS_REQ 0, assertSrc ⟨8, 0, c, if hold then none else some (s.now + 1000), hold⟩, answer w 0 []]))) ∧
  (∀ (w : Who) (blk : Nat) (hold : Bool),
    (whoOk w && decide (blk < 32)) = true →
    s.takes w R.RS_REQ (resetWord 1 blk hold) = true →
    Machine.exec (.rsReqBlock t w blk hold) s₀ = .next (s₀.after t (acts [wr R.RS_REQ 0, assertSrc ⟨8, 1, blk, if hold then none else some (s.now + 1000), hold⟩, answer w 0 []]))) ∧
  (∀ (w : Who),
    whoOk w = true →
    s.takes w R.RS_REQ (resetWord 2 0 false) = true →
    Machine.exec (.rsReqSystem t w) s₀ = .next (s₀.after t (acts [wr R.RS_REQ 0, askReset ⟨8, 2, 0, some (s.now + 1000), false⟩, answer w 0 []]))) ∧
  (∀ (w : Who),
    whoOk w = true →
    s.takes w R.RS_REQ (resetWord 3 0 false) = true →
    Machine.exec (.rsReqChip t w) s₀ = .next (s₀.after t (acts [wr R.RS_REQ 0, askReset ⟨8, 3, 0, some (s.now + 1000), false⟩, answer w 0 []]))) ∧
  (∀ (w : Who),
    whoOk w = true →
    s.takes w R.RS_REQ (resetWord 4 0 false) = true →
    Machine.exec (.rsReqBackup t w) s₀ = .next (s₀.after t (acts [wr R.RS_REQ 0, askReset ⟨8, 4, 0, some (s.now + 1000), false⟩, answer w 0 []]))) ∧
  (∀ (w : Who) (reach : Nat) (target : Nat),
    (whoOk w && decide (reach < 8) && decide (target < 32)) = true →
    s.takes w R.RS_RELEASE (resetWord reach target false) = true →
    Machine.exec (.rsRelease t w reach target) s₀ = .next (s₀.after t (acts [wr R.RS_RELEASE 0, releaseSrcs fun x => x.hold && x.reach == reach && x.target == target, answer w 0 []]))) ∧
  (∀ (hart : Nat) (active : Bool) (pins : Nat) (x : RstSrc),
    (decide (hart ≤ 10) && pinsOk pins) = true →
    x = (if hart < 8 then ⟨10, 0, hart, none, false⟩ else ⟨10, 2, hart, none, false⟩) →
    ¬(¬ s.debugOpen (if hart = 10 then 0 else hart)) →
    Machine.exec (.debugResetRequest t hart active pins) s₀ = .next (s₀.after t (if active then assertSrc x else releaseWith pins fun y => y.cause == 10 && y.reach == x.reach && y.target == x.target))) ∧
  (∀ (pins : Nat),
    pinsOk pins = true →
    Machine.exec (.resetPulseEnd t pins) s₀ = .next (s₀.after t (releaseWith pins fun x => match x.ends with
    | some u => decide (u ≤ s.now)
    | none => false))) ∧
  (∀ (blk : Nat) (iso : Nat),
    resetBlockOk blk = true →
    (s.rd (R.BL_STATE blk) == 1) = true →
    Machine.exec (.blockResetAssert t blk iso) s₀ = .next (s₀.after t (acts [addTo (R.BL_ISO_ERR blk) iso, wr (R.BL_STATE blk) 2, settle]))) ∧
  (∀ (blk : Nat),
    resetBlockOk blk = true →
    (s.eng.rst.opening.contains blk) = true →
    Machine.exec (.wrapperOpen t blk) s₀ = .next (s₀.after t (acts [
    setRst fun g => { g with opening := g.opening.filter (· != blk) },
    wr (R.BL_STATE blk) 0, raise 0x0203 blk blk, blockOpens blk, clockLevel]))) ∧
  (∀ (c : Nat),
    coreOk c = true →
    s.coreHeld c = true →
    Machine.exec (.coreReset t c) s₀ = .next (s₀.after t (acts [
    forAll [2 * c, 2 * c + 1] fun x => acts [
      forAll ((s.eng.irq.claimant.filter fun e => e.2 == x).map (·.1)) completeSource,
      wr (R.CX_THRESHOLD x) 0, followRequest x],
    forAll [2 * c, 2 * c + 1] fun m => acts [dropMaster m, thawMaster m],
    wr (R.AC_STATE c) 3])))

/-- Where the commands of power, backup and sensors complete, and with what effect. From every state in which all that is due by the instant `t`
has come, with operands that meet the conditions of its clause, each command answers the next state that its own effect leaves; the
clause gives the whole next state, and with it all that stays. -/
def Obligations.PowerComplete : Prop :=
  ∀ (s₀ s : State) (t : Nat), s = s₀.ready t →
  (∀ (wfi : Nat),
    ((wfi % 256 == 255 && s.rd R.PW_STATE == 0 && s.rd R.PW_DOZE_EN == 1 && s.blockUp 0 &&
    (List.range 16).all fun x => (s.eligibleFor x).isEmpty) = true) →
    Machine.exec (.dozeEntry t wfi) s₀ = .next (s₀.after t (acts [ wr R.PW_STATE 1, forAll (List.range 8) fun c => onlyIf (s.rd (R.AC_STATE c) == 0) (wr (R.AC_STATE c) 1)]))) ∧
  (∀ (halt : Bool),
    ((s.rd R.PW_STATE == 1 &&
    (halt || s.rd R.PW_DOZE_EN == 0 || (List.range 16).any fun x => s.rd (R.CX_REQUEST x) == 1)) = true) →
    Machine.exec (.dozeExit t halt) s₀ = .next (s₀.after t (acts [ wr R.PW_STATE 0, forAll (List.range 8) fun c => onlyIf (s.rd (R.AC_STATE c) == 1) (wr (R.AC_STATE c) 0)]))) ∧
  (∀ (mv : Nat),
    (s.eng.rst.power == 0 && decide (mv < s.rd R.PW_PFAIL_THR)) = true →
    Machine.exec (.pfailWarning t mv) s₀ = .next (s₀.after t (acts [ setLevel 7 true, raise 0x0206 0 0, onlyIf (s.eng.rst.latched.getD 0 0 == 1) (acts [wr R.PW_STATE 2, muteFor 5, writeRecord, latchWake, powerDown 1])]))) ∧
  (∀ (mv : Nat) (held : Nat),
    (decide (s.rd R.PW_PFAIL_THR + 50 < mv) && decide (s.rd R.PW_MAINS_GOOD ≤ held)) = true →
    Machine.exec (.mainsGood t mv held) s₀ = .next (s₀.after t (acts [setLevel 7 false, onlyIf (s.eng.rst.power == 1) (powerUp false)]))) ∧
  (∀ h,
    h = s.eng.rst.latched.getD 1 0 →
    (s.eng.rst.power == 1 && h != 0 && decide (s.eng.rst.since + h * 1000000000 ≤ s.now)) = true →
    Machine.exec (.holdAfterExpiry t) s₀ = .next (s₀.after t (acts [
    setRst fun g => { g with power := 2, since := s.now }, setRadio fun g => { g with wake := none },
    onlyIf (s.eng.rst.latched.getD 2 0 == 0) rtcInvalid]))) ∧
  (∀ (mv : Nat),
    (s.eng.rst.power == 2 && decide (1000 < mv)) = true →
    Machine.exec (.holdExit t mv) s₀ = .next (s₀.after t (powerUp false))) ∧
  (∀ (w : Who) u,
    whoOk w = true →
    s.takes w R.PW_CMD 1 = true →
    u = (wr R.PW_CMD 0).run s →
    Machine.exec (.pwCmd t w) s₀ = .next (s₀.after t (acts [wr R.PW_CMD 0, acts [writeRecord, onlyIf (u.eng.rst.latched.getD 2 0 == 0) rtcInvalid, powerDown 2], answer w 0 []]))) ∧
  (∀ (n : Nat) (held : Nat) cfg,
    (decide (n < 2)) = true →
    cfg = s.rd R.BK_TAMPER_CFG →
    (s.eng.rst.power != 3 && decide (100000 ≤ held) && decide (n < 2) && bit? cfg n && !(bit? (s.rd R.BK_TAMPER) n)) = true →
    Machine.exec (.tamperLatch t n held) s₀ = .next (s₀.after t (acts [
    wr R.BK_TAMPER (setBit (s.rd R.BK_TAMPER) n), setLevel 6 true,
    .read fun s => raise 0x0208 0 (s.rd R.BK_TAMPER),
    onlyIf (bit? cfg 8) (acts [forAll (List.range 16) fun k => wr ⟨0x0240, 0, k⟩ 0, setRst fun g => { g with sram := [] }])]))) ∧
  (∀ (w : Who) (high : Nat) u left,
    whoOk w = true →
    s.takes w R.BK_TAMPER_CLR 1 = true →
    u = (wr R.BK_TAMPER_CLR 0).run s →
    left = bclr (u.rd R.BK_TAMPER) (high % 4) →
    Machine.exec (.bkTamperClr t w high) s₀ = .next (s₀.after t (acts [wr R.BK_TAMPER_CLR 0, acts [wr R.BK_TAMPER left, onlyIf (left == 0) (setLevel 6 false)], answer w 0 []]))) ∧
  (∀ (w : Who) u,
    whoOk w = true →
    s.takes w R.RTC_CMD 1 = true →
    u = (wr R.RTC_CMD 0).run s →
    Machine.exec (.rtcCmdSet t w) s₀ = .next (s₀.after t (acts [wr R.RTC_CMD 0, acts [
  setRst fun g => { g with rtc := (u.devTime * 32768 / uSec, u.now) }, wr R.RTC_VALID 1], answer w 0 []]))) ∧
  (∀ (w : Who) u,
    whoOk w = true →
    s.takes w R.RTC_CMD 2 = true →
    u = (wr R.RTC_CMD 0).run s →
    (u.rd R.RTC_VALID == 1) = true →
    Machine.exec (.rtcCmdInvalidate t w) s₀ = .next (s₀.after t (acts [wr R.RTC_CMD 0, acts [wr R.RTC_VALID 0, raise 0x0209 0 0], answer w 0 []]))) ∧
  ((s.rd R.RTC_AUTO == 1 && s.rd R.SV_STATE == 2 &&
  (s.rd R.RTC_VALID == 0 || decide (s.eng.rst.rtc.2 + 1000000000 ≤ s.now))) = true →
    Machine.exec (.rtcAutoSet t) s₀ = .next (s₀.after t rtcSet)) ∧
  ((s.eng.rst.latched.getD 2 0 == 1) = true →
    Machine.exec (.crystalFail t) s₀ = .next (s₀.after t (bclkSource 0))) ∧
  (∀ (temp : Int) warn trip was hot,
    warn = s.rdi R.TH_WARN →
    trip = s.rdi R.TH_TRIP →
    was = bit? s.eng.irq.levels 3 →
    hot = (if was then decide (trip - 20 < temp) else decide (trip ≤ temp)) →
    Machine.exec (.thermalSample t temp) s₀ = .next (s₀.after t (acts [wri R.TH_TEMP temp,
    onlyIf (!(s.eng.rst.warned) && decide (warn ≤ temp)) (acts [setRst fun g => { g with warned := true }, raise 0x020B 0 (unsgn 32 temp)]),
    onlyIf (s.eng.rst.warned && decide (temp ≤ warn - 20)) (setRst fun g => { g with warned := false }),
    onlyIf (hot && !was) (acts [lapse 2, raise 0x020C 0 (unsgn 32 temp)]),
    setLevel 3 hot,
    if hot && s.rd R.TH_MUTE == 1 then muteFor 2 else unmuteFor 2])))

/-- Where the commands of device update complete, and with what effect. From every state in which all that is due by the instant `t`
has come, with operands that meet the conditions of its clause, each command answers the next state that its own effect leaves; the
clause gives the whole next state, and with it all that stays. -/
def Obligations.UpdatesComplete : Prop :=
  ∀ (s₀ s : State) (t : Nat), s = s₀.ready t →
  (∀ (w : Who) (n : Word) u off,
    whoOk w = true →
    s.takes w R.UP_WRITE n = true →
    u = (wr R.UP_WRITE 0).run s →
    off = u.rd R.UP_OFFSET →
    Machine.exec (.upWrite t w n) s₀ = .next (s₀.after t (acts [wr R.UP_WRITE 0, acts [setUp fun g => { g with area := patch g.area off (u.dataOctets R.UP_DATA n.toNat) },
    wr R.UP_LENGTH (max (if u.rd R.UP_STATE = 0 then 0 else u.rd R.UP_LENGTH) (off + n.toNat)), wr R.UP_OFFSET (off + n.toNat), wr R.UP_STATE 1], answer w 0 []]))) ∧
  (∀ (w : Who) u,
    whoOk w = true →
    s.takes w R.UP_CMD 1 = true →
    u = (wr R.UP_CMD 0).run s →
    [1, 3, 4].contains (u.rd R.UP_STATE) →
    (u.jobs 4).length < 4096 →
    Machine.exec (.upCmdVerify t w) s₀ = .next (s₀.after t (acts [wr R.UP_CMD 0, acts [setJobs 4 (u.jobs 4 ++ [.update]), acts [wr R.UP_STATE 2, upStatus 0]], answer w 0 []]))) ∧
  (∀ (flashOk : Bool) o st good,
    ¬(s.rd R.UP_STATE ≠ 2 ∨ ((s.jobs 4).contains .update ∧ ¬ s.nextJob.any fun x => x.2.1 == .update)) →
    o = s.eng.up.area.take (s.rd R.UP_LENGTH) →
    st = s.updateStatus o →
    good = (acts [wr R.UP_STATE 3, upStatus 0, wr R.UP_STAGED_VER (imgField o 28 4), wr R.UP_STAGED_SCHEMA (imgField o 16 4),
      raise 0x1201 0 (imgField o 28 4)]) →
    Machine.exec (.upVerifyDone t flashOk) s₀ = .next (s₀.after t (acts [endJob 4 .update,
      onlyIf (s.keyServes 3 opVerify && imageForm (s.rd R.SI_REV) o) (keyStarts 3),
      onlyIf (s.keyServes 4 opVerify && (st == 0 || decide (4 ≤ st))) (keyStarts 4),
      if st ≠ 0 then upBad st
      else if s.flashBoot then acts [setUp fun g => { g with banks := g.banks.set s.spareBank o }, if flashOk then good else upBad 11]
      else good]))) ∧
  (∀ (w : Who) u kind,
    whoOk w = true →
    s.takes w R.UP_CMD 2 = true →
    u = (wr R.UP_CMD 0).run s →
    kind = u.rd R.UP_INSTANT →
    ¬(u.rd R.UP_STATE ≠ 3) →
    ¬(u.armFault ≠ 0) →
    ¬(!(u.instantOk kind (u.rd R.UP_ASN % 2 ^ 40) (u.rdTime (R.UP_TIME 0))) || (kind != 0 && decide (u.upInstant ≤ u.devTime))) →
    Machine.exec (.upCmdArm t w) s₀ = .next (s₀.after t (acts [wr R.UP_CMD 0, acts [wr R.UP_STATE 5, upStatus 0, setUp fun g => { g with
    armed := some (kind, if kind = 1 then u.rd R.UP_ASN % 2 ^ 40 else u.upInstant) }, raise 0x1203 0 kind], answer w 0 []]))) ∧
  (∀ (w : Who) u,
    whoOk w = true →
    s.takes w R.UP_CMD 3 = true →
    u = (wr R.UP_CMD 0).run s →
    ¬(u.rd R.UP_STATE ≠ 5) →
    Machine.exec (.upCmdDisarm t w) s₀ = .next (s₀.after t (acts [wr R.UP_CMD 0, acts [wr R.UP_STATE 3, upStatus 0, setUp fun g => { g with armed := none }], answer w 0 []]))) ∧
  (∀ (w : Who) u,
    whoOk w = true →
    s.takes w R.UP_CMD 4 = true →
    u = (wr R.UP_CMD 0).run s →
    [0, 1, 3, 4].contains (u.rd R.UP_STATE) →
    Machine.exec (.upCmdDiscard t w) s₀ = .next (s₀.after t (acts [wr R.UP_CMD 0, acts [wr R.UP_STATE 0, upStatus 0, wr R.UP_LENGTH 0, setUp fun g => { g with area := [] }], answer w 0 []]))) ∧
  (∀ (w : Who) u,
    whoOk w = true →
    s.takes w R.UP_CMD 5 = true →
    u = (wr R.UP_CMD 0).run s →
    ¬(u.rd R.UP_RUN_STATE ≠ 1) →
    Machine.exec (.upCmdConfirm t w) s₀ = .next (s₀.after t (acts [wr R.UP_CMD 0, acts [
    onlyIf u.flashBoot (match u.bootRec with
      | some r => putRecord r.bank true r.tries
      | none => .skip),
    wr R.UP_FLOOR (max (u.rd R.UP_FLOOR) (imgField u.runImage 24 4)), wr R.UP_RUN_STATE 0, upStatus 0,
    raise 0x1205 0 (u.rd R.UP_RUN_VER)], answer w 0 []]))) ∧
  (∀ (rf : Nat) (bh : Nat) a,
    s.eng.up.armed = some a →
    ¬(s.rd R.UP_STATE ≠ 5 ∨ s.devTime < s.armedAt a) →
    ¬(s.armFault ≠ 0) →
    Machine.exec (.upActivation t rf bh) s₀ = .next (s₀.after t (acts [muteFor 4,
      if partsMatch s.staged then activate (min rf 300000) (min bh 300000)
      else acts [setUp fun g => { g with armed := none }, upBad 5, unmuteFor 4]])))

/-- Where the commands of the ledger, violations, dumps and fuses complete, and with what effect. From every state in which all that is due by the instant `t`
has come, with operands that meet the conditions of its clause, each command answers the next state that its own effect leaves; the
clause gives the whole next state, and with it all that stays. -/
def Obligations.FaultsComplete : Prop :=
  ∀ (s₀ s : State) (t : Nat), s = s₀.ready t →
  (∀ (upset : List Nat),
    ((upset.all fun q => decide (q < 800)) = true) →
    (s.auditing && s.auditDue) = true →
    Machine.exec (.ledgerAudit t upset) s₀ = .next (s₀.after t (acts [
  inc R.LG_AUDITS,
  setFlt fun g => { g with auditAt := some s.now, audit := (List.range 800).map fun q => (q, s.ledger q) },
  forAll (upset.filter fun q => decide (q < 800) && s.rd (R.LG_STATE q) == 0) mismatch]))) ∧
  (∀ (kind : Nat) (access : Nat) (addr : Nat),
    (decide (16 < 25) && decide (1 ≤ kind) && decide (kind < 4) && decide (access < 4)) = true →
    Machine.exec (.accessViolation t 16 kind access addr) s₀ = .next (s₀.after t (violationRecord 16 kind access addr fun _ => fatalError 5 addr))) ∧
  (∀ (m : Nat) (kind : Nat) (access : Nat) (addr : Nat),
    (decide (m < 25) && decide (1 ≤ kind) && decide (kind < 4) && decide (access < 4)) = true →
    m ≠ 16 →
    s.frozen m = false →
    Machine.exec (.accessViolation t m kind access addr) s₀ = .next (s₀.after t (violationRecord m kind access addr fun v => acts [setFlt fun g => { g with frozen := g.frozen.set m ⟨[], v⟩ }, wrBit R.VR_FROZEN m true, setLevel 5 true]))) ∧
  (∀ (m : Nat) (v : Nat),
    masterOk m = true →
    s.reads m (R.VR_WORD v) = some (R.VR_WORD v) →
    Machine.exec (.vrWordRead t m v) s₀ = .next (s₀.after t (acts [onlyIf (bit? (s.rd (R.VR_WORD v)) 63) (wrBit (R.VR_WORD v) 62 true), answer (.ap m) 0 [BitVec.ofNat 64 (s.live (R.VR_WORD v))]]))) ∧
  (∀ (w : Who) (v : Word) u m,
    whoOk w = true →
    s.takes w R.VR_RELEASE v = true →
    u = (wr R.VR_RELEASE 0).run s →
    m = fld (u.rd (R.VR_WORD v.toNat)) 55 48 →
    Machine.exec (.vrRelease t w v) s₀ = .next (s₀.after t (acts [wr R.VR_RELEASE 0, acts [if u.frozen m then unfreeze m resumeAll else freeRecord v.toNat, raise 0x1304 m (m * 256)], answer w 0 []]))) ∧
  (∀ (cause : Nat) (detail : Nat),
    (causeOk cause && decide (detail < 2 ^ 64)) = true →
    s.eng.flt.dump = none →
    Machine.exec (.fatalError t cause detail) s₀ = .next (s₀.after t (acts [setFlt fun g => { g with fatal := true, seq := g.seq + 1, dump := some ⟨0, cause, detail, 0, s.devTime, s.now⟩ },
      setLevel 4 true, muteFor 3, raise 0x1306 0 cause]))) ∧
  (∀ (cause : Nat) (detail : Nat) d,
    (causeOk cause && decide (detail < 2 ^ 64)) = true →
    s.eng.flt.dump = some d →
    Machine.exec (.fatalError t cause detail) s₀ = .next (s₀.after t (setFlt fun g => { g with dump := some { d with follow := min 255 (d.follow + 1) } }))) ∧
  (∀ (w : Who) (v : Word) u,
    whoOk w = true →
    s.takes w R.FT_DECLARE v = true →
    u = (wr R.FT_DECLARE 0).run s →
    u.eng.flt.dump = none →
    Machine.exec (.ftDeclare t w v) s₀ = .next (s₀.after t (acts [wr R.FT_DECLARE 0, acts [setFlt fun g => { g with fatal := true, seq := g.seq + 1, dump := some ⟨0, 6, v.toNat, 0, u.devTime, u.now⟩ },
      setLevel 4 true, muteFor 3, raise 0x1306 0 6], answer w 0 []]))) ∧
  (∀ (abandoned : Bool) (harts : List Nat) (sram : List Nat) d off,
    (words harts && words sram) = true →
    s.eng.flt.dump = some d →
    off = (abandoned || decide (d.since + 500000000 < s.now)) →
    Machine.exec (.dumpComplete t abandoned harts sram) s₀ = .next (s₀.after t (dumpEnds off (if off then [] else s.dumpWords d harts sram)))) ∧
  (∀ (w : Who) (e : Word),
    whoOk w = true →
    s.takes w R.FD_ERASE e = true →
    Machine.exec (.fdErase t w e) s₀ = .next (s₀.after t (acts [wr R.FD_ERASE 0, (wrs (R.FD_ENTRY e.toNat 0) (List.replicate 8 0)), answer w 0 []]))) ∧
  (∀ (w : Who) (k : Nat) (v : Word),
    whoOk w = true →
    s.stores w (R.PE_EN k) v = true →
    Machine.exec (.peEn t w k v) s₀ = .next (s₀.after t (acts [storeNow (R.PE_EN k) 0 v, answer w 0 []]))) ∧
  (∀ (point : Nat) (inst : Nat),
    (decide (point < 256)) = true →
    Machine.exec (.perturbationApply t point inst) s₀ = .next (s₀.after t (forAll ((List.range 16).filter fun k => s.rd (R.PE_EN k) == 1 && fld (s.rd (R.PE_POINT k)) 63 56 == point && fld (s.rd (R.PE_POINT k)) 15 0 == inst) perturbOne))) ∧
  (∀ (w : Who) u e c,
    whoOk w = true →
    s.takes w R.FX_FUSE_BURN 1 = true →
    u = (wr R.FX_FUSE_BURN 0).run s →
    e = u.rd R.FX_FUSE_ENTRY →
    c = u.fuseFault e (u.rd R.FX_FUSE_VALUE) →
    Machine.exec (.fxFuseBurn t w) s₀ = .next (s₀.after t (acts [wr R.FX_FUSE_BURN 0, acts [wr R.FX_FUSE_BURN c, if c = 0 then acts [wr (R.FX_FUSE_READ e) (u.rd R.FX_FUSE_VALUE), raise 0x1401 0 e] else raise 0x1402 0 (e + c * 256)], answer w 0 []]))) ∧
  (∀ (w : Who),
    whoOk w = true →
    s.takes w R.FX_RAW_CMD 1 = true →
    Machine.exec (.fxRawRead t w) s₀ = .next (s₀.after t (acts [wr R.FX_RAW_CMD 0, (takeFree fun v => wr R.FX_RAW_DATA v), answer w 0 []]))) ∧
  (∀ (w : Who) u,
    whoOk w = true →
    s.takes w R.FX_RAW_CMD 2 = true →
    u = (wr R.FX_RAW_CMD 0).run s →
    Machine.exec (.fxRawWrite t w) s₀ = .next (s₀.after t (acts [wr R.FX_RAW_CMD 0, acts [lapse 1, raise 0x1403 0 (fld (u.rd R.FX_RAW_ADDR) 60 56)], answer w 0 []])))

/-- Where the commands of debug and the TAP complete, and with what effect. From every state in which all that is due by the instant `t`
has come, with operands that meet the conditions of its clause, each command answers the next state that its own effect leaves; the
clause gives the whole next state, and with it all that stays. -/
def Obligations.DebugComplete : Prop :=
  ∀ (s₀ s : State) (t : Nat), s = s₀.ready t →
  (∀ (hart : Nat),
    hartOk hart = true →
    (s.debugOpen hart) = true →
    Machine.exec (.debugHalt t hart) s₀ = .next (s₀.after t (acts [dozeExit true, wdHold hart, debugHalt hart]))) ∧
  (∀ (hart : Nat),
    hartOk hart = true →
    (s.debugOpen hart) = true →
    Machine.exec (.debugResume t hart) s₀ = .next (s₀.after t (acts [wdResume hart, debugResume hart]))) ∧
  (∀ (addr : Nat) (v : Word) (r : Ref) (op : Nat) (c : Ref),
    s.debugOpen 0 = true →
    addr % 8 = 0 →
    0x4000000000 ≤ addr →
    addr < 0x4800000000 →
    apDecode addr = (r, op) →
    s.keeps (.ap 18) r c op v = true →
    Machine.exec (.debugSystemBusAccess t addr true v) s₀ = .next (s₀.after t (acts [storeNow c op v, answer (.ap 18) 0 []]))) ∧
  (∀ (addr : Nat) (v : Word) (r : Ref) q,
    s.debugOpen 0 = true →
    addr % 8 = 0 →
    0x4000000000 ≤ addr →
    addr < 0x4800000000 →
    apDecode addr = (r, 0) →
    s.reads 18 r = some q →
    Machine.exec (.debugSystemBusAccess t addr false v) s₀ = .next (s₀.after t (readMember (.ap 18) q fun v => answer (.ap 18) 0 [v]))) ∧
  (∀ (addr : Nat) (v : Word),
    s.debugOpen 0 = true →
    addr % 8 = 0 →
    0x20000000 ≤ addr →
    addr ≤ 0x20000FFF →
    s.frozen 18 = false →
    s.masterUp 18 = true →
    Machine.exec (.debugSystemBusAccess t addr true v) s₀ = .next (s₀.after t (acts [setRst fun g => { g with sram := g.sram.set (addr / 8) v.toNat }, answer (.ap 18) 0 []]))) ∧
  (∀ (addr : Nat) (v : Word),
    s.debugOpen 0 = true →
    addr % 8 = 0 →
    0x20000000 ≤ addr →
    addr ≤ 0x20000FFF →
    s.frozen 18 = false →
    s.masterUp 18 = true →
    Machine.exec (.debugSystemBusAccess t addr false v) s₀ = .next (s₀.after t (answer (.ap 18) 0 [BitVec.ofNat 64 (s.eng.rst.sram.at (addr / 8) 0)]))) ∧
  (Machine.exec (.tapIdcode t) s₀ = .next (s₀.after t (acts [setFlt fun g => { g with tap := 0x01 },
  emit (.tap 0x01 [0x19624987])]))) ∧
  (∀ (cells : List Nat),
    Machine.exec (.tapSamplePreload t cells) s₀ = .next (s₀.after t (acts [tapLoad 2, setFlt fun g => { g with cells := cells }]))) ∧
  (Machine.exec (.tapExtest t) s₀ = .next (s₀.after t (acts [setFlt fun g => { g with tap := 0x03 },
  emit (.tap 0x03 s.eng.flt.cells)]))) ∧
  (Machine.exec (.tapHighz t) s₀ = .next (s₀.after t (acts [setFlt fun g => { g with tap := 0x04 },
  emit (.tap 0x04 [])]))) ∧
  (Machine.exec (.tapClamp t) s₀ = .next (s₀.after t (acts [setFlt fun g => { g with tap := 0x05 },
  emit (.tap 0x05 [])]))) ∧
  (Machine.exec (.tapDtmcs t) s₀ = .next (s₀.after t (acts [setFlt fun g => { g with tap := 0x10 },
  emit (.tap 0x10 [])]))) ∧
  (Machine.exec (.tapDmi t) s₀ = .next (s₀.after t (acts [setFlt fun g => { g with tap := 0x11 },
  emit (.tap 0x11 [])]))) ∧
  (Machine.exec (.tapBypass t) s₀ = .next (s₀.after t (acts [setFlt fun g => { g with tap := 0xFF },
  emit (.tap 0xFF [])])))
end

