-- ==== Sys2Proof/Laws/State.lean ====
section
/-! SUPPORT. What each primitive effect leaves in each field of the state, and how actions run. -/

namespace Sys2Proof.Machine

open Sys2Proof

/-! ## Primitive effects, field by field -/

@[simp] theorem apply_wr_pending (r : Ref) (v : Word) (s : State) : ((Eff.wr r v).apply s).pending = s.pending := rfl
@[simp] theorem apply_wr_now (r : Ref) (v : Word) (s : State) : ((Eff.wr r v).apply s).now = s.now := rfl
@[simp] theorem apply_wr_out (r : Ref) (v : Word) (s : State) : ((Eff.wr r v).apply s).out = s.out := rfl
@[simp] theorem apply_wr_objs (r : Ref) (v : Word) (s : State) : ((Eff.wr r v).apply s).objs = Store.write s.objs r v := rfl
@[simp] theorem apply_wr_eng (r : Ref) (v : Word) (s : State) : ((Eff.wr r v).apply s).eng = s.eng := rfl

@[simp] theorem apply_reset_pending (k : Ref → Bool) (s : State) : ((Eff.reset k).apply s).pending = s.pending := rfl
@[simp] theorem apply_reset_now (k : Ref → Bool) (s : State) : ((Eff.reset k).apply s).now = s.now := rfl
@[simp] theorem apply_reset_out (k : Ref → Bool) (s : State) : ((Eff.reset k).apply s).out = s.out := rfl
@[simp] theorem apply_reset_objs (k : Ref → Bool) (s : State) :
    ((Eff.reset k).apply s).objs = s.objs.filter fun e => k e.1 := rfl
@[simp] theorem apply_reset_eng (k : Ref → Bool) (s : State) : ((Eff.reset k).apply s).eng = s.eng := rfl

@[simp] theorem apply_emit_pending (o : Out) (s : State) : ((Eff.emit o).apply s).pending = s.pending := rfl
@[simp] theorem apply_emit_now (o : Out) (s : State) : ((Eff.emit o).apply s).now = s.now := rfl
@[simp] theorem apply_emit_out (o : Out) (s : State) : ((Eff.emit o).apply s).out = s.out ++ [o] := rfl
@[simp] theorem apply_emit_objs (o : Out) (s : State) : ((Eff.emit o).apply s).objs = s.objs := rfl
@[simp] theorem apply_emit_eng (o : Out) (s : State) : ((Eff.emit o).apply s).eng = s.eng := rfl

@[simp] theorem apply_eng_pending (f : Engines → Engines) (s : State) : ((Eff.eng f).apply s).pending = s.pending := rfl
@[simp] theorem apply_eng_now (f : Engines → Engines) (s : State) : ((Eff.eng f).apply s).now = s.now := rfl
@[simp] theorem apply_eng_out (f : Engines → Engines) (s : State) : ((Eff.eng f).apply s).out = s.out := rfl
@[simp] theorem apply_eng_objs (f : Engines → Engines) (s : State) : ((Eff.eng f).apply s).objs = s.objs := rfl
@[simp] theorem apply_eng_eng (f : Engines → Engines) (s : State) : ((Eff.eng f).apply s).eng = f s.eng := rfl

@[simp] theorem apply_pass_pending (n : Nat) (s : State) : ((Eff.pass n).apply s).pending = s.pending := rfl
@[simp] theorem apply_pass_now (n : Nat) (s : State) : ((Eff.pass n).apply s).now = s.now + n := rfl
@[simp] theorem apply_pass_out (n : Nat) (s : State) : ((Eff.pass n).apply s).out = s.out := rfl
@[simp] theorem apply_pass_objs (n : Nat) (s : State) : ((Eff.pass n).apply s).objs = s.objs := rfl
@[simp] theorem apply_pass_eng (n : Nat) (s : State) : ((Eff.pass n).apply s).eng = s.eng := rfl

/-! ## The start of a command -/

@[simp] theorem tick_pending (s : State) (t : Nat) : (s.tick t).pending = s.pending := rfl
@[simp] theorem tick_now (s : State) (t : Nat) : (s.tick t).now = max s.now t := rfl
@[simp] theorem tick_out (s : State) (t : Nat) : (s.tick t).out = [] := rfl
@[simp] theorem tick_objs (s : State) (t : Nat) : (s.tick t).objs = s.objs := rfl
@[simp] theorem tick_eng (s : State) (t : Nat) : (s.tick t).eng = s.eng := rfl
@[simp] theorem tick_word (s : State) (t : Nat) (r : Ref) : (s.tick t).word r = s.word r := rfl
@[simp] theorem tick_rd (s : State) (t : Nat) (r : Ref) : (s.tick t).rd r = s.rd r := rfl
@[simp] theorem withFront_pending (s : State) (c : Instr) : (s.withFront c).pending = c :: s.pending := rfl

/-! ## Actions -/

@[simp] theorem run_skip (s : State) : Act.skip.run s = s := rfl
@[simp] theorem run_eff (e : Eff) (s : State) : (Act.eff e).run s = e.apply s := rfl
@[simp] theorem run_seq (a b : Act) (s : State) : (Act.seq a b).run s = b.run (a.run s) := rfl
@[simp] theorem run_read (f : State → Act) (s : State) : (Act.read f).run s = (f s).run s := rfl
@[simp] theorem run_acts_nil (s : State) : (acts []).run s = s := rfl
@[simp] theorem run_acts_cons (a : Act) (l : List Act) (s : State) : (acts (a :: l)).run s = (acts l).run (a.run s) := rfl
@[simp] theorem run_forAll_nil {α : Type} (f : α → Act) (s : State) : (forAll [] f).run s = s := rfl
@[simp] theorem run_forAll_cons {α : Type} (x : α) (l : List α) (f : α → Act) (s : State) :
    (forAll (x :: l) f).run s = (forAll l f).run ((f x).run s) := rfl
@[simp] theorem run_onlyIf_true (a : Act) (s : State) : (onlyIf true a).run s = a.run s := rfl
@[simp] theorem run_onlyIf_false (a : Act) (s : State) : (onlyIf false a).run s = s := rfl
theorem run_onlyIf (c : Bool) (a : Act) (s : State) : (onlyIf c a).run s = if c then a.run s else s := by
  cases c <;> rfl
@[simp] theorem run_wr (r : Ref) (v : Nat) (s : State) : (wr r v).run s = (Eff.wr r (BitVec.ofNat 64 v)).apply s := rfl
@[simp] theorem run_emit (o : Out) (s : State) : (emit o).run s = (Eff.emit o).apply s := rfl
@[simp] theorem run_eng (f : Engines → Engines) (s : State) : (eng f).run s = (Eff.eng f).apply s := rfl

/-- Every action leaves the queue as it is. -/
@[simp] theorem run_pending (a : Act) (s : State) : (a.run s).pending = s.pending := by
  induction a generalizing s with
  | skip => rfl
  | eff e => cases e <;> rfl
  | seq a b iha ihb => simp [iha, ihb]
  | read f ih => simp [ih]

/-- True time never goes back during an action. -/
theorem run_now_le (a : Act) (s : State) : s.now ≤ (a.run s).now := by
  induction a generalizing s with
  | skip => exact Nat.le_refl _
  | eff e => cases e <;> simp
  | seq a b iha ihb => exact Nat.le_trans (iha s) (ihb _)
  | read f ih => exact ih s s

end Sys2Proof.Machine
end

