-- ==== Sys2Proof/Laws/Store.lean ====
section
/-! SUPPORT. Sparse tables and the object store: what a write leaves, and that the canonical form stays. -/

namespace Sys2Proof.Machine

open Sys2Proof

/-! ## Sparse tables -/

theorem aget_aput {κ α : Type} [DecidableEq κ] (lt : κ → κ → Bool) (l : List (κ × α)) (k k' : κ) (v : α) :
    aget (aput lt l k v) k' = if k = k' then some v else aget l k' := by
  induction l with
  | nil => by_cases e : k = k' <;> simp [aput, aget, e]
  | cons x xs ih =>
    obtain ⟨k0, w⟩ := x
    simp only [aput]
    by_cases e0 : k0 = k
    · subst e0; simp only [if_true, aget]; split <;> simp_all
    · simp only [e0, if_false]
      split
      · simp only [aget]
      · simp only [aget, ih]
        by_cases e1 : k0 = k'
        · subst e1; simp [Ne.symm e0]
        · simp [e1]

theorem aput_aput {κ α : Type} [DecidableEq κ] (lt : κ → κ → Bool) (l : List (κ × α)) (k : κ) (v w : α) :
    aput lt (aput lt l k v) k w = aput lt l k w := by
  induction l with
  | nil => simp [aput]
  | cons x xs ih =>
    obtain ⟨k0, u⟩ := x
    simp only [aput]
    by_cases e0 : k0 = k
    · simp [e0, aput]
    · simp only [e0, if_false]
      by_cases e1 : lt k k0 = true
      · simp [e1, aput]
      · simp [e1, aput, e0, ih]

theorem aget_adel {κ α : Type} [DecidableEq κ] (l : List (κ × α)) (k k' : κ) :
    aget (adel l k) k' = if k = k' then none else aget l k' := by
  induction l with
  | nil => simp [adel, aget]
  | cons x xs ih =>
    obtain ⟨k0, w⟩ := x
    simp only [adel] at ih
    by_cases e0 : k0 = k
    · subst e0
      simp only [adel, List.filter_cons, decide_not, decide_true, Bool.not_true, Bool.false_eq_true, if_false, aget]
      rw [show (List.filter (fun e : κ × α => !decide (e.1 = k0)) xs) = List.filter (fun e => decide (e.1 ≠ k0)) xs by simp, ih]
      by_cases e : k0 = k' <;> simp [e]
    · have : decide (k0 ≠ k) = true := by simp [e0]
      simp only [adel, List.filter_cons, this, if_true, aget]
      rw [ih]
      by_cases e : k0 = k'
      · subst e; simp [Ne.symm e0]
      · simp [e]

theorem ascending_filter {κ α : Type} (lt : κ → κ → Bool) (p : κ × α → Bool) (l : List (κ × α))
    (h : ascending lt l = true) : ascending lt (l.filter p) = true := by
  induction l with
  | nil => rfl
  | cons x xs ih =>
    simp only [ascending, Bool.and_eq_true, List.all_eq_true] at h
    simp only [List.filter_cons]
    split
    · simp only [ascending, Bool.and_eq_true, List.all_eq_true]
      exact ⟨fun y hy => h.1 y (List.mem_filter.mp hy).1, ih h.2⟩
    · exact ih h.2

theorem mem_aput {κ α : Type} [DecidableEq κ] (lt : κ → κ → Bool) (l : List (κ × α)) (k : κ) (v : α) (x : κ × α)
    (h : x ∈ aput lt l k v) : x = (k, v) ∨ x ∈ l := by
  induction l with
  | nil => simpa [aput] using h
  | cons y ys ih =>
    simp only [aput] at h
    split at h
    · rcases List.mem_cons.mp h with h | h
      · exact .inl h
      · exact .inr (List.mem_cons_of_mem _ h)
    · split at h
      · rcases List.mem_cons.mp h with h | h
        · exact .inl h
        · exact .inr h
      · rcases List.mem_cons.mp h with h | h
        · exact .inr (h ▸ List.mem_cons_self)
        · rcases ih h with h | h
          · exact .inl h
          · exact .inr (List.mem_cons_of_mem _ h)

theorem ascending_aput {κ α : Type} [DecidableEq κ] (lt : κ → κ → Bool) (l : List (κ × α)) (k : κ) (v : α)
    (htr : ∀ x y z, lt x y = true → lt y z = true → lt x z = true)
    (htot : ∀ x y, x ≠ y → lt x y = false → lt y x = true) (h : ascending lt l = true) :
    ascending lt (aput lt l k v) = true := by
  induction l with
  | nil => rfl
  | cons x xs ih =>
    obtain ⟨k0, w⟩ := x
    simp only [ascending, Bool.and_eq_true, List.all_eq_true] at h
    simp only [aput]
    split
    · rename_i e; subst e
      simp only [ascending, Bool.and_eq_true, List.all_eq_true]; exact h
    · rename_i e0
      split
      · rename_i hlt
        simp only [ascending, Bool.and_eq_true, List.all_eq_true]
        refine ⟨?_, h.1, h.2⟩
        intro y hy
        rcases List.mem_cons.mp hy with rfl | hy
        · exact hlt
        · exact htr _ _ _ hlt (h.1 y hy)
      · rename_i hlt
        simp only [ascending, Bool.and_eq_true, List.all_eq_true]
        refine ⟨?_, ih h.2⟩
        intro y hy
        rcases mem_aput lt xs k v y hy with rfl | hy
        · exact htot k k0 (Ne.symm e0) (by simpa using hlt)
        · exact h.1 y hy

/-! ## The order of object addresses -/

theorem refLt_irrefl (x : Ref) : refLt x x = false := by simp [refLt]

theorem refLt_trans (x y z : Ref) (h1 : refLt x y = true) (h2 : refLt y z = true) : refLt x z = true := by
  simp only [refLt, Bool.or_eq_true, Bool.and_eq_true, decide_eq_true_eq, beq_iff_eq] at *
  omega

theorem refLt_total (x y : Ref) (h : x ≠ y) (h1 : refLt x y = false) : refLt y x = true := by
  obtain ⟨a, b, c⟩ := x
  obtain ⟨a', b', c'⟩ := y
  have hne : ¬ (a = a' ∧ b = b' ∧ c = c') := by
    rintro ⟨rfl, rfl, rfl⟩; exact h rfl
  have h1' : ¬ (refLt ⟨a, b, c⟩ ⟨a', b', c'⟩ = true) := by simp [h1]
  simp only [refLt, Bool.or_eq_true, Bool.and_eq_true, decide_eq_true_eq, beq_iff_eq] at *
  omega

/-! ## The object store -/

theorem Store_write_wf (o : Store) (r : Ref) (v : Word) (h : Store.wf o = true) : Store.wf (Store.write o r v) = true := by
  simp only [Store.wf, Bool.and_eq_true, List.all_eq_true, decide_eq_true_eq] at *
  unfold Store.write
  split
  · exact ⟨ascending_filter _ _ _ h.1, fun e he => h.2 e (List.mem_filter.mp he).1⟩
  · rename_i hv
    refine ⟨ascending_aput _ _ _ _ refLt_trans refLt_total h.1, fun e he => ?_⟩
    rcases mem_aput _ _ _ _ _ he with rfl | he
    · exact hv
    · exact h.2 e he

theorem Store_filter_wf (o : Store) (p : Ref × Word → Bool) (h : Store.wf o = true) : Store.wf (o.filter p) = true := by
  simp only [Store.wf, Bool.and_eq_true, List.all_eq_true, decide_eq_true_eq] at *
  exact ⟨ascending_filter _ _ _ h.1, fun e he => h.2 e (List.mem_filter.mp he).1⟩

/-- A word read after a word written. -/
theorem word_apply_wr (r r' : Ref) (v : Word) (s : State) :
    ((Eff.wr r v).apply s).word r' = if r = r' then v else s.word r' := by
  simp only [State.word, apply_wr_objs, Store.write]
  split
  · rename_i hv
    rw [aget_adel]
    by_cases e : r = r'
    · subst e; simp [hv]
    · simp [e]
  · rw [aget_aput]
    by_cases e : r = r' <;> simp [e]

/-- A number read after a word written. -/
theorem rd_apply_wr (r r' : Ref) (v : Word) (s : State) :
    ((Eff.wr r v).apply s).rd r' = if r = r' then v.toNat else s.rd r' := by
  simp only [State.rd, word_apply_wr]
  split <;> rfl

@[simp] theorem word_apply_emit (o : Out) (s : State) (r : Ref) : ((Eff.emit o).apply s).word r = s.word r := rfl
@[simp] theorem word_apply_eng (f : Engines → Engines) (s : State) (r : Ref) : ((Eff.eng f).apply s).word r = s.word r := rfl
@[simp] theorem word_apply_pass (n : Nat) (s : State) (r : Ref) : ((Eff.pass n).apply s).word r = s.word r := rfl
@[simp] theorem rd_apply_emit (o : Out) (s : State) (r : Ref) : ((Eff.emit o).apply s).rd r = s.rd r := rfl
@[simp] theorem rd_apply_eng (f : Engines → Engines) (s : State) (r : Ref) : ((Eff.eng f).apply s).rd r = s.rd r := rfl
@[simp] theorem rd_apply_pass (n : Nat) (s : State) (r : Ref) : ((Eff.pass n).apply s).rd r = s.rd r := rfl

/-- A counter after an increment. -/
theorem run_inc (r : Ref) (s : State) : (inc r).run s = (Eff.wr r (BitVec.ofNat 64 (s.rd r + 1))).apply s := rfl

/-- Every primitive effect keeps a sound state sound. -/
theorem apply_wf (e : Eff) (s : State) (h : s.wf = true) : (e.apply s).wf = true := by
  cases e with
  | wr r v => exact Store_write_wf _ _ _ h
  | reset keep => exact Store_filter_wf _ _ h
  | emit o => exact h
  | eng f => exact h
  | pass n => exact h

end Sys2Proof.Machine
end

