-- ==== Sys2Proof/Laws/Frames.lean ====
section
/-! SUPPORT. What an action can do at most: a property that all its primitive effects have, and the frame that follows from it. -/

namespace Sys2Proof.Machine

open Sys2Proof

/-! ## A property of every primitive effect -/

/-- Every primitive effect that an action can have, in any state, has the property. -/
def Act.All (p : Eff → Prop) : Act → Prop
  | .skip => True
  | .eff e => p e
  | .seq a b => a.All p ∧ b.All p
  | .read f => ∀ s, (f s).All p

theorem all_skip (p : Eff → Prop) : Act.skip.All p := trivial
theorem all_read {p : Eff → Prop} {f : State → Act} (h : ∀ s, (f s).All p) : (Act.read f).All p := h
theorem all_nil (p : Eff → Prop) : (acts []).All p := trivial
theorem all_cons {p : Eff → Prop} {a : Act} {l : List Act} (h : a.All p) (g : (acts l).All p) : (acts (a :: l)).All p := ⟨h, g⟩

theorem all_onlyIf {p : Eff → Prop} {c : Bool} {a : Act} (h : a.All p) : (onlyIf c a).All p := by
  cases c
  · trivial
  · exact h

theorem all_ite {p : Eff → Prop} {c : Prop} [Decidable c] {a b : Act} (h : a.All p) (g : b.All p) : (if c then a else b).All p := by
  split
  · exact h
  · exact g

theorem all_forAll {α : Type} {p : Eff → Prop} {f : α → Act} (l : List α) (h : ∀ x ∈ l, (f x).All p) : (forAll l f).All p := by
  induction l with
  | nil => trivial
  | cons x xs ih => exact ⟨h x List.mem_cons_self, ih fun y hy => h y (List.mem_cons_of_mem _ hy)⟩

theorem all_mono {p q : Eff → Prop} {a : Act} (h : a.All p) (g : ∀ e, p e → q e) : a.All q := by
  induction a with
  | skip => trivial
  | eff e => exact g e h
  | seq a b iha ihb => exact ⟨iha h.1, ihb h.2⟩
  | read f ih => exact fun s => ih s (h s)

/-! ## Frames -/

/-- What every primitive effect of an action leaves as it was, the action leaves as it was. -/
theorem run_keeps {α : Type} (g : State → α) {a : Act} (h : a.All fun e => ∀ s, g (e.apply s) = g s) (s : State) : g (a.run s) = g s := by
  induction a generalizing s with
  | skip => rfl
  | eff e => exact h s
  | seq a b iha ihb => exact (ihb h.2 (a.run s)).trans (iha h.1 s)
  | read f ih => exact ih s (h s) s

/-- Of the objects, the effect writes only those that `p` names; it returns none to its default. -/
def Eff.within (p : Ref → Prop) : Eff → Prop
  | .wr r _ => p r
  | .reset _ => False
  | _ => True

/-- An object outside the ones that an action writes keeps its word. -/
theorem run_word {p : Ref → Prop} {a : Act} (h : a.All (Eff.within p)) {r : Ref} (hr : ¬ p r) (s : State) :
    (a.run s).word r = s.word r := by
  refine run_keeps (fun s => s.word r) (all_mono h fun e he s => ?_) s
  cases e with
  | wr r' v =>
    have : r' ≠ r := fun e => hr (e ▸ he)
    rw [word_apply_wr, if_neg this]
  | reset k => exact he.elim
  | emit o => rfl
  | eng f => rfl
  | pass n => rfl

/-- The same, of the number an object holds. -/
theorem run_rd {p : Ref → Prop} {a : Act} (h : a.All (Eff.within p)) {r : Ref} (hr : ¬ p r) (s : State) :
    (a.run s).rd r = s.rd r := congrArg BitVec.toNat (run_word h hr s)

/-! ## Interrupt requests and events -/

/-- The words of the interrupt controller that a request writes, and those of the event queues. -/
def irqRef (r : Ref) : Prop := r.idx = 0x0301 ∨ (r.idx = 0x0304 ∧ r.mem = 3)
def eventRef (r : Ref) : Prop := irqRef r ∨ r = R.EV_DEPTH ∨ r = R.EV_LOST ∨ r = R.EVENT_LOST

/-- The effect belongs to the delivery of requests and events: of the objects it writes those that `p` names, and of the engines it
changes the interrupt controller, the sessions' event queues and the hold-offs of events. -/
def Eff.signal (p : Ref → Prop) : Eff → Prop
  | .wr r _ => p r
  | .emit _ => True
  | .eng f => ∀ g, f g = { g with
      irq := (f g).irq
      sess := (f g).sess
      holdoff := (f g).holdoff }
  | .reset _ | .pass _ => False

theorem all_signal {p q : Ref → Prop} {a : Act} (h : a.All (Eff.signal p)) (g : ∀ r, p r → q r) : a.All (Eff.signal q) :=
  all_mono h fun e he => by
    cases e with
    | wr r v => exact g r he
    | reset k => exact he
    | emit o => exact he
    | eng f => exact he
    | pass n => exact he

/-- What the delivery of requests and events leaves as it was. -/
theorem run_signal {p : Ref → Prop} {a : Act} (h : a.All (Eff.signal p)) (s : State) :
    (a.run s).pending = s.pending ∧ (a.run s).now = s.now ∧ (a.run s).eng = { s.eng with
      irq := (a.run s).eng.irq
      sess := (a.run s).eng.sess
      holdoff := (a.run s).eng.holdoff } := by
  induction a generalizing s with
  | skip => exact ⟨rfl, rfl, rfl⟩
  | eff e =>
    cases e with
    | wr r v => exact ⟨rfl, rfl, rfl⟩
    | reset k => exact h.elim
    | emit o => exact ⟨rfl, rfl, rfl⟩
    | eng f => exact ⟨rfl, rfl, h s.eng⟩
    | pass n => exact h.elim
  | seq a b iha ihb =>
    obtain ⟨h1, h2, h3⟩ := iha h.1 s
    obtain ⟨g1, g2, g3⟩ := ihb h.2 (a.run s)
    refine ⟨g1.trans h1, g2.trans h2, ?_⟩
    rw [run_seq, g3, h3]
  | read f ih => exact ih s (h s) s

theorem run_signal_word {p : Ref → Prop} {a : Act} (h : a.All (Eff.signal p)) {r : Ref} (hr : ¬ p r) (s : State) :
    (a.run s).word r = s.word r :=
  run_word (p := p) (all_mono h fun e he => by
    cases e with
    | wr r v => exact he
    | reset k => exact he.elim
    | emit o => trivial
    | eng f => trivial
    | pass n => trivial) hr s

theorem all_sendMsix (v : Nat) : (sendMsix v).All (Eff.signal irqRef) :=
  all_read fun _ => all_ite (fun _ => rfl) trivial

theorem all_requestRises (x : Nat) : (requestRises x).All (Eff.signal irqRef) :=
  all_read fun _ => all_ite trivial ⟨.inr ⟨rfl, rfl⟩, fun _ => rfl, all_onlyIf (all_sendMsix _), trivial⟩

theorem all_followRequest (x : Nat) : (followRequest x).All (Eff.signal irqRef) :=
  all_read fun _ => all_ite (.inr ⟨rfl, rfl⟩) (all_requestRises x)

theorem all_setPending (src : Nat) : (setPending src).All (Eff.signal irqRef) :=
  all_read fun _ => all_ite trivial (all_ite trivial ⟨.inl rfl, all_read fun _ => all_onlyIf (all_requestRises _), trivial⟩)

theorem all_clearPending (src : Nat) : (clearPending src).All (Eff.signal irqRef) :=
  all_read fun _ => ⟨.inl rfl, all_followRequest _, trivial⟩

theorem all_edge (src : Nat) : (edge src).All (Eff.signal irqRef) :=
  all_read fun _ => all_ite (fun _ => rfl) (all_setPending _)

theorem all_setLevel (src : Nat) (high : Bool) : (setLevel src high).All (Eff.signal irqRef) :=
  all_read fun _ => all_ite trivial ⟨fun _ => rfl, all_ite trivial (all_ite (all_setPending _) (all_clearPending _)), trivial⟩

theorem all_queueEvent (code inst detail : Nat) : (queueEvent code inst detail).All (Eff.signal eventRef) :=
  all_read fun _ => all_ite (all_ite
    ⟨fun _ => rfl, .inr (.inl rfl), all_signal (all_edge _) fun _ => .inl, trivial⟩
    ⟨fun _ => .inr (.inr (.inl rfl)), fun _ => rfl, trivial⟩) trivial

theorem all_sessionEvent (k code inst detail : Nat) : (sessionEvent k code inst detail).All (Eff.signal eventRef) :=
  all_read fun s => by
    cases aget s.eng.sess k with
    | none => trivial
    | some q => exact all_ite (fun _ => rfl) ⟨fun _ => .inr (.inr (.inr rfl)), fun _ => rfl, trivial⟩

/-- An event changes the event queues and the interrupt controller alone. -/
theorem all_raise (code inst detail : Nat) : (raise code inst detail).All (Eff.signal eventRef) :=
  all_read fun _ => ⟨all_queueEvent _ _ _, all_forAll _ fun _ _ => all_sessionEvent _ _ _ _,
    all_forAll _ fun _ _ => ⟨all_queueEvent _ _ _, all_read fun _ => all_forAll _ fun _ _ => all_sessionEvent _ _ _ _, trivial⟩,
    trivial⟩

theorem all_raiseMax (gap scope code inst detail : Nat) : (raiseMax gap scope code inst detail).All (Eff.signal eventRef) :=
  all_read fun s => by
    cases h : aget s.eng.holdoff (code * 16777216 + scope) with
    | none => simp only [h]; exact ⟨fun _ => rfl, all_raise _ _ _, trivial⟩
    | some l => simp only [h]; exact all_ite trivial ⟨fun _ => rfl, all_raise _ _ _, trivial⟩

theorem all_raiseMs (scope code inst detail : Nat) : (raiseMs scope code inst detail).All (Eff.signal eventRef) :=
  all_raiseMax _ _ _ _ _

end Sys2Proof.Machine
end

