-- ==== Sys2Proof/Laws/Rows.lean ====
section
/-! SUPPORT. What the parts that rows share do: the frame of a command, an action of a running block, and accesses that have their
effect at once. -/

namespace Sys2Proof.Machine

open Sys2Proof

/-! ## The frame of a command -/

/-- A command comes after what is due, and what follows comes after it. -/
theorem run_work (a : Act) (s : State) (t : Nat) : (work a).run (s.tick t) = s.after t a := rfl

/-- A command without a guard. -/
theorem done_after (a : Act) (s : State) (t : Nat) : done t (work a) s = .next (s.after t a) := rfl

/-- A command whose operands name instances the device has. -/
theorem doneIf_after (ok : Bool) (a : Act) (s : State) (t : Nat) (g : ok = true) :
    doneIf ok t (work a) s = .next (s.after t a) := by
  rw [doneIf, if_pos g, run_work a s t]

/-- With no signal left between the engines, nothing follows. -/
theorem run_drainIn_quiet (n : Nat) (s : State) (h : s.eng.notes = []) : (drainIn n).run s = s := by
  cases n with
  | zero => rfl
  | succ n => simp only [drainIn, run_read, h, run_skip]

/-- With nothing due, a command acts on the state as it is at its instant. -/
theorem ready_calm (s : State) (t : Nat) (h : s.calm t = true) : s.ready t = s.tick t := by
  simp only [State.calm, Bool.and_eq_true, List.isEmpty_iff, Option.isNone_iff_eq_none] at h
  obtain ⟨⟨h1, h2⟩, h3⟩ := h
  have e : (s.tick t).eng.rst.due.filter (fun d => decide (d.1 ≤ (s.tick t).now)) = [] := by
    rw [List.filter_eq_nil_iff]
    intro d hd
    have := of_decide_eq_true ((List.all_eq_true.mp h1) d hd)
    exact fun g => absurd (of_decide_eq_true g) (Nat.not_le.mpr this)
  have e1 : assertDue.run (s.tick t) = s.tick t := by
    simp only [assertDue, run_read, e]
    rfl
  have e2 : keyStepsDue.run (s.tick t) = s.tick t := by
    rw [keyStepsDue, run_read]
    cases (s.tick t).stepCount with
    | zero => rfl
    | succ n => rw [keySteps, run_read, h2, run_skip]
  simp only [State.ready, beforehand, run_acts_cons, run_acts_nil, e1, e2]
  exact run_drainIn_quiet 4096 _ h3

/-- With no access held, none goes on. -/
theorem run_resumeHeld_quiet (s : State) (h : s.eng.txn.behind = []) : resumeHeld.run s = s := by
  simp only [resumeHeld, run_read, run_acts_cons, run_acts_nil, h, run_forAll_nil]
  have e : (fun g : TxnEng => { g with behind := [] }) s.eng.txn = s.eng.txn := by rw [← h]
  show ({ s with eng := { s.eng with txn := (fun g : TxnEng => { g with behind := [] }) s.eng.txn } } : State) = s
  rw [e]

/-- An effect that leaves no signal and no held access is all that its command does. -/
theorem after_quiet (a : Act) (s : State) (t : Nat) (h : (a.run (s.ready t)).eng.notes = [])
    (g : (a.run (s.ready t)).eng.txn.behind = []) : s.after t a = a.run (s.ready t) := by
  have e (u : State) (hu : u.eng.notes = []) : drain.run u = u := run_drainIn_quiet 4096 u hu
  simp only [State.after, afterwards, run_acts_cons, run_acts_nil, e _ h, run_resumeHeld_quiet _ g]

/-- Two actions with the same run from the state at `t` leave the same state. -/
theorem after_congr {a b : Act} {s : State} {t : Nat} (h : a.run (s.ready t) = b.run (s.ready t)) : s.after t a = s.after t b := by
  simp only [State.after, h]

/-- An action of a running block. -/
theorem run_whenUp (b : Nat) (a : Act) (s : State) (h : s.blockUp b = true) : (whenUp b a).run s = a.run s := by
  simp only [whenUp, run_read, h, run_onlyIf_true]

/-! ## Accesses -/

/-- A status 0 ends an aperture access with OK. -/
theorem run_apEnds_ok (m : Nat) (write : Bool) (r : Ref) (op : Nat) (s : State) :
    (apEnds m write r op 0).run s = (answer (.ap m) 0 []).run s := by
  simp [apEnds]

/-- A direct write whose item is accepted. -/
theorem run_directWrite (w : Who) (x : Option Nat) (it : Item) (wait : Act) (k : Nat → Act) (s : State)
    (t : Target) (vs : List (Row × Nat × List Word)) (h : s.accepted w it = some (t, vs)) :
    (directWrite w x it wait k).run s =
      (acts [onlyIf (!((stagedOf it.op t (vs.filter fun v => v.1.cls != .cmd)).isEmpty))
          (acts [markCommit t.objects, storeItems (stagedOf it.op t (vs.filter fun v => v.1.cls != .cmd))]),
        startCommands w x (cmdsOf t vs) 0 k]).run s := by
  unfold State.accepted at h
  split at h
  · rename_i t0 u vs0 ha hc
    split at h
    · rename_i hg
      cases h
      simp only [Bool.and_eq_true, Bool.not_eq_true', Option.isNone_iff_eq_none] at hg
      simp only [directWrite, run_read, ha, hc, hg.1, Bool.false_eq_true, if_false, hg.2]
    · cases h
  · cases h

/-- A master's write that goes to the member itself. -/
theorem run_apWrite_direct (m : Nat) (x : Option Nat) (r : Ref) (op : Nat) (v : Word) (s : State)
    (h : s.direct (.ap m) r op = true) :
    (apWrite m x r op v).run s = (directWrite (.ap m) x ⟨r, 1, op, [v]⟩ (addWait (.item (.ap m) ⟨r, 1, op, [v]⟩))
      (apEnds m true r op)).run s := by
  simp only [State.direct, Bool.and_eq_true, Bool.not_eq_true'] at h
  obtain ⟨⟨⟨⟨⟨h0, h1⟩, h5⟩, h2⟩, h3⟩, h4⟩ := h
  revert h4
  cases ht : s.apTarget m r true with
  | none => intro h4; cases h4
  | some p =>
    obtain ⟨row, q⟩ := p
    intro h4
    simp only [Bool.and_eq_true, decide_eq_true_eq, Bool.or_eq_true, beq_iff_eq] at h4
    have hsplit : ¬ (op ≠ 0 ∧ (!(s.splitNow row q)) = true) := by
      rintro ⟨ho, hs⟩
      rcases h4.2 with h | h
      · exact ho h
      · simp [h] at hs
    have hb : ¬ (m < 18 ∧ s.rd (R.A_BIND m) ≠ 0 ∧ r.idx ≠ 0x0101) := by
      rintro ⟨a, b, c⟩
      simp only [Bool.or_eq_true, decide_eq_true_eq, beq_iff_eq] at h2
      omega
    have hp : ¬ (r.idx = 0x0391 ∧ r.mem ≤ 2) := by
      rintro ⟨a, b⟩
      simp [a, b] at h3
    simp only [apWrite, run_read, h0, Bool.not_true, h1, h5, Bool.false_eq_true, if_false, ht, if_neg hsplit, if_pos h4.1, apWhole,
      if_neg hb, apDirect, if_neg hp]

/-- A write of a command member by a master, through the address `r`. -/
theorem run_apWrite_starts (m : Nat) (x : Option Nat) (r c : Ref) (v : Word) (s : State) (h : s.starts (.ap m) r c v = true) :
    (apWrite m x r 0 v).run s = (acts [wr c 0, command (.ap m) x c v.toNat, answer (.ap m) 0 []]).run s := by
  simp only [State.starts, Bool.and_eq_true, Bool.not_eq_true'] at h
  obtain ⟨⟨⟨h1, h2⟩, h3⟩, h4⟩ := h
  rw [run_apWrite_direct m x r 0 v s h1]
  revert h4
  cases ha : s.accepted (.ap m) ⟨r, 1, 0, [v]⟩ with
  | none => intro h4; cases h4
  | some p =>
    obtain ⟨t, vs⟩ := p
    intro h4
    simp only [Bool.and_eq_true, beq_iff_eq] at h4
    rw [run_directWrite _ _ _ _ _ _ t vs ha]
    simp only [h4.1, h4.2, Bool.not_true, run_acts_cons, run_onlyIf_false, run_acts_nil, startCommands, startCommand, run_read, h2,
      h3, Bool.false_eq_true, if_false, if_true]
    exact run_apEnds_ok _ _ _ _ _

/-- A write of a command member starts the command and ends with OK. -/
theorem run_writeMember_takes (w : Who) (x : Option Nat) (c : Ref) (v : Word) (s : State) (h : s.takes w c v = true) :
    (writeMember w x c v).run s = (acts [wr c 0, command w x c v.toNat, answer w 0 []]).run s := by
  cases w with
  | ap m => exact run_apWrite_starts m x (s.viaWindow c) c v s h
  | dev => simp [State.takes, State.starts, State.direct] at h
  | ddp k =>
    simp only [State.takes, State.starts, State.direct, Bool.and_eq_true, Bool.not_eq_true'] at h
    obtain ⟨⟨⟨h1, h2⟩, h3⟩, h4⟩ := h
    revert h4
    cases ha : s.accepted (.ddp k) ⟨c, 1, 0, [v]⟩ with
    | none => intro h4; cases h4
    | some p =>
      obtain ⟨t, vs⟩ := p
      intro h4
      simp only [Bool.and_eq_true, beq_iff_eq] at h4
      simp only [writeMember, run_read, h1, run_onlyIf_true]
      rw [run_directWrite _ _ _ _ _ _ t vs ha]
      simp only [h4.1, h4.2, Bool.not_true, run_acts_cons, run_onlyIf_false, run_acts_nil, startCommands, startCommand, run_read,
        h2, h3, Bool.false_eq_true, if_false, if_true]
      rfl

/-- A command of a literal value, whose action is `a`. -/
theorem run_writeMember_command (w : Who) (x : Option Nat) (c : Ref) (v : Word) (n : Nat) (a : Act) (s : State)
    (h : s.takes w c v = true) (hv : v.toNat = n) (ha : (command w x c n).run ((wr c 0).run s) = a.run ((wr c 0).run s)) :
    (writeMember w x c v).run s = (acts [wr c 0, a, answer w 0 []]).run s := by
  rw [run_writeMember_takes w x c v s h, hv]
  simp only [run_acts_cons, ha]

/-- A master's write of a stored member, through the address `r`. -/
theorem run_apWrite_keeps (m : Nat) (x : Option Nat) (r c : Ref) (op : Nat) (v : Word) (s : State)
    (h : s.keeps (.ap m) r c op v = true) :
    (apWrite m x r op v).run s = (acts [storeNow c op v, answer (.ap m) 0 []]).run s := by
  simp only [State.keeps, Bool.and_eq_true] at h
  obtain ⟨h1, h4⟩ := h
  rw [run_apWrite_direct m x r op v s h1]
  revert h4
  cases ha : s.accepted (.ap m) ⟨r, 1, op, [v]⟩ with
  | none => intro h4; cases h4
  | some p =>
    obtain ⟨t, vs⟩ := p
    intro h4
    simp only [Bool.and_eq_true, beq_iff_eq, List.isEmpty_iff] at h4
    rw [run_directWrite _ _ _ _ _ _ t vs ha]
    simp only [h4.1.1, h4.1.2, h4.2, List.isEmpty_cons, Bool.not_false, run_acts_cons, run_onlyIf_true, run_acts_nil, startCommands,
      storeNow]
    exact run_apEnds_ok _ _ _ _ _

/-- A write of a stored member stores it and ends with OK. -/
theorem run_writeMember_stores (w : Who) (x : Option Nat) (c : Ref) (v : Word) (s : State) (h : s.stores w c v = true) :
    (writeMember w x c v).run s = (acts [storeNow c 0 v, answer w 0 []]).run s := by
  cases w with
  | ap m => exact run_apWrite_keeps m x (s.viaWindow c) c 0 v s h
  | dev => simp [State.stores, State.keeps, State.direct] at h
  | ddp k =>
    simp only [State.stores, State.keeps, State.direct, Bool.and_eq_true] at h
    obtain ⟨h1, h4⟩ := h
    revert h4
    cases ha : s.accepted (.ddp k) ⟨c, 1, 0, [v]⟩ with
    | none => intro h4; cases h4
    | some p =>
      obtain ⟨t, vs⟩ := p
      intro h4
      simp only [Bool.and_eq_true, beq_iff_eq, List.isEmpty_iff] at h4
      simp only [writeMember, run_read, h1, run_onlyIf_true]
      rw [run_directWrite _ _ _ _ _ _ t vs ha]
      simp only [h4.1.1, h4.1.2, h4.2, List.isEmpty_cons, Bool.not_false, run_acts_cons, run_onlyIf_true, run_acts_nil,
        startCommands, storeNow]
      rfl

/-- A master's read that passes every check. -/
theorem run_apRead (m : Nat) (r q : Ref) (s : State) (h : s.reads m r = some q) :
    (apRead m r 0).run s = (readMember (.ap m) q fun v => answer (.ap m) 0 [v]).run s := by
  unfold State.reads at h
  split at h
  · cases h
  · rename_i hf
    split at h
    · rename_i row q' t ht hc
      cases h
      simp only [Bool.or_eq_true, not_or, Bool.not_eq_true, Bool.not_eq_false'] at hf
      simp only [apRead, run_read, hf.1.1, hf.1.2, hf.2, Bool.not_true, Bool.false_eq_true, if_false, ht, hc, ne_eq, not_true_eq_false,
        false_and]
    · cases h

/-- A push into a from-host FIFO. -/
theorem run_apWrite_pushes (m : Nat) (x : Option Nat) (r : Ref) (v : Word) (s : State) (h : s.pushes m r v = true) :
    (apWrite m x r 0 v).run s = (acts [onlyIf (r.mem != 0) (markCommit [(0x0391, r.inst)]),
      if r.mem = 2 then endPacket (.ap m) r.inst v.toNat else pushItem (.ap m) r.inst r.mem v.toNat]).run s := by
  simp only [State.pushes, Bool.and_eq_true, Bool.not_eq_true', Bool.or_eq_true, decide_eq_true_eq, beq_iff_eq] at h
  obtain ⟨⟨⟨⟨⟨⟨h0, h1⟩, h6⟩, h2⟩, h3⟩, h4⟩, h5⟩ := h
  have hb : ¬ (m < 18 ∧ s.rd (R.A_BIND m) ≠ 0 ∧ r.idx ≠ 0x0101) := by
    rintro ⟨a, b, -⟩
    omega
  split at h5
  · rename_i row q u t vs ht ha hc
    simp only [Bool.and_eq_true, decide_eq_true_eq, beq_iff_eq, Bool.not_eq_true'] at h5
    simp only [apWrite, run_read, h0, Bool.not_true, h1, h6, Bool.false_eq_true, if_false, ht, ne_eq, not_true_eq_false, false_and,
      if_pos h5.1.1, apWhole, if_neg hb, apDirect, if_pos (And.intro h3 h4), ha, h5.1.2, hc, h5.2, List.headD]
  · cases h5

/-! ## Messages -/

/-- The next request of a session is served. -/
theorem run_serve_next (k n : Nat) (m : DdpMsg) (s : State) (q : Sess) (hq : aget s.eng.sess k = some q)
    (hh : q.held = [(m.seq, m)]) (hn : q.nextSeq = m.seq)
    (hw : s.itemWaits k = false) (hs : s.rd (R.S_STATE k) = 2) :
    (serve k (n + 1)).run s = (acts [
      setSess k { q with
        nextSeq := m.seq + 1
        held := [] },
      inc (R.S_REQUESTS k), execute k m, onlyIf (m.seq == 0xFFFFFFFF) (closeSession k 3 none), serve k n]).run s := by
  simp only [serve, run_read, hq, hh, hn, List.find?_cons, beq_self_eq_true, hw, hs, Bool.false_eq_true, ne_eq, not_true_eq_false,
    or_self, if_false, List.filter_cons, bne_self_eq_false, List.filter_nil]

/-- A message opened keeps its header. -/
theorem openMsg_words (s : State) (k : Nat) (m c : DdpMsg) (hw : 2 ≤ m.words.length) (h : s.openMsg k m = some c) :
    c.words.take 2 = m.words.take 2 := by
  unfold State.openMsg at h
  split at h
  · split at h
    · cases h
    · cases h; rfl
  · split at h
    · rw [Option.map_eq_some_iff] at h
      obtain ⟨o, -, rfl⟩ := h
      have : (m.words.take 2).length = 2 := by simp only [List.length_take]; omega
      rw [List.take_append_of_le_length (by omega), List.take_of_length_le (by omega)]
    · cases h

/-- Messages with the same header have the same flags, session, sequence number and type. -/
theorem w0_of_take (m c : DdpMsg) (h : c.words.take 2 = m.words.take 2) : c.w0 = m.w0 := by
  have e (l : List Word) : l.getD 0 0 = (l.take 2).getD 0 0 := by cases l <;> rfl
  rw [DdpMsg.w0, DdpMsg.w0, e c.words, e m.words, h]

/-- A message of its row's type that an open session serves at once. -/
theorem run_ddpRow_asks (k : Nat) (m c : DdpMsg) (s : State) (h : s.asks k m = some c) :
    (ddpRow c.type m).run s = (served k c (execute k c)).run s := by
  rw [State.asks, Option.ite_none_right_eq_some] at h
  obtain ⟨hg, h⟩ := h
  simp only [Bool.and_eq_true, bne_iff_ne, beq_iff_eq, decide_eq_true_eq, Bool.not_eq_true'] at hg
  obtain ⟨⟨⟨⟨⟨⟨⟨⟨⟨⟨⟨⟨h1, h2⟩, h3⟩, h4⟩, h5⟩, h6⟩, h7⟩, h8⟩, h9⟩, h10⟩, h11⟩, h12⟩, h13⟩ := hg
  rw [Option.filter_eq_some_iff] at h
  obtain ⟨ho, -⟩ := h
  have hc0 : c.w0 = m.w0 := w0_of_take m c (openMsg_words s k m c h2 ho)
  have ht : c.type = m.type := by simp only [DdpMsg.type, hc0]
  have hf : m.flags = c.flags := by simp only [DdpMsg.flags, hc0]
  have hseq : m.seq = c.seq := by simp only [DdpMsg.seq, hc0]
  revert h11
  cases hq : aget s.eng.sess k with
  | none => intro h11; cases h11
  | some q =>
    intro h11
    simp only [Bool.and_eq_true, beq_iff_eq, List.isEmpty_iff] at h11
    rw [hseq] at h11
    have hb' : (!(s.rd (R.S_TRANSPORT k) == m.transport && s.rd (R.S_BIND k) == m.bind &&
        (m.transport != 0 || (s.word (R.S_PEER k 0) == m.peerHi && s.word (R.S_PEER k 1) == m.peerLo)))) = false := by
      rw [h5, h6, h7]; simp
    have ha : (keepaliveTimeout k).run s = s := by
      simp only [State.alive, hq, decide_eq_true_eq] at h8
      have : decide (q.heard + 3 * q.period ≤ s.now) = false := decide_eq_false (by omega)
      simp only [keepaliveTimeout, run_read, hq, this, run_onlyIf_false]
    have e1 : (ddpRow c.type m).run s = (acts [onlyIf (bit? m.flags 5) (quickJob 2), inSession k c]).run s := by
      have hw : ¬ m.words.length < 2 := by omega
      have hid : s.rd (R.S_ID k) = m.session := by
        have := List.find?_some h4
        simp only [Bool.and_eq_true, beq_iff_eq] at this
        exact this.2
      simp only [ddpRow, ht, ne_eq, not_true_eq_false, false_and, if_false, ddpRx, run_read, h1, Bool.not_true, Bool.false_eq_true,
        hw, h3, h4, hb', run_seq, ha, h9]
      cases hb : bit? m.flags 5 with
      | false =>
        simp only [Bool.false_eq_true, if_false, openIn, run_read, h9, hid, beq_self_eq_true, Bool.and_self, run_onlyIf_true, ho,
          run_acts_cons, run_acts_nil, run_onlyIf_false]
      | true =>
        have hj : s.eng.keys.jobs.isEmpty = true := by simpa [hb] using h13
        obtain ⟨u, hu⟩ : ∃ u, u = (quickJob 2).run s := ⟨_, rfl⟩
        have g1 : u.rd (R.S_STATE k) = s.rd (R.S_STATE k) := by rw [hu, quickJob, run_inc, rd_apply_wr, if_neg (by simp)]
        have g2 : u.rd (R.S_ID k) = s.rd (R.S_ID k) := by rw [hu, quickJob, run_inc, rd_apply_wr, if_neg (by simp)]
        have g3 : u.openMsg k m = s.openMsg k m := by
          have e : u.eng = s.eng := by rw [hu]; rfl
          have f : u.rd (R.S_KEY k) = s.rd (R.S_KEY k) := by rw [hu, quickJob, run_inc, rd_apply_wr, if_neg (by simp)]
          simp only [State.openMsg, State.sessKey, e, f]
        simp only [if_true, askJob, run_read, hj, run_seq, run_acts_cons, run_acts_nil, run_onlyIf_true, ← hu, openIn, g1, g2, g3, h9,
          hid, beq_self_eq_true, Bool.and_self, ho]
    rw [e1, hf]
    simp only [served, run_read, run_acts_cons, run_acts_nil]
    obtain ⟨s1, hs1⟩ : ∃ s1, s1 = (onlyIf (bit? c.flags 5) (quickJob 2)).run s := ⟨_, rfl⟩
    rw [← hs1]
    have f1 : s1.eng = s.eng := by
      rw [hs1, run_onlyIf]; split <;> rfl
    have f2 : s1.now = s.now := by
      rw [hs1, run_onlyIf]; split <;> rfl
    have f3 : ∀ i j, s1.rd ⟨0x0020, i, j⟩ = s.rd ⟨0x0020, i, j⟩ := by
      intro i j
      rw [hs1, run_onlyIf]
      split
      · rw [quickJob, run_inc, rd_apply_wr, if_neg (by simp)]
      · rfl
    have hq1 : aget s1.eng.sess k = some q := by rw [f1]; exact hq
    simp only [inSession, run_read, run_acts_cons, run_acts_nil, updSess, hq1, f2]
    have hc : q.nextSeq ≤ c.seq ∧ c.seq < q.nextSeq + s.rd (R.S_CREDITS k) := by omega
    simp only [sequenced, run_read, setSess, run_eng, apply_eng_eng, Tbl.set, aget_aput, if_true, rd_apply_eng, f3, if_pos hc,
      h11.2, List.any_nil, Bool.not_false, run_onlyIf_true, run_acts_cons, run_acts_nil, serveAll, List.nil_append, f1]
    rw [run_serve_next k 32 c _ { q with heard := s.now, held := [(c.seq, c)] } (by simp [f1, aget_aput]) rfl h11.1
      (by simp only [State.itemWaits, apply_eng_eng, f1] at h12 ⊢; exact h12) (by simp [f3, h9])]
    simp only [run_acts_cons, run_acts_nil, setSess, run_eng]
    have e2 : (Eff.eng fun e => { e with sess := e.sess.set k { q with heard := s.now, held := [], nextSeq := c.seq + 1 } }).apply
        ((Eff.eng fun e => { e with sess := e.sess.set k { q with heard := s.now, held := [(c.seq, c)] } }).apply
          ((Eff.eng fun e => { e with sess := e.sess.set k { q with heard := s.now, held := [] } }).apply s1)) =
        (Eff.eng fun e => { e with sess := e.sess.set k { q with heard := s.now, held := [], nextSeq := c.seq + 1 } }).apply s1 := by
      simp only [Eff.apply, Tbl.set, aput_aput]
    exact congrArg (fun z => (serve k 32).run ((onlyIf (c.seq == 0xFFFFFFFF) (closeSession k 3 none)).run
      ((execute k c).run ((inc (R.S_REQUESTS k)).run z)))) e2

/-- A message served at once is sound in the session's version. -/
theorem asks_sound {k : Nat} {m c : DdpMsg} {s : State} (h : s.asks k m = some c) : requestFault (s.rd (R.S_VERSION k)) c = 0 := by
  rw [State.asks, Option.ite_none_right_eq_some] at h
  have := (Option.filter_eq_some_iff.mp h.2).2
  exact beq_iff_eq.mp this

/-- What an executed request finds: its session and two counters have changed, nothing else has. -/
theorem run_served_congr (k : Nat) (m : DdpMsg) (a b : Act) (s : State)
    (h : ∀ s', s'.eng.txn = s.eng.txn → (∀ r, r ≠ R.S_REQUESTS k → r.idx ≠ 0x4040 → s'.rd r = s.rd r) → a.run s' = b.run s') :
    (served k m a).run s = (served k m b).run s := by
  simp only [served, run_read, run_acts_cons, run_acts_nil]
  rw [h]
  · rw [run_inc]
    simp only [apply_wr_eng, updSess, run_read]
    split <;> (simp only [setSess, run_eng, apply_eng_eng, run_skip]; rw [run_onlyIf]; split <;> rfl)
  · intro r h1 h2
    rw [run_inc, rd_apply_wr, if_neg (fun e => h1 e.symm)]
    simp only [updSess, run_read]
    split <;>
    · simp only [setSess, run_eng, rd_apply_eng, run_skip]
      rw [run_onlyIf]
      split
      · rw [quickJob, run_inc, rd_apply_wr, if_neg (by rintro rfl; exact h2 rfl)]
      · rfl

/-- A request that an open session serves at once executes by its type; what it reads of the session's version is what stood before. -/
theorem run_ddpRow_served (k : Nat) (m c : DdpMsg) (b : Act) (s : State) (h : s.asks k m = some c)
    (hb : ∀ s', s'.eng.txn = s.eng.txn → (∀ r, r ≠ R.S_REQUESTS k → r.idx ≠ 0x4040 → s'.rd r = s.rd r) →
      requestFault (s'.rd (R.S_VERSION k)) c = 0 → (execute k c).run s' = b.run s') :
    (ddpRow c.type m).run s = (served k c b).run s := by
  rw [run_ddpRow_asks k m c s h]
  refine run_served_congr k c _ _ s fun s' e1 e2 => hb s' e1 e2 ?_
  rw [e2 (R.S_VERSION k) (by simp) (by simp)]
  exact asks_sound h

/-- A named request completes when it is next: the turn passes on, then it has its effect. -/
theorem run_atTurn (j : Job) (a : Act) (s : State) (q : Nat) (turn : Nat × Nat) (h : s.nextJob = some (q, j, turn)) :
    (atTurn j a).run s = (acts [setKeys fun e => { e with turn := turn }, a]).run s := by
  simp only [atTurn, serveJob, run_read, h, Option.any_some, beq_self_eq_true, run_onlyIf_true]

end Sys2Proof.Machine
end

