-- ==== Sys2Proof/Tests/Slice0.lean ====
section
/-! SUPPORT. Tests of the model, and for every obligation a state and operands that meet its hypotheses. -/

set_option maxRecDepth 20000
set_option Elab.async false

namespace Sys2Proof.Tests

open Sys2Proof Sys2Proof.Machine

/-! ## Small states -/

/-- The device after reset with members of objects written. -/
def dev (l : List (Ref × Nat)) : State := l.foldl (fun s x => (wr x.1 x.2).run s) State.reset

/-- A state with its engines changed. -/
def adj (s : State) (f : Engines → Engines) : State := (eng f).run s

/-- A session beside its objects. -/
def sess0 : Sess := ⟨1, [], [], [], [], 0, 0, 0, 0, [], [0, 0, 0, 0, 10000 * 2 ^ 8], [], 0, none, []⟩

/-- DDP session 0, open on UDP at CONTROL privilege without a key, with further members written. -/
def ses (p : Nat) (l : List (Ref × Nat)) : State :=
  adj (dev ([(R.S_STATE 0, 2), (R.S_ID 0, 1), (R.S_PRIV 0, p), (R.S_VERSION 0, 0x32), (R.S_KEY 0, 0xFFFF), (R.S_CREDITS 0, 16),
    (R.UDP_EN, 1)] ++ l)) fun e => { e with sess := [(0, sess0)] }

/-- A message on UDP for session 0, the next in order. -/
def msg (type txn : Nat) (payload : List Word) : DdpMsg := ⟨0, 0, 0, 0, 0, ddpWords type 0 1 1 0 0x32 txn payload, []⟩

/-- A port sequencer at rest. -/
def port0 : PortSt := portRest

/-- A request at port 0 whose frame begins and ends at device time 0. -/
def req0 : TxReq := ⟨1, 0, .tsch, 0, 0, 0, 0, 0, 0, none, none, none⟩

/-- Port 0 in a state of Table PORT-6 with a request in hand. -/
def keyed (st : Nat) : State := adj (dev [(R.P_STATE 0, st)]) fun e =>
  { e with radio := { e.radio with ports := [(0, { port0 with req := some req0 })] } }

/-- A lane in a state of Table CHAN-3 with a frame in progress. -/
def laneOn (st : Nat) (sof : Option Nat) (mode : Nat) (l : List (Ref × Nat)) : State := adj (dev ([(R.L_STATE 0, st), (R.P_STATE 0, 2), (R.AGC_STATE 0, 2)] ++ l))
  fun e => { e with lane := { e.lane with lanes := [(0, ⟨.none, false, some ⟨0, sof, 0, 0, mode, 100, none, 0, false, 0⟩⟩)] } }

/-- A frame without content. -/
def frame0 : MacFrame := ⟨1, 2, 0, true, false, none, .absent, .absent, 5, none, none, none, none, false, none, [], [], false, false, []⟩

/-- A transmit attempt that waits for its ACK. -/
def att0 : TxAtt := ⟨0, 0, 0, 0, 0, 0, 0, 0, false, some 1, frame0, 0, 0, 0, 0, 4, 1, 0, none, false, 0⟩

/-- An exchange with node 5 in a step. -/
def ex0 (step copies : Nat) : SnEx := ⟨5, 0, 0, 0, false, step, 1, 0, 0, 0, 0, 0, 0, 0, copies, 1, 1, [], 1, 0, 0, false, false, 0⟩

/-- A device with an exchange with node 5. -/
def sleepy (step copies : Nat) : State := adj (dev [(R.TS_RUN, 1), (R.SN_EN, 1)]) fun e =>
  { e with sn := { e.sn with exs := [ex0 step copies] } }

/-- A copy without payload, and a group opened by it. -/
def copy0 : DlCopy := ⟨0, 0, 0, 0, 0, 0, 0, 0, 0, 0, .none, []⟩
def group0 : DlGroup := ⟨0, 0, 0, 0, 0, 1, 1, [], copy0⟩

/-- A delivered frame, a stored packet on queue 1 for the mesh, and a device with packets on a queue. -/
def mesh0 : MeshIn := ⟨5, 0, 0, [], 0, 0, 0, 0, 0, [], 0, 0, 0⟩
def queued (q : Nat) (p : Pkt) (l : List (Ref × Nat)) : State := adj (dev l) fun e =>
  { e with q := { e.q with pkts := [(1, p)], queues := [(q, [1])] } }

/-- Eight heartbeat periods of 1 ms that carry a word. -/
def heartbeats (seq : Nat) : List (Nat × Nat) :=
  (List.range 8).map fun i => (1000000, if bit? (hbWord seq) (7 - i) then 750000 else 250000)

/-! ## The hypotheses of the other statements can be met -/

theorem witness_StepRunsTheFrontCommand : (State.reset.withFront (.tapIdcode 7)).pending = .tapIdcode 7 :: [] := rfl

theorem witness_EmptyQueueIdles : State.reset.pending = [] := rfl

theorem witness_StepsTakeOneCommandAndTimeGoesOn :
    (State.reset.withFront (.tapIdcode 7)).wf = true ∧ ∃ s', step (State.reset.withFront (.tapIdcode 7)) = .next s' ∧ s'.now = 7 :=
  ⟨rfl, _, rfl, rfl⟩

theorem witness_StepsKeepTheStoreCanonical : (dev [(R.KEEPALIVE, 5000), (R.CREDITS, 4)]).wf = true ∧
    (dev [(R.KEEPALIVE, 5000), (R.CREDITS, 4)]).objs.length = 2 ∧
    ∃ s', step ((dev [(R.KEEPALIVE, 5000), (R.CREDITS, 4)]).withFront (.tapBypass 7)) = .next s' := by
  refine ⟨by decide +kernel, by decide +kernel, _, rfl⟩

theorem witness_CommandsStopOnlyAtMissingInstances : wellFormed (.timerTick 0 63) = true ∧ wellFormed (.timerTick 0 64) = false := by
  decide

theorem witness_FabricPacketsReadBack : (255 < 256 ∧ 7 < 8 ∧ 2 ^ 32 - 1 < 2 ^ 32 ∧ (List.replicate 255 (0 : Nat)).length < 256 ∧ 4095 < 4096) ∧
    fabParse (fabWords ⟨0x81, 7, 5, true, 0xFFFFFFFF, 3, [9, 8]⟩ 4095 1) = some (⟨0x81, 7, 5, true, 0xFFFFFFFF, 3, [9, 8]⟩, 4095, 1) := by
  decide +kernel

theorem witness_ApertureAddressesNameTheirMembers : 0x7FFF < 0x8000 ∧ 255 < 256 ∧ 127 < (if 2 = 0 then 256 else 128) ∧
    255 < (if 0 = 0 then 256 else 128) := by decide

theorem witness_TimeValuesReadBack : (999999999 * 65536 + 65535) / 65536 < 1000000000 ∧ 0 / 65536 < 1000000000 := by decide

theorem witness_ItemsChangeTheirMemberAlone : R.CREDITS ≠ R.KEEPALIVE := by decide

theorem witness_ReservedBitsFailWithRange : ∃ row : Row, row? (R.TM_CTRL 0) = some row ∧ row.ty = .bits ∧
    row.holds 0 [0x3] = true ∧ row.holds 0 [0x80000000] = false := by
  cases h : row? (R.TM_CTRL 0) with
  | none => exact absurd h (by decide +kernel)
  | some row => exact ⟨row, rfl, by revert h; revert row; decide +kernel⟩

/-- Context 3 has source 40 pending and enabled at priority 6, and source 41 at the same priority. -/
def claiming : State := dev [(R.IRQ_PENDING 0, 3 * 2 ^ 40), (R.IRQ_ENABLE 0, 3 * 2 ^ 40), (R.IRQ_SRC 40, 0x306), (R.IRQ_SRC 41, 0x306)]

theorem witness_ClaimsTakeTheHighestPriorityThenTheLowestId :
    claiming.claimSource 3 = some 40 ∧ claiming.eligible 41 = true ∧ claiming.srcCtx 41 = 3 ∧ State.reset.claimSource 3 = none := by
  decide +kernel

theorem witness_CriticalSourcesFollowTheirLevel :
    bit? ((setLevel 31 true).run State.reset).eng.irq.levels 31 = true ∧ bit? State.reset.eng.irq.levels 1 = false ∧
      State.reset.srcActive 1 = false := by decide +kernel

theorem witness_TimerRestartsLoadTheBuffers :
    bit? (State.reset.rd (R.TM_CTRL 63)) 0 = false ∧ bit? ((dev [(R.TM_CTRL 63, 1)]).rd (R.TM_CTRL 63)) 0 = true ∧
      (dev [(R.TM_CTRL 63, 1)]).ticking 63 = true := by decide +kernel

theorem witness_TimerTicksCountDownAndWrap :
    ((dev [(R.TM_CTRL 0, 1), (R.TM_COUNT 0, 1)]).ticking 0 = true ∧ ((dev [(R.TM_CTRL 0, 1), (R.TM_COUNT 0, 1)]).timer 0).due ≤ 0 ∧
      0 < (dev [(R.TM_CTRL 0, 1), (R.TM_COUNT 0, 1)]).rd (R.TM_COUNT 0)) ∧
    (dev [(R.TM_CTRL 0, 1), (R.TM_RELOAD 0, 9)]).ticking 0 = true ∧ (dev [(R.TM_CTRL 0, 1), (R.TM_RELOAD 0, 9)]).rd (R.TM_COUNT 0) = 0 ∧
    (dev [(R.TM_CTRL 1, 1)]).ticking 1 = true ∧ R.TM_FLAGS 1 ≠ R.TM_FLAGS 0 ∧ (R.TM_FLAGS 1).idx = 0x0321 := by decide +kernel

theorem witness_LocksAreTakenInAscendingOrder :
    locksFor [(0x3471, 2), (0x2010, 0), (0x10, 0)] = [(0x10, 0), (0x2002, 0), (0x2010, 0), (0x3470, 2), (0x3471, 2)] := by decide +kernel

/-- What a write, or a read, that passes its checks names. -/
def passes {α β : Type} : Sum α β → Bool
  | .inr _ => true
  | .inl _ => false

theorem witness_AccessesPassOnlyWithTheRights :
    passes (State.reset.checkWrite (.ap 16) false ⟨R.CREDITS, 1, 0, [4]⟩) = true ∧
      passes (State.reset.checkRead (.ap 16) ⟨R.CREDITS, 1, 0, []⟩) = true ∧
      passes ((ses 0 []).checkRead (.ddp 0) ⟨R.CREDITS, 1, 0, []⟩) = true ∧
      passes ((ses 0 []).checkWrite (.ddp 0) false ⟨R.CREDITS, 1, 0, [4]⟩) = false := by decide +kernel

theorem witness_FrozenMastersAccessesWait : ((violate 17 kindWindow 0 0 []).run State.reset).frozen 17 = true ∧
    ((violate 17 kindWindow 0 0 []).run State.reset).masterUp 17 = true ∧ ((violate 3 kindWindow 0 0 []).run State.reset).frozen 3 = true := by
  decide +kernel

theorem witness_ViolationsFreezeTheirMaster : State.reset.frozen 24 = false ∧
    ((violate 24 kindProtocol 3 0 []).run State.reset).frozen 24 = true := by decide +kernel

theorem witness_ServoSteersWithoutAJump : State.reset.rd R.SV_RATE_MAX < 2 ^ 62 ∧
    (¬ (0 < State.reset.rd R.SV_STEP_NS ∧ State.reset.rd R.SV_STEP_NS < (5 : Int).natAbs)) ∧
    (0 < (dev [(R.SV_STEP_NS, 3)]).rd R.SV_STEP_NS ∧ (dev [(R.SV_STEP_NS, 3)]).rd R.SV_STEP_NS < (-5 : Int).natAbs) ∧
    R.CREDITS ≠ R.SV_FREQ ∧ R.CREDITS ≠ R.TU_RATE := by decide +kernel

theorem witness_LinkSequenceWraps : seqAhead 1 4095 = true ∧ seqAhead 2047 4095 = true ∧ seqAhead 2048 4095 = false ∧ 4094 < 4095 := by
  decide

theorem witness_SubBandsAreTheLowestThatContain :
    (dev [(R.SB_HIGH 31, 10)]).subBand 5 10 = some 31 ∧ (dev [(R.SB_HIGH 31, 10)]).subBand 5 11 = none := by decide +kernel

/-- A transmission of 1 ms at port 0 in sub-band 0, which has a budget of 1 s. -/
def air0 : TallyTx := ⟨0, 500, 10, 1000000 * uNs, none⟩

theorem witness_AdmittedRequestsStayWithinTheBudget :
    passes ((dev [(R.SB_HIGH 0, 1000), (R.SB_BUDGET 0, 1000)]).judgeTxs [] [air0, air0]) = true := by decide +kernel

theorem witness_GatesFollowTheEntryInForce : State.reset.rd (glRef 0 3 0) = 0 ∧
    1 ≤ (dev [(glRef 1 3 0, 2), (glRef 1 3 4, 0x01000003E8)]).rd (glRef 1 3 0) ∧
    0 < (dev [(glRef 1 3 0, 2), (glRef 1 3 4, 0x01000003E8)]).glCycle 1 3 := by decide +kernel

/-- Three requesters that wait, with 10, 0 and 30 tickets (the example of R440). -/
def three : List (Nat × Nat × Nat) := [(0, 5, 10), (1, 4, 0), (2, 6, 30)]

theorem witness_LotteryGrantsByTicketsAndAge : three ≠ [] ∧ three.Pairwise (fun x y => x.1 < y.1) ∧ 1 < 2 ^ 32 ∧
    (arbDecide 16 ⟨1, 0⟩ three).2.1 = false ∧ (arbDecide 16 ⟨1, 15⟩ three).2.1 = true ∧ (arbDecide 16 ⟨1, 15⟩ three).1 = some 1 := by
  decide +kernel

theorem witness_WhiteningIsPn9 : 0x1FF < 512 ∧ 0 < 512 := by decide

theorem witness_EncodingProducesTheUniqueCodeword :
    (List.replicate 576 1).length = 576 ∧ (∀ b ∈ List.replicate 576 1, b ≤ 1) ∧ syndromeZero 1 (ldpcEncode 1 (List.replicate 576 1)) = true ∧
      (ldpcEncode 1 (List.replicate 576 1)).length = dlBits 1 := by decide +kernel

theorem witness_ReceiverUndoesWhiteningAndInterleaving : 6 ≤ (List.replicate 286 0xA5).length ∧ (List.replicate 286 0xA5).length ≤ 286 := by
  decide

theorem witness_HeaderCodeCorrectsThreeErrors : 0xFC7F < 2 ^ 16 ∧ dlIndex 0x1C80 ≤ dlTotal 0x1C80 ∧ [1, 16, 31].Nodup ∧
    (∀ i ∈ [0, 1, 16, 31], i < 32) ∧ [0, 1, 16, 31].Nodup ∧ 0 ∉ [1, 16, 31] := by decide

theorem witness_LegacyResetTakesOneValue : State.reset.hostLimited (.ap 16) R.LEGACY_RESET = false ∧ State.reset.rd R.LEGACY_ON ≠ 0 ∧
    2 ≤ State.reset.whoPriv (.ap 16) ∧ (dev [(R.LEGACY_ON, 0)]).hostLimited (.ap 17) R.LEGACY_RESET = false ∧
    (dev [(R.LEGACY_ON, 0)]).rd R.LEGACY_ON = 0 := by decide +kernel

theorem witness_TapInstructionsChangeTheTapAlone : State.reset.calm 7 = true ∧ State.reset.eng.txn.behind = [] ∧
    (tapLoad 4 |>.run State.reset).eng.flt.tap ∈ [0x03, 0x04, 0x05] := by decide +kernel

/-- A HELLO on UDP with an offer word. -/
def hello0 (offer : Nat) : DdpMsg :=
  ⟨0, 0, 0, 0, 0, ddpWords tyHello 0 0 0 0 0 0 [0, 0, BitVec.ofNat 64 offer, BitVec.ofNat 64 (0xFFFF * 2 ^ 48 + 8)], []⟩

/-- What the HELLO of a statement must be, in a state. -/
def sound (s : State) (m : DdpMsg) : Bool := msgOk m && s.transportOpen m && decide (2 ≤ m.words.length) && m.session == 0 && m.parses &&
  m.type == tyHello && m.flags == 0 && decide (m.size ≤ sizeLimit m.transport) && m.payload.length == 4

theorem witness_SessionsTakeTheFirstVersionOffered :
    sound ((dev [(R.UDP_EN, 1)]).ready 0) (hello0 0x11) = true ∧ chooseVersion ((hello0 0x11).payload.getD 2 0).toNat = none ∧
    sound ((dev [(R.UDP_EN, 1), (R.LEGACY_EN, 0)]).ready 0) (hello0 0x24320000) = true ∧
    chooseVersion ((hello0 0x24320000).payload.getD 2 0).toNat = some 0x24 ∧ 0x24 / 16 = 2 ∧
    ((dev [(R.UDP_EN, 1), (R.LEGACY_EN, 0)]).ready 0).rd R.LEGACY_EN = 0 := by decide +kernel

/-! ## What the spec works out by hand -/

/-- Chapter 03, worked example: 0x0040/2/0 is at 0x0040_0400_2000, with its aliases at 0x0040_0400_2800 and 0x0040_0400_2C00. -/
theorem test_aperture_addresses : apAddress ⟨0x40, 2, 0⟩ 0 = 0x4004002000 ∧ apAddress ⟨0x40, 2, 0⟩ 1 = 0x4004002800 ∧
    apAddress ⟨0x40, 2, 0⟩ 2 = 0x4004002C00 := by decide

/-- Chapter 19, worked example: the push members of from-host FIFO 6. -/
theorem test_push_address : apDecode 0x4039106010 = (R.HF_END 6, 0) := by decide

/-- Chapter 03, worked example: the ref word of the WRITE names member 0 of 0x0040/2, one value. -/
theorem test_ref_word : (itemOf 0x0040000002000100 0 []).ref = ⟨0x40, 2, 0⟩ ∧ (itemOf 0x0040000002000100 0 []).count = 1 := by decide

/-- R440: with tickets 10, 0 and 30 and s mod 40 = 27, the draw grants the third requester. -/
theorem test_lottery_draw : drawn 27 0 three = some 2 := by decide

/-- Chapter 07, worked example: the header 0x0D35 is sent as 0x0D358D9E. -/
theorem test_header_code : dlEncodeHeader 0x0D35 = 0x0D358D9E := by decide +kernel

/-- Chapter 09, worked example: DRIFT 18,836 ppb and UNCERT 115,495 ns after the ACK, from DRIFT 18,000 and UNCERT 120,000. -/
theorem test_sample_estimate : observed 0 18000 120000 1000000000 8 160000 61001200000 = (18836, 115495) := by decide +kernel

/-- Chapter 16, worked example: o = 50 at SV_FREQ −1,250,000 and the servo's defaults. -/
theorem test_servo :
    ((servo 50).run ((wri R.SV_FREQ (-1250000)).run State.reset)).rdi R.SV_FREQ = -1290000 ∧
      ((servo 50).run ((wri R.SV_FREQ (-1250000)).run State.reset)).rdi R.TU_RATE = -1690000 := by decide +kernel

/-- Chapter 17: the heartbeat word with SEQ 5 is 0xA8. -/
theorem test_heartbeat_word : hbWord 5 = 0xA8 := by decide

/-- Chapter 20, worked example, step 1: at count 749 timer 5 matches, and the compare advances by −250 to 499. -/
theorem test_timer_match : (fun s : State => (s.rd (R.TM_COUNT 5), s.rd (R.TM_CMP 5), s.rd (R.TM_FLAGS 5)))
    ((timerTick 5).run (adj (dev [(R.TM_CTRL 5, 0x3F03), (R.TM_COUNT 5, 750), (R.TM_CMP 5, 749), (R.TM_RELOAD 5, 999)]) fun e =>
      { e with timers := [(5, ⟨0, none, -250⟩)] })) = (749, 499, 2) := by decide +kernel

/-- Chapter 20, worked example, step 2: the compare after 249 is −1 modulo 2^64. -/
theorem test_timer_compare_wraps : (fun s : State => s.rd (R.TM_CMP 5))
    ((timerTick 5).run (adj (dev [(R.TM_CTRL 5, 0x3F03), (R.TM_COUNT 5, 250), (R.TM_CMP 5, 249), (R.TM_RELOAD 5, 999)]) fun e =>
      { e with timers := [(5, ⟨0, none, -250⟩)] })) = 2 ^ 64 - 1 := by decide +kernel

/-- Chapter 23, worked example: the record of master 9's write against its privilege, before SEEN. -/
theorem test_violation_record :
    ((violate 9 kindPrivilege 1 0x4001000008 []).run State.reset).rd (R.VR_WORD 0) = 0x8009210000000000 := by decide +kernel

/-- Commands that name an instance the device does not have are refused: one term for each check of WellFormed. -/
theorem test_wellFormed_refuses : ([.objectWrite 0 (.ap 19) R.CREDITS [0], .objectWrite 0 (.ddp 64) R.CREDITS [0],
    .objectWrite 0 .dev R.CREDITS [0], .setAliasWrite 0 19 R.CREDITS 0, .hello 0 { hello0 0 with eth := 5 },
    .hello 0 { hello0 0 with transport := 1 }, .authTimeout 0 64, .authLockoutEnd 0 4096, .txnApply 0 0, .txnApply 0 65,
    .rxSynthUnlock 0 24, .coexGrantWithdrawn 0 4 100 [], .wakePatternAccepted 0 8 0xE5 (2 ^ 32),
    .wakePatternAccepted 0 8 256 0, .syncMiss 0 2048, .dlGroupExpire 0 4096,
    .snFollowOn 0 0, .snFollowOn 0 (2 ^ 23), .snNodeConfigWrite 0 (.ap 16) 1 3 0, .ntClaimTimeout 0 16, .reasmTimeout 0 4,
    .nodeWindowAccess 0 16 32 0 false 0, .nodeWindowAccess 0 16 0 256 false 0, .ethRelease 0 5, .meshRelease 0 4096, .hostRelease 0 4096,
    .fabricRelease 0 4096, .gateEntryChange 0 4, .keyPromote 0 4096, .leapSweep 0 (2 ^ 23), .imSealDone 0 64,
    .caMulticastStart 0 4, .mdioRead 0 (.ap 16) (2 ^ 62), .mdioWrite 0 (.ap 16) 0, .witHeartbeatAlive 0 2 [], .witStateCode 0 0 4 1000,
    .fbNakRx 0 0 [2 ^ 64], .arbDecide 0 8 [], .hfHeldWriteDone 0 32, .ringBusError 0 64, .pcieLinkChange 0 true 17 0, .irqEdge 0 31,
    .irqEdge 0 53, .irqEdge 0 196, .irqLevelChange 0 0 true, .irqLevelChange 0 32 true, .msixUnmask 0 64, .timerTick 0 64] :
      List Instr).all (fun c => !(wellFormed c)) = true := by decide +kernel

theorem test_wellFormed_refuses_more : ([.dramPatrolScrub 0 [(2, 0, true)], .irqSoftwareSet 0 (.ap 16) 32 0,
    .railsGood 0 (2 ^ 12) (List.replicate 24 0),
    .railsGood 0 0 [0], .brownOut 0 [(24, 0)], .dramTrained 0 0 7 [] [], .dramTrained 0 0 65 [] [], .agcBreak 0 0 129, .fbLaneLock 0 0 [0, 1, 2],
    .pllLock 0 14, .bootImageVerified 0 2, .acLockup 0 8 0, .rsReqCore 0 (.ap 16) 32 false, .rsRelease 0 (.ap 16) 8 0, .debugResetRequest 0 11 true 0,
    .wrapperOpen 0 17, .tamperLatch 0 2 0, .ledgerAudit 0 [800], .accessViolation 0 25 1 0 0, .accessViolation 0 0 0 0 0,
    .accessViolation 0 0 4 0 0, .accessViolation 0 0 1 4 0, .fatalError 0 7 0, .fatalError 0 0 0, .fatalError 0 1 (2 ^ 64), .perturbationApply 0 256 0,
    .debugHalt 0 10, .dumpComplete 0 false [2 ^ 64] []] : List Instr).all (fun c => !(wellFormed c)) = true := by decide +kernel

/-! ## The hypotheses of the completion statements can be met, clause by clause -/

/-- Every clause of AccessesComplete. -/
theorem witness_AccessesComplete : (
    -- objectWrite
    (let s₀ : State := State.reset
     let s := s₀.ready 0
     let r : Ref := R.IDLE_LIMIT
     let m : Nat := 16
     let c : Ref := R.IDLE_LIMIT
     let v : Word := 500
     (whoOk (.ap m)) &&
     (s.keeps (.ap m) r c 0 v)) &&
    -- objectWrite
    (let s₀ : State := State.reset
     let s := s₀.ready 0
     let r : Ref := R.TU_CMD
     let m : Nat := 16
     let c : Ref := R.TU_CMD
     let v : Word := 1
     (whoOk (.ap m)) &&
     (s.starts (.ap m) r c v)) &&
    -- objectWrite
    (let s₀ : State := State.reset
     let s := s₀.ready 0
     let m : Nat := 16
     (whoOk (.ap m))) &&
    -- objectWrite
    (let s₀ : State := ses 3 []
     let s := s₀.ready 0
     let r : Ref := R.IDLE_LIMIT
     let vals : List Word := [500]
     let k : Nat := 0
     (whoOk (.ddp k)) &&
     decide (s.rd (R.S_STATE k) = 2) &&
     (match s.accepted (.ddp k) ⟨r, vals.length, 0, vals⟩ with
     | some (u, vs) =>
       true
     | _ => false)) &&
    -- setAliasWrite
    (let s₀ : State := State.reset
     let s := s₀.ready 0
     let m : Nat := 16
     let r : Ref := R.IRQ_PENDING 0
     let v : Word := 2
     let c : Ref := R.IRQ_PENDING 0
     (masterOk m) &&
     (s.keeps (.ap m) r c 1 v)) &&
    -- clearAliasWrite
    (let s₀ : State := State.reset
     let s := s₀.ready 0
     let m : Nat := 16
     let r : Ref := R.IRQ_PENDING 0
     let v : Word := 2
     let c : Ref := R.IRQ_PENDING 0
     (masterOk m) &&
     (s.keeps (.ap m) r c 2 v)) &&
    -- apertureError
    (let s₀ : State := State.reset
     let s := s₀.ready 0
     let m : Nat := 16
     let addr : Nat := 0x4000000000
     let size : Nat := 4
     (masterOk m) &&
     decide (0x4000000000 ≤ addr) &&
     decide (addr < 0x4800000000) &&
     decide (size ≠ 8 ∨ addr % 8 ≠ 0) &&
     decide (s.frozen m = false) &&
     (s.masterUp m)) &&
    -- apertureError
    (let s₀ : State := State.reset
     let s := s₀.ready 0
     let m : Nat := 16
     let addr : Nat := 0x47FFFFFFF8
     let write : Bool := true
     (masterOk m) &&
     decide (0x4000000000 ≤ addr) &&
     decide (addr < 0x4800000000) &&
     decide (s.apTarget m (apDecode addr).1 write = none) &&
     decide (s.frozen m = false) &&
     (s.masterUp m)) &&
    -- agentAccessTimeout
    (let s₀ : State := State.reset
     let s := s₀.ready 0
     let w : Who := .ap 16
     (whoOk w) && (
       let limit := (if isDdp w then 10000000 else 2 ^ 20)
       let waits := (s.eng.txn.waits.filter fun x => decide (x.since + limit ≤ s.now) && match x.what with
         | .item who _ => who == w
         | .run r => w == .ddp r.slot
         | .commit _ => false)
       let pushes := (s.eng.host.inp.filter fun e => match e.2.held with
         | some h => h.who == w && decide (h.since + limit ≤ s.now)
         | none => false)
       let behind := (s.eng.txn.behind.filter fun b => w == .ap b.m && s.accessLate b.since)
       decide (waits.isEmpty ∧ pushes.isEmpty ∧ behind.isEmpty))) &&
    -- agentAccessTimeout
    (let s₀ : State := adj (ses 3 []) fun e => { e with txn := { e.txn with waits := [⟨0, .item (.ddp 0) ⟨R.CREDITS, 1, 0, [4]⟩⟩] } }
     let s := s₀.ready 10000000
     let w : Who := .ddp 0
     (whoOk w) && (
       let limit := (if isDdp w then 10000000 else 2 ^ 20)
       let waits := (s.eng.txn.waits.filter fun x => decide (x.since + limit ≤ s.now) && match x.what with
         | .item who _ => who == w
         | .run r => w == .ddp r.slot
         | .commit _ => false)
       let pushes := (s.eng.host.inp.filter fun e => match e.2.held with
         | some h => h.who == w && decide (h.since + limit ≤ s.now)
         | none => false)
       let behind := (s.eng.txn.behind.filter fun b => w == .ap b.m && s.accessLate b.since)
       decide (¬ (waits.isEmpty ∧ pushes.isEmpty ∧ behind.isEmpty)))) &&
    -- wideValueRead
    (let s₀ : State := State.reset
     let s := s₀.ready 0
     let m : Nat := 16
     let r : Ref := R.EP_TIME 0
     (masterOk m) &&
     (match s.reads m r with
     | some q =>
       (match row? q with
       | some row =>
         decide (row.cls ≠ .wo) &&
         (row.lowest q)
       | _ => false)
     | _ => false)) &&
    -- wideValueRead
    (let s₀ : State := adj (State.reset) fun e => { e with txn := { e.txn with snaps := [((.ap 16, R.EP_TIME 1), 7)] } }
     let s := s₀.ready 0
     let m : Nat := 16
     let r : Ref := R.EP_TIME 1
     (masterOk m) &&
     (match s.reads m r with
     | some q =>
       (match row? q with
       | some row =>
         decide (row.cls ≠ .wo) &&
         decide (row.lowest q = false) &&
         (match s.eng.txn.snaps.find? (fun e => e.1.1 == .ap m && e.1.2 == q) with
         | some e =>
           true
         | _ => false)
       | _ => false)
     | _ => false)) &&
    -- readClears
    (let s₀ : State := State.reset
     let s := s₀.ready 0
     let m : Nat := 16
     let r : Ref := R.APERTURE_ERR
     (masterOk m) &&
     (match s.reads m r with
     | some q =>
       (match row? q with
       | some row =>
         decide (row.cls = .rc) &&
         decide (row.width = 1) &&
         decide (q.idx ∉ [0x0304, 0x0306, 0x0390, 0x3100, 0x4011, 0x5210, 0x7010])
       | _ => false)
     | _ => false))) = true := by decide +kernel

/-- Every clause of MessagesComplete. -/
theorem witness_MessagesComplete : (
    -- hello
    (let s₀ : State := dev [(R.UDP_EN, 1), (R.ANON_OBSERVER, 1)]
     let s := s₀.ready 0
     let msg : DdpMsg := ⟨0, 0, 0, 0, 0, ddpWords 0x01 0 0 1 0 0 0 [0, 0, 0x32000000, 0xFFFF000000000001], []⟩
     let opens := true
     (msgOk msg) &&
     (s.transportOpen msg) &&
     decide (2 ≤ msg.words.length) &&
     decide (msg.session = 0) &&
     msg.parses &&
     decide (msg.type = tyHello) &&
     decide (msg.flags = 0) &&
     decide (msg.size ≤ sizeLimit msg.transport) &&
     decide (msg.payload.length = 4) &&
     (match chooseVersion (msg.payload.getD 2 0).toNat with
     | some v =>
       let key := fld (msg.payload.getD 3 0).toNat 63 48
       let credits := min (min (fld (msg.payload.getD 3 0).toNat 7 0) (s.rd R.CREDITS)) (1024 - s.sessionCredits)
       decide (s.helloFault msg (some v) key credits = 0) &&
       (match (List.range 64).find? (fun k => s.rd (R.S_STATE k) == 0) with
       | some k =>
         decide (opens = decide (msg.transport = 1 ∨ key = 0xFFFF))
       | _ => false)
     | _ => false)) &&
    -- auth
    (let s₀ : State := adj (dev [(R.UDP_EN, 1), (R.S_STATE 0, 1), (R.S_ID 0, 1), (R.S_VERSION 0, 0x32)]) fun e => { e with sess := [(0, sess0)] }
     let s := s₀.ready 0
     let msg : DdpMsg := msg 0x03 0 [0, 0]
     (msgOk msg) &&
     (s.transportOpen msg) &&
     decide (2 ≤ msg.words.length) &&
     decide (msg.session ≠ 0) &&
     (match (List.range 64).find? (fun k => s.rd (R.S_STATE k) != 0 && s.rd (R.S_ID k) == msg.session) with
     | some k =>
       decide (s.rd (R.S_TRANSPORT k) = msg.transport) &&
       decide (s.rd (R.S_BIND k) = msg.bind) &&
       decide (msg.transport ≠ 0 ∨ (s.word (R.S_PEER k 0) = msg.peerHi ∧ s.word (R.S_PEER k 1) = msg.peerLo)) &&
       (s.alive k) &&
       decide (s.rd (R.S_STATE k) = 1) &&
       msg.parses &&
       decide (msg.type = tyAuth) &&
       decide (msg.payload.length = 2) &&
       (match aget s.eng.sess k with
       | some q =>
         decide (s.now ≤ q.offered + 2000000000)
       | _ => false)
     | _ => false)) &&
    -- close
    (let s₀ : State := ses 3 []
     let s := s₀.ready 0
     let msg : DdpMsg := msg 0x05 0 []
     let k : Nat := 0
     (msgOk msg) &&
     (match s.asks k msg with
     | some c =>
       decide (c.type = tyClose)
     | _ => false)) &&
    -- keepalive
    (let s₀ : State := ses 3 []
     let s := s₀.ready 0
     let msg : DdpMsg := msg 0x08 0 []
     let k : Nat := 0
     (msgOk msg) &&
     (match s.asks k msg with
     | some c =>
       decide (c.type = tyKeepalive)
     | _ => false)) &&
    -- read
    (let s₀ : State := ses 3 []
     let s := s₀.ready 0
     let msg : DdpMsg := msg 0x10 0 [0x0000000000000100]
     let k : Nat := 0
     (msgOk msg) &&
     (match s.asks k msg with
     | some c =>
       decide (c.type = tyRead)
     | _ => false)) &&
    -- write
    (let s₀ : State := ses 3 []
     let s := s₀.ready 0
     let msg : DdpMsg := msg 0x12 0 [0x0040000002000100, 1]
     let k : Nat := 0
     (msgOk msg) &&
     (match s.asks k msg with
     | some c =>
       decide (c.type = tyWrite)
     | _ => false)) &&
    -- setBits
    (let s₀ : State := ses 3 []
     let s := s₀.ready 0
     let msg : DdpMsg := msg 0x14 0 [0x0040000002000100, 1]
     let k : Nat := 0
     (msgOk msg) &&
     (match s.asks k msg with
     | some c =>
       decide (c.type = tySet)
     | _ => false)) &&
    -- clearBits
    (let s₀ : State := ses 3 []
     let s := s₀.ready 0
     let msg : DdpMsg := msg 0x15 0 [0x0040000002000100, 1]
     let k : Nat := 0
     (msgOk msg) &&
     (match s.asks k msg with
     | some c =>
       decide (c.type = tyClear)
     | _ => false)) &&
    -- txnOpen
    (let s₀ : State := ses 3 []
     let s := s₀.ready 0
     let msg : DdpMsg := msg 0x20 0 []
     let k : Nat := 0
     (msgOk msg) &&
     (match s.asks k msg with
     | some c =>
       decide (c.type = tyOpen)
     | _ => false)) &&
    -- txnCommit
    (let s₀ : State := adj (ses 3 [(R.T_STATE 1, 1)]) fun e => { e with txn := { e.txn with txns := [(1, ⟨.ddp 0, 1, [], 0, [], .none, none, [], [], none, none⟩)] } }
     let s := s₀.ready 0
     let msg : DdpMsg := msg 0x22 1 [0, 0, 0, 0]
     let k : Nat := 0
     (msgOk msg) &&
     (match s.asks k msg with
     | some c =>
       decide (c.type = tyCommit) &&
       (match s.txn? c.txn with
       | some x =>
         decide (x.who = .ddp k) &&
         decide (s.rd (R.T_STATE c.txn) = 1) &&
         decide (bit? (s.rd (R.T_LINK c.txn)) 11 = false)
       | _ => false)
     | _ => false)) &&
    -- txnAbort
    (let s₀ : State := adj (ses 3 [(R.T_STATE 1, 1)]) fun e => { e with txn := { e.txn with txns := [(1, ⟨.ddp 0, 1, [], 0, [], .none, none, [], [], none, none⟩)] } }
     let s := s₀.ready 0
     let msg : DdpMsg := msg 0x24 1 []
     let k : Nat := 0
     (msgOk msg) &&
     (match s.asks k msg with
     | some c =>
       decide (c.type = tyAbort) &&
       (match s.txn? c.txn with
       | some x =>
         decide (x.who = .ddp k) &&
         decide (s.rd (R.T_STATE c.txn) < 3 ∨ bit? (s.rd (R.T_LINK c.txn)) 11 = false)
       | _ => false)
     | _ => false)) &&
    -- subscribe
    (let s₀ : State := ses 3 []
     let s := s₀.ready 0
     let msg : DdpMsg := msg 0x30 0 [0xFFFF]
     let k : Nat := 0
     (msgOk msg) &&
     (match s.asks k msg with
     | some c =>
       decide (c.type = tySubscribe)
     | _ => false)) &&
    -- mbxDoorbell
    (let s₀ : State := ses 3 []
     let s := s₀.ready 0
     let w : Who := .ddp 0
     let k : Nat := 0
     let msg : List Word := []
     let bad : Bool := false
     let rspBad : Bool := false
     (whoOk w) && (
       let v := (hostMemory msg bad).run s
       let u := (setHost fun g => { g with rspBad := rspBad }).run v
       (u.takes w (R.MBX_DOORBELL k) 1) &&
       decide (u.rd (R.MBX_STATUS k) ≠ 1)))) = true := by decide +kernel

/-- Every clause of SessionsComplete. -/
theorem witness_SessionsComplete : (
    -- authTimeout
    (let s₀ : State := adj (dev [(R.S_STATE 0, 1)]) fun e => { e with sess := [(0, sess0)] }
     let s := s₀.ready 2000000000
     let k : Nat := 0
     (sessOk k) &&
     (match aget s.eng.sess k with
     | some q =>
       (s.rd (R.S_STATE k) == 1 && decide (q.offered + 2000000000 ≤ s.now))
     | _ => false)) &&
    -- authLockoutEnd
    (let s₀ : State := adj (State.reset) fun e => { e with txn := { e.txn with shut := [(5, 0)] } }
     let s := s₀.ready 60000000000
     let key : Nat := 5
     (keyOk key) &&
     (match aget s.eng.txn.shut key with
     | some u =>
       (decide (u + 60000000000 ≤ s.now))
     | _ => false)) &&
    -- keepaliveTimeout
    (let s₀ : State := ses 3 []
     let s := s₀.ready 30000000000
     let k : Nat := 0
     (sessOk k) &&
     (match aget s.eng.sess k with
     | some q =>
       (decide (q.heard + 3 * q.period ≤ s.now))
     | _ => false)) &&
    -- sessionCloseComplete
    (let s₀ : State := ses 3 [(R.S_STATE 0, 3)]
     let s := s₀.ready 0
     let k : Nat := 0
     (sessOk k) &&
     (match aget s.eng.sess k with
     | some q =>
       decide (¬(s.rd (R.S_STATE k) ≠ 3 ∨ s.executing k))
     | _ => false)) &&
    -- sKill
    (let s₀ : State := ses 3 []
     let s := s₀.ready 0
     let w : Who := .ddp 0
     let k : Nat := 0
     (whoOk w) &&
     (s.takes w (R.S_KILL k) 1) && (
       let u := (wr (R.S_KILL k) 0).run s
       (u.rd (R.S_STATE k) == 2))) &&
    -- ddpEventSend
    (let s₀ : State := adj (ses 3 []) fun e => { e with sess := [(0, { sess0 with evq := [⟨1, 0, 0, 0, 0⟩] })] }
     let s := s₀.ready 0
     let k : Nat := 0
     (sessOk k) &&
     (match aget s.eng.sess k with
     | some q =>
       let box := s.rd (R.S_BIND k)
       let mailbox := (s.rd (R.S_TRANSPORT k) == 1)
       (match q.evq with
       | e :: rest =>
         decide (¬(s.rd (R.S_STATE k) ≠ 2 ∨ (mailbox ∧ s.rd (R.MBX_STATUS box) = 1)))
       | _ => false)
     | _ => false))) = true := by decide +kernel

/-- Every clause of TransactionsComplete. -/
theorem witness_TransactionsComplete : (
    -- aOpen
    (let s₀ : State := State.reset
     let s := s₀.ready 0
     let m : Nat := 2
     (masterOk m) &&
     (s.starts (.ap m) (R.A_OPEN m) (R.A_OPEN m) 1)) &&
    -- aBind
    (let s₀ : State := adj (dev [(R.T_STATE 1, 1)]) fun e => { e with txn := { e.txn with txns := [(1, ⟨.ap 2, 1, [], 0, [], .none, none, [], [], none, none⟩)] } }
     let s := s₀.ready 0
     let m : Nat := 2
     let h : Word := 1
     (masterOk m) &&
     (s.keeps (.ap m) (R.A_BIND m) (R.A_BIND m) 0 h)) &&
    -- aCommit
    (let s₀ : State := adj (dev [(R.T_STATE 1, 1), (R.A_BIND 2, 1)]) fun e => { e with txn := { e.txn with txns := [(1, ⟨.ap 2, 1, [], 0, [], .none, none, [], [], none, none⟩)] } }
     let s := s₀.ready 0
     let m : Nat := 2
     (masterOk m) &&
     (s.starts (.ap m) (R.A_COMMIT m) (R.A_COMMIT m) 1) && (
       let u := (wr (R.A_COMMIT m) 0).run s
       let h := u.rd (R.A_BIND m)
       decide (h ≠ 0) &&
       decide (u.rd (R.T_STATE h) = 1) &&
       decide (bit? (u.rd (R.T_LINK h)) 11 = false))) &&
    -- aAbort
    (let s₀ : State := adj (dev [(R.T_STATE 1, 1), (R.A_BIND 2, 1)]) fun e => { e with txn := { e.txn with txns := [(1, ⟨.ap 2, 1, [], 0, [], .none, none, [], [], none, none⟩)] } }
     let s := s₀.ready 0
     let m : Nat := 2
     (masterOk m) &&
     (s.starts (.ap m) (R.A_ABORT m) (R.A_ABORT m) 1) && (
       let u := (wr (R.A_ABORT m) 0).run s
       let h := u.rd (R.A_BIND m)
       decide (h ≠ 0) &&
       decide (u.rd (R.T_STATE h) = 1))) &&
    -- tLinkWrite
    (let s₀ : State := adj (ses 3 [(R.T_STATE 1, 1)]) fun e => { e with txn := { e.txn with txns := [(1, ⟨.ddp 0, 1, [], 0, [], .none, none, [], [], none, none⟩)] } }
     let s := s₀.ready 0
     let w : Who := .ddp 0
     let h : Nat := 1
     let v : Word := 0
     (whoOk w) &&
     (s.stores w (R.T_LINK h) v)) &&
    -- txnLockTimeout
    (let s₀ : State := State.reset
     let s := s₀.ready 0
     true) &&
    -- txnLockGranted
    (let s₀ : State := State.reset
     let s := s₀.ready 0
     true) &&
    -- txnApply
    (let s₀ : State := adj (dev [(R.T_STATE 1, 3)]) fun e => { e with txn := { e.txn with txns := [(1, ⟨.ap 2, 1, [], 0, [], .none, none, [], [], none, none⟩)] } }
     let s := s₀.ready 0
     let h : Nat := 1
     (txnOk h) &&
     (s.rd (R.T_STATE h) == 3 && s.txnDue h)) &&
    -- txnIdleTimeout
    (let s₀ : State := State.reset
     let s := s₀.ready 0
     true) &&
    -- txnOutcomeQueryTimer
    (let s₀ : State := adj (dev [(R.T_STATE 1, 4), (R.T_LINK 1, 2048), (R.T_INSTANT 1, 2)]) fun e => { e with txn := { e.txn with txns := [(1, ⟨.ap 2, 1, [], 0, [], .none, none, [], [], none, some 0⟩)] } }
     let s := s₀.ready 0
     let h : Nat := 1
     (txnOk h) &&
     (match s.txn? h with
     | some x =>
       (match s.txnInstant h with
       | some u =>
         (s.rd (R.T_STATE h) == 4 && decide (u ≤ s.devTime + 100000 * uNs) && (x.touched == 0 || decide (x.touched + 1000000 ≤ s.now)))
       | _ => false)
     | _ => false)) &&
    -- txnOutcomeTimeout
    (let s₀ : State := adj (dev [(R.T_STATE 1, 4), (R.T_LINK 1, 2048), (R.T_INSTANT 1, 2)]) fun e => { e with txn := { e.txn with txns := [(1, ⟨.ap 2, 1, [], 0, [], .none, none, [], [], none, some 0⟩)] } }
     let s := s₀.ready 200000000
     let h : Nat := 1
     (txnOk h) &&
     (match s.txnInstant h with
     | some u =>
       (s.rd (R.T_STATE h) == 4 && decide (u + 100000000 * uNs ≤ s.devTime))
     | _ => false))) = true := by decide +kernel

/-- Every clause of ConfigurationsComplete. -/
theorem witness_ConfigurationsComplete : (
    -- wWrite
    (let s₀ : State := ses 3 []
     let s := s₀.ready 0
     let w : Who := .ddp 0
     let n : Word := 8
     (whoOk w) &&
     (s.takes w R.W_WRITE n)) &&
    -- wSeal
    (let s₀ : State := ses 3 []
     let s := s₀.ready 0
     let w : Who := .ddp 0
     (whoOk w) &&
     (s.takes w R.W_SEAL 1)) &&
    -- slErase
    (let s₀ : State := ses 3 []
     let s := s₀.ready 0
     let w : Who := .ddp 0
     let k : Nat := 0
     (whoOk w) &&
     (s.takes w (R.SL_ERASE k) 1)) &&
    -- modeApply
    (let s₀ : State := ses 3 []
     let s := s₀.ready 0
     let w : Who := .ddp 0
     (whoOk w) &&
     (s.takes w R.MODE_APPLY 1))) = true := by decide +kernel

/-- Every clause of PortsComplete. -/
theorem witness_PortsComplete : (
    -- tileTimedCommand
    (let s₀ : State := dev [(R.P_STATE 0, 2)]
     let s := s₀.ready 0
     let p : Nat := 0
     let u : Nat := 0
     let f : Nat := 863000000
     (portOk p) &&
     (s.blockUp (1 + p / 6)) &&
     (s.onTime (u * uNs)) &&
     decide (s.rd (R.P_STATE p) = 2) &&
     (s.needsCal p f)) &&
    -- tileTimedCommand
    (let s₀ : State := keyed 4
     let s := s₀.ready 0
     let p : Nat := 0
     let u : Nat := 0
     (portOk p) &&
     (s.blockUp (1 + p / 6)) &&
     (s.onTime (u * uNs)) &&
     (match (s.port p).req with
     | some r =>
       let f := s.feOf r
       decide (s.rd (R.P_STATE p) = 4 ∧ s.onTime (r.t0 - f.antLead * uNs) ∧ (¬ f.coex ∨ (s.port p).granted)) &&
       decide (s.assessing r.id = false)
     | _ => false)) &&
    -- tileTimedCommand
    (let s₀ : State := keyed 5
     let s := s₀.ready 7000
     let p : Nat := 0
     let u : Nat := 7000
     (portOk p) &&
     (s.blockUp (1 + p / 6)) &&
     (s.onTime (u * uNs)) &&
     (match (s.port p).req with
     | some r =>
       decide (s.rd (R.P_STATE p) = 5 ∧ s.onTime (r.t1 + (s.feOf r).antBack * uNs))
     | _ => false)) &&
    -- tileTimedCommand
    (let s₀ : State := dev [(R.P_STATE 0, 2)]
     let s := s₀.ready 0
     let p : Nat := 0
     let u : Nat := 0
     (portOk p) &&
     (s.blockUp (1 + p / 6)) &&
     (s.onTime (u * uNs)) &&
     decide (s.rd (R.P_STATE p) ≠ 5) &&
     decide (s.rd (R.P_STATE p) ≠ 0)) &&
    -- tileTimedCommand
    (let s₀ : State := State.reset
     let s := s₀.ready 0
     let p : Nat := 0
     let u : Nat := 0
     (portOk p) &&
     (s.blockUp (1 + p / 6)) &&
     (s.onTime (u * uNs))) &&
    -- tileTimedCommand
    (let s₀ : State := State.reset
     let s := s₀.ready 0
     let p : Nat := 0
     let u : Nat := 0
     (portOk p) &&
     (s.blockUp (1 + p / 6)) &&
     (s.onTime (u * uNs))) &&
    -- rxBlockCrcFail
    (let s₀ : State := State.reset
     let s := s₀.ready 0
     let p : Nat := 0
     (portOk p) &&
     (s.blockUp (1 + p / 6))) &&
    -- txBlockCrcFail
    (let s₀ : State := keyed 5
     let s := s₀.ready 0
     let p : Nat := 0
     (portOk p) &&
     (s.blockUp (1 + p / 6)) &&
     (match (s.port p).req with
     | some r =>
       let f := s.feOf r
       decide (s.rd (R.P_STATE p) = 5 ∧ r.t0 ≤ s.devTime + f.ramp * uNs ∧ s.devTime ≤ r.t1 + f.ramp * uNs)
     | _ => false)) &&
    -- pEnable
    (let s₀ : State := ses 3 []
     let s := s₀.ready 0
     let w : Who := .ddp 0
     let p : Nat := 0
     let v : Word := 1
     (whoOk w) &&
     (s.stores w (R.P_ENABLE p) v)) &&
    -- rxSynthUnlock
    (let s₀ : State := dev [(R.P_STATE 0, 2)]
     let s := s₀.ready 0
     let p : Nat := 0
     (portOk p) &&
     (s.blockUp (1 + p / 6)) &&
     decide (¬(s.rd (R.P_STATE p) = 0))) &&
    -- portStarted
    (let s₀ : State := dev [(R.P_STATE 0, 1)]
     let s := s₀.ready 0
     let p : Nat := 0
     (portOk p) &&
     (s.blockUp (1 + p / 6)) &&
     decide (¬(s.rd (R.P_STATE p) ≠ 1))) &&
    -- tsCalibrationDone
    (let s₀ : State := dev [(R.P_STATE 0, 3)]
     let s := s₀.ready 0
     let p : Nat := 0
     (portOk p) &&
     (s.blockUp (1 + p / 6)) &&
     decide (¬(s.rd (R.P_STATE p) ≠ 3))) &&
    -- tsCalibrationFail
    (let s₀ : State := dev [(R.P_STATE 0, 3), (R.TS_STATE 0, 1)]
     let s := s₀.ready 40000
     let p : Nat := 0
     (portOk p) &&
     (s.blockUp (1 + p / 6)) &&
     decide (¬(s.rd (R.P_STATE p) ≠ 3 ∨ s.rd (R.TS_STATE p) ≠ 1 ∨ s.now < (s.port p).calFrom + 40000))) &&
    -- coexGrantSample
    (let s₀ : State := State.reset
     let s := s₀.ready 0
     let p : Nat := 0
     let ball : Bool := false
     let held : Nat := 0
     (portOk p) &&
     (s.blockUp 7)) &&
    -- keyingStart
    (let s₀ : State := keyed 4
     let s := s₀.ready 0
     let p : Nat := 0
     (portOk p) &&
     (s.blockUp 7) &&
     (match (s.port p).req with
     | some r =>
       let f := s.feOf r
       decide (s.rd (R.P_STATE p) = 4 ∧ s.onTime (r.t0 - f.antLead * uNs) ∧ (¬ f.coex ∨ (s.port p).granted))
     | _ => false)) &&
    -- txFrameEnd
    (let s₀ : State := keyed 5
     let s := s₀.ready 7000
     let p : Nat := 0
     (portOk p) &&
     (s.blockUp 7) &&
     (match (s.port p).req with
     | some r =>
       decide (s.rd (R.P_STATE p) = 5 ∧ s.onTime (r.t1 + (s.feOf r).antBack * uNs))
     | _ => false)) &&
    -- coexGrantWithdrawn
    (let s₀ : State := State.reset
     let s := s₀.ready 0
     let tile : Nat := 0
     let held : Nat := 100
     (tileOk tile) &&
     (s.blockUp 7) &&
     (decide (100 ≤ held))) &&
    -- maskViolation
    (let s₀ : State := adj (keyed 5) fun e => { e with radio := { e.radio with ports := [(0, { port0 with req := some { req0 with t1 := 10 ^ 18 }, keyed := { keyedRest with mask := [(0, 0)], maskOn := true } })] } }
     let s := s₀.ready 128000
     let p : Nat := 0
     (portOk p) &&
     (s.blockUp (1 + p / 6))) &&
    -- pTxUnlock
    (let s₀ : State := ses 3 []
     let s := s₀.ready 0
     let w : Who := .ddp 0
     let p : Nat := 0
     (whoOk w) &&
     (s.takes w (R.P_TX_UNLOCK p) 1)) &&
    -- agcBreak
    (let s₀ : State := dev [(R.AGC_STATE 0, 2)]
     let s := s₀.ready 0
     let p : Nat := 0
     let clipped : Nat := 65
     (portOk p && decide (clipped ≤ 128)) &&
     (s.blockUp (1 + p / 6)) &&
     decide (s.rd (R.AGC_STATE p) = 2 ∧ s.rd (R.AGC_MODE p) = 0 ∧ 64 < clipped)) &&
    -- agcSettlingEnd
    (let s₀ : State := dev [(R.AGC_STATE 0, 3)]
     let s := s₀.ready 0
     let p : Nat := 0
     (portOk p) &&
     (s.blockUp (1 + p / 6)) &&
     decide (s.rd (R.AGC_STATE p) = 3)) &&
    -- lnaBypassChange
    (let s₀ : State := dev [(R.AGC_STATE 0, 1), (R.P_FE_CTRL 0, 0x3000)]
     let s := s₀.ready 0
     let p : Nat := 0
     (portOk p) &&
     (s.blockUp (1 + p / 6))) &&
    -- wakePatternAccepted
    (let s₀ : State := adj (State.reset) fun e => { e with radio := { e.radio with wake := some (5, 0, false, 0) }, rst := { e.rst with power := 1 } }
     let s := s₀.ready 0
     let preamble : Nat := 8
     let delimiter : Nat := 0xE5
     let word : Nat := 5
     (decide (word < 2 ^ 32) && decide (delimiter < 2 ^ 8)) &&
     (match s.eng.radio.wake with
     | some w' =>
       let m := wakeMatch w' word
       (s.eng.rst.power == 1 && wakeFramed preamble delimiter && m != 0)
     | _ => false))) = true := by decide +kernel

/-- Every clause of LanesComplete. -/
theorem witness_LanesComplete : (
    -- laneBindCell
    (let s₀ : State := dev [(R.P_STATE 0, 2)]
     let s := s₀.ready 0
     let p : Nat := 0
     (portOk p) &&
     (s.blockUp 7)) &&
    -- laneUnbind
    (let s₀ : State := State.reset
     let s := s₀.ready 0
     let p : Nat := 0
     (portOk p) &&
     (s.blockUp 7)) &&
    -- preambleDetect
    (let s₀ : State := dev [(R.L_STATE 0, 2), (R.P_STATE 0, 2)]
     let s := s₀.ready 0
     let l : Nat := 0
     let symbols : Nat := 64
     (laneOk l) &&
     (s.blockUp 5) && (
       let p := s.rd (R.L_PORT l)
       let mode := s.rd (R.L_MODE l)
       decide (¬(s.rd (R.L_STATE l) ≠ 2 ∨ s.rd (R.AGC_STATE p) = 4 ∨ (modeFamily mode ≠ 2 ∧ symbols < s.rd (R.CP_DET_SYMBOLS p)))))) &&
    -- preambleCapture
    (let s₀ : State := laneOn 3 none 0 [(R.CP_CAPTURE 0, 3)]
     let s := s₀.ready 0
     let l : Nat := 0
     let margin : Int := 12
     (laneOk l) &&
     (s.blockUp 5) && (
       let p := s.rd (R.L_PORT l)
       (match (s.lane l).frame with
       | some f =>
         decide (s.inSync l && s.rd (R.CP_CAPTURE p) != 0 && decide (4 * (s.rd (R.CP_CAPTURE p) : Int) ≤ margin))
       | _ => false))) &&
    -- syncMiss
    (let s₀ : State := laneOn 3 none 0 []
     let s := s₀.ready 0
     let l : Nat := 0
     (laneOk l) &&
     (s.blockUp 5) &&
     (s.inSync l)) &&
    -- sfdDetect
    (let s₀ : State := laneOn 3 none 0 []
     let s := s₀.ready 0
     let l : Nat := 0
     let fec : Bool := false
     let sync : Nat := 0
     (laneOk l) &&
     (s.blockUp 5) &&
     (match (s.lane l).frame with
     | some f =>
       let fsk := (modeFamily f.mode == 1)
       decide (¬(!(s.inSync l) || (fsk && fec && !(bit? f.mode 47)) || (modeFamily f.mode == 5 && sync != f.sync)))
     | _ => false)) &&
    -- phrReceived
    (let s₀ : State := laneOn 4 (some 0) (2 ^ 60) []
     let s := s₀.ready 0
     let l : Nat := 0
     (laneOk l) &&
     (s.blockUp 5) &&
     (match s.frameNow l with
     | some f =>
       decide (¬(f.tSof.isNone || modeFamily f.mode == 5))
     | _ => false)) &&
    -- rxFrameEnd
    (let s₀ : State := laneOn 4 (some 0) (2 ^ 60) []
     let s := s₀.ready 0
     let l : Nat := 0
     let psdu : List Nat := []
     (laneOk l && octets psdu) &&
     (s.blockUp 5) &&
     (match s.frameNow l with
     | some f =>
       decide (¬(f.tSof.isNone))
     | _ => false)) &&
    -- edDetectorFree
    (let s₀ : State := adj (State.reset) fun e => { e with lane := { e.lane with edWait := [⟨1, 0, 0, 0, 0, 0⟩] } }
     let s := s₀.ready 0
     let p : Nat := 0
     (portOk p) &&
     (s.blockUp 5) &&
     (match (s.eng.lane.edWait.find? fun e => e.port == p) with
     | some e =>
       decide (¬(16 ≤ (s.eng.lane.edBusy.filter fun b => b.port == p).length))
     | _ => false)) &&
    -- edResult
    (let s₀ : State := adj (State.reset) fun e => { e with lane := { e.lane with edBusy := [⟨1, 0, 0, 0, 0, 0⟩] } }
     let s := s₀.ready 0
     let req : Nat := 1
     (s.blockUp 5) &&
     (match (s.eng.lane.edBusy.find? fun e => e.req == req) with
     | some e =>
       decide (¬(s.now < e.start + e.len))
     | _ => false))) = true := by decide +kernel

/-- Every clause of DeepLinkComplete. -/
theorem witness_DeepLinkComplete : (
    -- dlHeaderDecode
    (let s₀ : State := laneOn 4 (some 0) (5 * 2 ^ 60) []
     let s := s₀.ready 0
     let l : Nat := 0
     let chips : List Int := []
     (laneOk l) &&
     (s.blockUp 6)) &&
    -- dlCopyCombine
    (let s₀ : State := adj (State.reset) fun e => { e with lane := { e.lane with copies := [copy0] } }
     let s := s₀.ready 0
     (s.blockUp 6) &&
     (match s.eng.lane.copies with
     | c :: rest =>
       true
     | _ => false)) &&
    -- dlDecodeGrant
    (let s₀ : State := adj (State.reset) fun e => { e with arb := [(1, ⟨1, 0⟩)], dl := { e.dl with groups := [(0, group0)], queues := [(0, [(0, 0, 0)])], decoders := [(1, ⟨0, 0, 0, 0, copy0, []⟩)], surplus := [(0, copy0)] } }
     let s := s₀.ready 0
     (s.blockUp 6) &&
     (match s.freeDecoder with
     | some j =>
       let d := arbDecide (s.rd (R.ARB_N 1)) (s.eng.arb.at 1 ⟨arbSeed 1, 0⟩) s.decodeWaiting
       (match d.1 with
       | some x =>
         true
       | _ => false)
     | _ => false)) &&
    -- dlDecodeEnd
    (let s₀ : State := adj (State.reset) fun e => { e with arb := [(1, ⟨1, 0⟩)], dl := { e.dl with groups := [(0, group0)], queues := [(0, [(0, 0, 0)])], decoders := [(1, ⟨0, 0, 0, 0, copy0, []⟩)], surplus := [(0, copy0)] } }
     let s := s₀.ready 0
     let d : Nat := 1
     (decoderOk d) &&
     (s.blockUp 6) &&
     (match aget s.eng.dl.decoders d with
     | some r =>
       true
     | _ => false)) &&
    -- dlGroupExpire
    (let s₀ : State := adj (State.reset) fun e => { e with arb := [(1, ⟨1, 0⟩)], dl := { e.dl with groups := [(0, group0)], queues := [(0, [(0, 0, 0)])], decoders := [(1, ⟨0, 0, 0, 0, copy0, []⟩)], surplus := [(0, copy0)] } }
     let s := s₀.ready 0
     let g : Nat := 0
     (dlGroupOk g) &&
     (s.blockUp 6) &&
     (match aget s.eng.dl.groups g with
     | some g' =>
       decide (¬(s.now < g'.first + g'.span))
     | _ => false)) &&
    -- dlSurplusReport
    (let s₀ : State := adj (State.reset) fun e => { e with arb := [(1, ⟨1, 0⟩)], dl := { e.dl with groups := [(0, group0)], queues := [(0, [(0, 0, 0)])], decoders := [(1, ⟨0, 0, 0, 0, copy0, []⟩)], surplus := [(0, copy0)] } }
     let s := s₀.ready 0
     (s.blockUp 7) &&
     (match s.eng.dl.surplus with
     | (y1, c) :: rest =>
       true
     | _ => false))) = true := by decide +kernel

/-- Every clause of CellsComplete. -/
theorem witness_CellsComplete : (
    -- tsRun
    (let s₀ : State := ses 3 []
     let s := s₀.ready 0
     let w : Who := .ddp 0
     let v : Word := 1
     (whoOk w) &&
     (s.stores w R.TS_RUN v)) &&
    -- txDecision
    (let s₀ : State := dev [(R.TS_RUN, 1), (⟨0x2010, 0, 0⟩, 101), (⟨0x2100, 3, 0⟩, 2 ^ 63 + 2 ^ 24)]
     let s := s₀.ready 5000000
     let p : Nat := 0
     (portOk p) &&
     (s.blockUp 7) &&
     (match s.decideAsn p with
     | some a =>
       true
     | _ => false)) &&
    -- txRetuneInstant
    (let s₀ : State := State.reset
     let s := s₀.ready 0
     let p : Nat := 0
     (portOk p) &&
     (s.blockUp 7)) &&
    -- ackWaitBind
    (let s₀ : State := adj (State.reset) fun e => { e with tsch := { e.tsch with atts := [att0] } }
     let s := s₀.ready 100000000
     let p : Nat := 0
     (portOk p) &&
     (s.blockUp 7)) &&
    -- ackTimeout
    (let s₀ : State := adj (State.reset) fun e => { e with tsch := { e.tsch with atts := [att0] } }
     let s := s₀.ready 0
     let p : Nat := 0
     (portOk p) &&
     (s.blockUp 7)) &&
    -- rxRecord
    (let s₀ : State := adj (State.reset) fun e => { e with lane := { e.lane with queues := [(0, [⟨0, 0, 0, 0, 0, 0, 0, 0, 0, 0, 0, .none, [], none⟩])] } }
     let s := s₀.ready 0
     let tile : Nat := 0
     (tileOk tile) &&
     (s.blockUp 7) &&
     (match s.eng.lane.queues.at tile [] with
     | r :: rest =>
       true
     | _ => false)) &&
    -- ebPeriod
    (let s₀ : State := dev [(R.EB_PERIOD 0, 100)]
     let s := s₀.ready 100000000
     let p : Nat := 0
     (portOk p) &&
     (s.blockUp 7) && (
       let fin := s.eng.tsch.ebFrom.at p 0 + s.rd (R.EB_PERIOD p) * 1000000
       (s.rd (R.EB_PERIOD p) != 0 && decide (fin ≤ s.now))))) = true := by decide +kernel

/-- Every clause of SleepyComplete. -/
theorem witness_SleepyComplete : (
    -- wheelBucket
    (let s₀ : State := dev [(R.TS_RUN, 1), (R.SN_EN, 1)]
     let s := s₀.ready 0
     (s.blockUp 8) &&
     decide (¬(s.rd R.TS_RUN = 0 ∨ s.rd R.SN_EN = 0))) &&
    -- snFollowOn
    (let s₀ : State := sleepy 4 1
     let s := s₀.ready 0
     let n : Nat := 5
     (nodeOk n) &&
     (s.blockUp 8) &&
     (match s.snEx? n with
     | some x =>
       decide (¬(x.step ≠ 4))
     | _ => false)) &&
    -- snDlNextCopy
    (let s₀ : State := sleepy 3 2
     let s := s₀.ready 1000000000
     let n : Nat := 5
     (nodeOk n) &&
     (s.blockUp 8) &&
     (match s.snEx? n with
     | some x =>
       true
     | _ => false)) &&
    -- snAckTimeout
    (let s₀ : State := sleepy 3 1
     let s := s₀.ready 0
     let n : Nat := 5
     (nodeOk n) &&
     (s.blockUp 8) &&
     (match s.snEx? n with
     | some x =>
       let coming := (x.sof && (((s.boundLanes (.ack x.req)).any fun l => (s.lane l).frame.isSome) ||
         s.eng.lane.queues.any fun q => q.2.any fun r => r.bind == .ack x.req))
       decide (x.step = 3 ∧ ¬ coming ∧ x.edge ≤ s.devTime)
     | _ => false)) &&
    -- ritRequestMissed
    (let s₀ : State := adj (dev [(R.SN_SERVICE 5, 2), (R.SN_STATUS 5, 2 ^ 61)]) fun e => { e with sn := { e.sn with plans := [(5, ⟨0, 0, false⟩)] } }
     let s := s₀.ready 0
     let n : Nat := 5
     (nodeOk n) &&
     (s.blockUp 8) &&
     (match aget s.eng.sn.plans n with
     | some p =>
       (s.snService n == 2 && s.snState n == 1 && decide (p.due ≤ s.devTime))
     | _ => false)) &&
    -- psTtlSweep
    (let s₀ : State := State.reset
     let s := s₀.ready 0
     (s.blockUp 8)) &&
    -- overflowGrant
    (let s₀ : State := adj (dev [(R.WH_FREE, 1)]) fun e => { e with sn := { e.sn with overflow := [5] } }
     let s := s₀.ready 0
     (s.blockUp 8) &&
     (match s.eng.sn.overflow with
     | n :: rest =>
       decide (¬(s.rd R.WH_FREE = 0))
     | _ => false)) &&
    -- snEn
    (let s₀ : State := ses 3 []
     let s := s₀.ready 0
     let w : Who := .ddp 0
     let v : Word := 1
     (whoOk w) &&
     (s.stores w R.SN_EN v)) &&
    -- snNodeConfigWrite
    (let s₀ : State := ses 3 [(R.NT_STATE 5, 1)]
     let s := s₀.ready 0
     let w : Who := .ddp 0
     let n : Nat := 5
     let j : Nat := 0
     let v : Word := 0
     (whoOk w && decide (j < 3)) &&
     (s.stores w ⟨0x2310, n, j⟩ v)) &&
    -- snCmdLeaveUnreachable
    (let s₀ : State := ses 3 [(R.NT_STATE 5, 1), (R.SN_STATUS 5, 3 * 2 ^ 61)]
     let s := s₀.ready 0
     let w : Who := .ddp 0
     let n : Nat := 5
     (whoOk w) &&
     (s.takes w (R.SN_CMD n) 1) && (
       let u := (wr (R.SN_CMD n) 0).run s
       decide (¬(u.snState n ≠ 3)))) &&
    -- snCmdFreeFrames
    (let s₀ : State := ses 3 [(R.NT_STATE 5, 1)]
     let s := s₀.ready 0
     let w : Who := .ddp 0
     let n : Nat := 5
     (whoOk w) &&
     (s.takes w (R.SN_CMD n) 2)) &&
    -- snCmdResetEstimate
    (let s₀ : State := ses 3 [(R.NT_STATE 5, 1)]
     let s := s₀.ready 0
     let w : Who := .ddp 0
     let n : Nat := 5
     (whoOk w) &&
     (s.takes w (R.SN_CMD n) 3)) &&
    -- tallyBinClose
    (let s₀ : State := State.reset
     let s := s₀.ready 1000000000
     (s.blockUp 9))) = true := by decide +kernel

/-- Every clause of NodesComplete. -/
theorem witness_NodesComplete : (
    -- crCmd
    (let s₀ : State := ses 3 [(R.CR_EUI64 0, 7)]
     let s := s₀.ready 0
     let w : Who := .ddp 0
     let k : Nat := 0
     (whoOk w) &&
     (s.takes w (R.CR_CMD k) 1) && (
       let u := (wr (R.CR_CMD k) 0).run s
       let e := u.rd (R.CR_EUI64 k)
       decide (e ≠ 0) && (
         let iid := (if u.rd (R.CR_IID k) = 0 then bxor e (2 ^ 57) else u.rd (R.CR_IID k))
         decide (u.lookup 0 e = none) &&
         decide (u.lookup 1 iid = none)))) &&
    -- ntClaimTimeout
    (let s₀ : State := adj (State.reset) fun e => { e with nodes := { e.nodes with creates := [(0, ⟨7, 7, 0, [1], 0⟩)] } }
     let s := s₀.ready 1000000000000
     let k : Nat := 0
     (createOk k) &&
     (s.blockUp 10) &&
     (match aget s.eng.nodes.creates k with
     | some c =>
       (match c.waiting with
       | d :: y1 =>
         (decide (c.since + s.rd R.NT_REMOTE_WAIT * 1000 ≤ s.now))
       | _ => false)
     | _ => false)) &&
    -- ntCmdRemove
    (let s₀ : State := ses 3 [(R.NT_STATE 5, 1)]
     let s := s₀.ready 0
     let w : Who := .ddp 0
     let n : Nat := 5
     (whoOk w) &&
     (s.takes w (R.NT_CMD n) 1) && (
       let u := (wr (R.NT_CMD n) 0).run s
       decide (¬(u.nodeState n = 0)))) &&
    -- ntCmdClearCounts
    (let s₀ : State := ses 3 [(R.NT_STATE 5, 1)]
     let s := s₀.ready 0
     let w : Who := .ddp 0
     let n : Nat := 5
     (whoOk w) &&
     (s.takes w (R.NT_CMD n) 2)) &&
    -- pipelineUplink
    (let s₀ : State := adj (State.reset) fun e => { e with nodes := { e.nodes with input := [(0, [mesh0])] } }
     let s := s₀.ready 0
     let k : Nat := 0
     (pipeOk k) &&
     (s.blockUp 10)) &&
    -- pipelineDownlink
    (let s₀ : State := adj (State.reset) fun e => { e with nodes := { e.nodes with down := [(0, [⟨1, 0, none⟩])] } }
     let s := s₀.ready 0
     let k : Nat := 0
     (pipeOk k) &&
     (s.blockUp 10)) &&
    -- pipelineHostPacket
    (let s₀ : State := adj (State.reset) fun e => { e with host := { e.host with inp := [(0, { fromHostRest with pkts := [(16, [0, 0])] })] } }
     let s := s₀.ready 0
     let f : Nat := 0
     (fifoOk f) &&
     (s.blockUp 10)) &&
    -- reasmTimeout
    (let s₀ : State := State.reset
     let s := s₀.ready 0
     let k : Nat := 0
     (pipeOk k) &&
     (s.blockUp 10)) &&
    -- ntRemoteTimeout
    (let s₀ : State := adj (State.reset) fun e => { e with nodes := { e.nodes with remotes := [⟨1, 0, 0, 1, 0, [1], 0⟩] } }
     let s := s₀.ready 1000000000000
     let k : Nat := 0
     (pipeOk k) &&
     (s.blockUp 10) &&
     (match (s.eng.nodes.remotes.find? fun r => r.pipe == k && decide (r.since + s.rd R.NT_REMOTE_WAIT * 1000 ≤ s.now)) with
     | some r =>
       true
     | _ => false)) &&
    -- nodeWindowAccess
    (let s₀ : State := dev [(R.NT_STATE 5, 1), (R.NW_FAMILY 9, 0x2310), (R.NW_NODE 9, 5)]
     let s := s₀.ready 0
     let m : Nat := 16
     let win : Nat := 9
     let mem : Nat := 0
     let v : Word := 0
     let c : Ref := ⟨0x2310, 5, 0⟩
     (masterOk m && decide (win < 32) && decide (mem < 256)) &&
     (s.keeps (.ap m) ⟨0x3009, win, mem⟩ c 0 v)) &&
    -- nodeWindowAccess
    (let s₀ : State := dev [(R.NT_STATE 5, 1), (R.NW_FAMILY 9, 0x2310), (R.NW_NODE 9, 5)]
     let s := s₀.ready 0
     let m : Nat := 16
     let win : Nat := 9
     let mem : Nat := 8
     let v : Word := 2
     let c : Ref := R.SN_CMD 5
     (masterOk m && decide (win < 32) && decide (mem < 256)) &&
     (s.starts (.ap m) ⟨0x3009, win, mem⟩ c v)) &&
    -- nodeWindowAccess
    (let s₀ : State := dev [(R.NT_STATE 5, 1), (R.NW_FAMILY 9, 0x2310), (R.NW_NODE 9, 5)]
     let s := s₀.ready 0
     let m : Nat := 16
     let win : Nat := 9
     let mem : Nat := 0
     (masterOk m && decide (win < 32) && decide (mem < 256)) &&
     (match s.reads m ⟨0x3009, win, mem⟩ with
     | some q =>
       true
     | _ => false)) &&
    -- leapSweep
    (let s₀ : State := dev [(R.LEAP_STATE, 2 ^ 63)]
     let s := s₀.ready 0
     let upTo : Nat := 100
     (decide (upTo < 2 ^ 23)) &&
     (s.blockUp 10) && (
       let w' := s.rd R.LEAP_STATE
       let next := fld w' 22 0
       decide (¬(¬ bit? w' 63))))) = true := by decide +kernel

/-- Every clause of QueuesComplete. -/
theorem witness_QueuesComplete : (
    -- shaperRefill
    (let s₀ : State := State.reset
     let s := s₀.ready 1024
     (s.blockUp 11) &&
     (decide (s.eng.q.shEdge < s.refillEdge))) &&
    -- meterRefill
    (let s₀ : State := State.reset
     let s := s₀.ready 1024
     (s.blockUp 11) &&
     (decide (s.eng.q.mtEdge < s.refillEdge))) &&
    -- ethRelease
    (let s₀ : State := dev [(R.ETH_LINK 0, 1)]
     let s := s₀.ready 0
     let e : Nat := 0
     (ethOk e) &&
     (s.blockUp 11)) &&
    -- meshRelease
    (let s₀ : State := queued 1 { blankPkt with node := 5 } [(R.Q_DEST 1, 2 * 2 ^ 60)]
     let s := s₀.ready 0
     let q : Nat := 1
     (queueOk q) &&
     (s.blockUp 11)) &&
    -- hostRelease
    (let s₀ : State := queued 4064 blankPkt [(R.HF_DEPTH 0, 8192)]
     let s := s₀.ready 0
     let q : Nat := 4064
     (queueOk q) &&
     (s.blockUp 11)) &&
    -- fabricRelease
    (let s₀ : State := adj (queued 4056 blankPkt [(R.FB_STATE 0, 3)]) fun e => { e with fab := { e.fab with links := [(0, { linkRest with pools := [1024, 256, 1024, 256] })] } }
     let s := s₀.ready 0
     let q : Nat := 4056
     (queueOk q) &&
     (s.blockUp 11)) &&
    -- gateEntryChange
    (let s₀ : State := State.reset
     let s := s₀.ready 0
     let e : Nat := 0
     (portEthOk e) &&
     (s.blockUp 11)) &&
    -- gateBankSwitch
    (let s₀ : State := adj (State.reset) fun e => { e with q := { e.q with gates := [(0, ⟨0, some (1, 0)⟩)] } }
     let s := s₀.ready 0
     let e : Nat := 0
     (portEthOk e) &&
     (s.blockUp 11) &&
     (match (s.gate e).pending with
     | some (b, n) =>
       decide (¬(s.devTime < n))
     | _ => false)) &&
    -- cellsFreed
    (let s₀ : State := queued 1 { blankPkt with released := true } []
     let s := s₀.ready 0
     let k : Nat := 1
     (s.blockUp 11) &&
     (match s.pkt? k with
     | some p =>
       (p.released && p.form != .mesh)
     | _ => false))) = true := by decide +kernel

/-- Every clause of KeysComplete. -/
theorem witness_KeysComplete : (
    -- kiWrite
    (let s₀ : State := ses 3 []
     let s := s₀.ready 0
     let w : Who := .ddp 0
     let n : Word := 8
     (whoOk w) &&
     (s.takes w R.KI_WRITE n)) &&
    -- kiCmdImport
    (let s₀ : State := ses 3 [(R.LC_STATE, 1), (R.KI_TARGET, 100), (R.KI_ATTR, 8 * 2 ^ 60 + 2 ^ 43), (R.KI_SOURCE, 0xFFFE), (R.KI_KCV, 2 ^ 24), (R.KI_LEN, 1952)]
     let s := s₀.ready 0
     let w : Who := .ddp 0
     (whoOk w) &&
     (s.takes w R.KI_CMD 1) && (
       let u := (wr R.KI_CMD 0).run s
       let c := (⟨1, u.rd R.KI_TARGET, u.rd R.KI_ATTR, u.rd R.KI_USES, u.rd R.KI_SOURCE, u.rd R.KI_KCV,
         u.importOctets (u.rd R.KI_LEN)⟩)
       decide (¬(u.eng.keys.cmd.isSome)) &&
       decide (¬(u.keyFault c ≠ 0)) &&
       decide ((u.jobs 5).length < 4096))) &&
    -- kiCmdGenerate
    (let s₀ : State := ses 3 [(R.LC_STATE, 1), (R.KI_TARGET, 100), (R.KI_ATTR, 7 * 2 ^ 60 + 2 ^ 43)]
     let s := s₀.ready 0
     let w : Who := .ddp 0
     (whoOk w) &&
     (s.takes w R.KI_CMD 2) && (
       let u := (wr R.KI_CMD 0).run s
       let c := (⟨2, u.rd R.KI_TARGET, u.rd R.KI_ATTR, u.rd R.KI_USES, u.rd R.KI_SOURCE, u.rd R.KI_KCV,
         u.importOctets (u.rd R.KI_LEN)⟩)
       decide (¬(u.eng.keys.cmd.isSome)) &&
       decide (¬(u.keyFault c ≠ 0)) &&
       decide ((u.jobs 5).length < 4096))) &&
    -- kiCmdDerive
    (let s₀ : State := ses 3 [(R.LC_STATE, 1), (R.KI_TARGET, 100), (R.KI_ATTR, 5 * 2 ^ 60 + 2 ^ 43)]
     let s := s₀.ready 0
     let w : Who := .ddp 0
     (whoOk w) &&
     (s.takes w R.KI_CMD 3) && (
       let u := (wr R.KI_CMD 0).run s
       let c := (⟨3, u.rd R.KI_TARGET, u.rd R.KI_ATTR, u.rd R.KI_USES, u.rd R.KI_SOURCE, u.rd R.KI_KCV,
         u.importOctets (u.rd R.KI_LEN)⟩)
       decide (¬(u.eng.keys.cmd.isSome)) &&
       decide (¬(u.keyFault c ≠ 0)) &&
       decide ((u.jobs 5).length < 4096))) &&
    -- keyCommandDone
    (let s₀ : State := adj (State.reset) fun e => { e with keys := { e.keys with cmd := some ⟨2, 100, 7 * 2 ^ 60, 0, 0, 0, []⟩, jobs := [(5, [.key])] } }
     let s := s₀.ready 0
     (match s.nextJob with
     | some (j, .key, turn) =>
       (match s.eng.keys.cmd with
       | some c =>
         true
       | _ => false)
     | _ => false)) &&
    -- kZeroize
    (let s₀ : State := ses 3 []
     let s := s₀.ready 0
     let w : Who := .ddp 0
     let k : Nat := 100
     (whoOk w) &&
     (s.takes w (R.K_ZEROIZE k) 1)) &&
    -- keyPromote
    (let s₀ : State := dev [(R.TS_RUN, 1), (R.K_STATE 100, 4)]
     let s := s₀.ready 86400000000000
     let k : Nat := 100
     (keyOk k) &&
     decide (s.rd R.TS_RUN = 1) &&
     decide (s.rd (R.K_STATE k) = 4) &&
     decide ((s.kslot k).promAsn / s.rd R.TS_REF_LEN < s.asnNow / s.rd R.TS_REF_LEN)) &&
    -- lcRequest
    (let s₀ : State := ses 3 []
     let s := s₀.ready 0
     let w : Who := .ddp 0
     (whoOk w) &&
     (s.takes w R.LC_REQUEST 1)) &&
    -- cryptoOpDone
    (let s₀ : State := State.reset
     let s := s₀.ready 0
     true)) = true := by decide +kernel

/-- Every clause of JoinsComplete. -/
theorem witness_JoinsComplete : (
    -- joinSegment
    (let s₀ : State := adj (queued 1 { blankPkt with source := 5 } []) fun e => { e with host := { e.host with out := [(31, { toHostRest with pkts := [1] })] } }
     let s := s₀.ready 0
     (match s.joinHead with
     | some (i, p) =>
       true
     | _ => false)) &&
    -- joinReasmTimeout
    (let s₀ : State := State.reset
     let s := s₀.ready 0
     true) &&
    -- joinVerifyDone
    (let s₀ : State := adj (State.reset) fun e => { e with join := { e.join with sessions := [⟨1, 7, 2, [], [], [], [], 0, 0, ⟨none, 0, 0, 0⟩⟩] }, keys := { e.keys with jobs := [(3, [.join 1])] } }
     let s := s₀.ready 0
     let id : Nat := 1
     (match s.nextJob with
     | some (j, .join id, turn) =>
       let u := (setKeys fun e => { e with turn := turn }).run s
       (match u.joinSess id with
       | some x =>
         decide (x.state = 2) &&
         ((u.jobs 3).contains (.join id))
       | _ => false)
     | _ => false)) &&
    -- joinRelay
    (let s₀ : State := adj (queued 1 { blankPkt with source := 5 } []) fun e => { e with host := { e.host with out := [(31, { toHostRest with pkts := [1] })] } }
     let s := s₀.ready 0
     (match s.joinHead with
     | some (i, p) =>
       decide (¬(p.mac.isSome))
     | _ => false)) &&
    -- joinStepTimeout
    (let s₀ : State := adj (State.reset) fun e => { e with join := { e.join with sessions := [⟨1, 7, 1, [], [], [], [], 0, 0, ⟨none, 0, 0, 0⟩⟩] }, keys := { e.keys with jobs := [] } }
     let s := s₀.ready 600000000000
     let id : Nat := 1
     (match s.joinSess id with
     | some x =>
       (x.state == 1 && decide (x.since + s.rd R.J_STEP_WAIT * 1000000 ≤ s.now))
     | _ => false)) &&
    -- joinLingerExpiry
    (let s₀ : State := adj (State.reset) fun e => { e with join := { e.join with sessions := [⟨1, 7, 3, [], [], [], [], 0, 0, ⟨none, 0, 0, 0⟩⟩] }, keys := { e.keys with jobs := [] } }
     let s := s₀.ready 600000000000
     let id : Nat := 1
     (match s.joinSess id with
     | some x =>
       (x.state == 3 && decide (x.since + s.rd R.J_LINGER * 1000000 ≤ s.now))
     | _ => false)) &&
    -- jEnWrite
    (let s₀ : State := ses 3 []
     let s := s₀.ready 0
     let w : Who := .ddp 0
     let n : Word := 8
     (whoOk w) &&
     (s.takes w R.J_EN_WRITE n)) &&
    -- jEnSeal
    (let s₀ : State := ses 3 []
     let s := s₀.ready 0
     let w : Who := .ddp 0
     (whoOk w) &&
     (s.takes w R.J_EN_SEAL 6461)) &&
    -- isWrite
    (let s₀ : State := ses 3 []
     let s := s₀.ready 0
     let w : Who := .ddp 0
     let k : Nat := 0
     let n : Word := 8
     (whoOk w) &&
     (s.takes w (R.IS_WRITE k) n)) &&
    -- isSeal
    (let s₀ : State := ses 3 []
     let s := s₀.ready 0
     let w : Who := .ddp 0
     let k : Nat := 0
     (whoOk w) &&
     (s.takes w (R.IS_SEAL k) 1952)) &&
    -- atCmd
    (let s₀ : State := ses 3 []
     let s := s₀.ready 0
     let w : Who := .ddp 0
     (whoOk w) &&
     (s.takes w R.AT_CMD 1) && (
       let u := (wr R.AT_CMD 0).run s
       decide (¬(u.rd R.UP_STATE = 6)) &&
       decide ((u.jobs 4).length < 4096))) &&
    -- atReportReady
    (let s₀ : State := adj (State.reset) fun e => { e with join := { e.join with sessions := [⟨1, 7, 1, [], [], [], [], 0, 0, ⟨none, 0, 0, 0⟩⟩] }, keys := { e.keys with jobs := [(4, [.attest])] } }
     let s := s₀.ready 0
     (match s.nextJob with
     | some (j, .attest, turn) =>
       let u := (setKeys fun e => { e with turn := turn }).run s
       ((u.jobs 4).contains .attest)
     | _ => false))) = true := by decide +kernel

/-- Every clause of CampaignsComplete. -/
theorem witness_CampaignsComplete : (
    -- imWrite
    (let s₀ : State := ses 3 []
     let s := s₀.ready 0
     let w : Who := .ddp 0
     let k : Nat := 0
     let n : Word := 8
     (whoOk w) &&
     (s.takes w (R.IM_WRITE k) n)) &&
    -- imSeal
    (let s₀ : State := ses 3 [(R.IM_STATE 0, 1), (R.KI_LEN, 1952)]
     let s := s₀.ready 0
     let w : Who := .ddp 0
     let k : Nat := 0
     (whoOk w) &&
     (s.takes w (R.IM_SEAL k) 1) && (
       let u := (wr (R.IM_SEAL k) 0).run s
       decide ((u.jobs 4).length < 4096))) &&
    -- imSealDone
    (let s₀ : State := adj (State.reset) fun e => { e with join := { e.join with sessions := [⟨1, 7, 1, [], [], [], [], 0, 0, ⟨none, 0, 0, 0⟩⟩] }, keys := { e.keys with jobs := [(4, [.image 0])] } }
     let s := s₀.ready 0
     let k : Nat := 0
     (imageOk k) &&
     (match s.nextJob with
     | some (j, .image k, turn) =>
       let u := (setKeys fun e => { e with turn := turn }).run s
       ((u.jobs 4).contains (.image k))
     | _ => false)) &&
    -- imErase
    (let s₀ : State := ses 3 []
     let s := s₀.ready 0
     let w : Who := .ddp 0
     let k : Nat := 0
     (whoOk w) &&
     (s.takes w (R.IM_ERASE k) 1)) &&
    -- caCmdStart
    (let s₀ : State := ses 3 [(R.IM_STATE 0, 2), (R.CA_START_ASN 0, 10 ^ 6)]
     let s := s₀.ready 0
     let w : Who := .ddp 0
     let c : Nat := 0
     (whoOk w) &&
     (s.takes w (R.CA_CMD c) 1) && (
       let u := (wr (R.CA_CMD c) 0).run s
       decide (¬(u.rd (R.CA_STATE c) ≠ 0)) &&
       decide (¬(u.rd (R.IM_STATE (u.rd (R.CA_IMAGE c))) ≠ 2)) &&
       decide (¬(u.campOverlap c)) &&
       decide (¬(!(u.campAhead c))))) &&
    -- caCmdPause
    (let s₀ : State := ses 3 [(R.CA_STATE 0, 2)]
     let s := s₀.ready 0
     let w : Who := .ddp 0
     let c : Nat := 0
     (whoOk w) &&
     (s.takes w (R.CA_CMD c) 2) && (
       let u := (wr (R.CA_CMD c) 0).run s
       let st := u.rd (R.CA_STATE c)
       decide (st = 2 ∨ st = 3))) &&
    -- caCmdResume
    (let s₀ : State := ses 3 [(R.CA_STATE 0, 4)]
     let s := s₀.ready 0
     let w : Who := .ddp 0
     let c : Nat := 0
     (whoOk w) &&
     (s.takes w (R.CA_CMD c) 3) && (
       let u := (wr (R.CA_CMD c) 0).run s
       decide (u.rd (R.CA_STATE c) = 4))) &&
    -- caCmdAbort
    (let s₀ : State := ses 3 [(R.CA_STATE 0, 2)]
     let s := s₀.ready 0
     let w : Who := .ddp 0
     let c : Nat := 0
     (whoOk w) &&
     (s.takes w (R.CA_CMD c) 4) && (
       let u := (wr (R.CA_CMD c) 0).run s
       decide (¬(u.rd (R.CA_STATE c) = 0)))) &&
    -- caCmdRelease
    (let s₀ : State := ses 3 [(R.CA_STATE 0, 6)]
     let s := s₀.ready 0
     let w : Who := .ddp 0
     let c : Nat := 0
     (whoOk w) &&
     (s.takes w (R.CA_CMD c) 5) && (
       let u := (wr (R.CA_CMD c) 0).run s
       decide (u.rd (R.CA_STATE c) = 5 ∨ u.rd (R.CA_STATE c) = 6))) &&
    -- caMulticastStart
    (let s₀ : State := dev [(R.CA_STATE 0, 1), (R.TS_RUN, 1)]
     let s := s₀.ready 0
     let c : Nat := 0
     (campOk c) &&
     (s.rd (R.CA_STATE c) == 1 && s.rd R.TS_RUN == 1 && decide (s.rd (R.CA_START_ASN c) % 2 ^ 40 ≤ s.asnNow))) &&
    -- caBlockSend
    (let s₀ : State := adj (dev [(R.CA_STATE 0, 2), (R.CA_ID 0, 1)]) fun e => { e with camp := { e.camp with images := [(0, [0])], camps := [(0, ⟨0, [(5, ⟨cnAsked, 0, none, some 0, none⟩)], [(0, ⟨0, 0, none, none, false⟩)]⟩)] } }
     let s := s₀.ready 0
     let c : Nat := 0
     let p : Nat := 0
     (campOk c && portOk p) &&
     (match aget (s.camp c).ports p with
     | some x =>
       let o := s.campImage c
       let rep := s.rd (R.CA_REPAIR c)
       let due := (match x.last with
         | some t => t + s.rd (R.CA_GAP c) * 1000 * uUs
         | none => 0)
       decide (¬(s.rd (R.CA_STATE c) ≠ 2 ∨ x.frame.isSome ∨ blockTotal o rep ≤ x.next ∨ s.devTime < due))
     | _ => false)) &&
    -- caStatus
    (let s₀ : State := adj (dev [(R.CA_STATE 0, 3), (R.CA_ID 0, 1)]) fun e => { e with camp := { e.camp with images := [(0, [0])], camps := [(0, ⟨0, [(5, ⟨cnAsked, 0, none, some 0, none⟩)], [(0, ⟨0, 0, none, none, false⟩)]⟩)] } }
     let s := s₀.ready 0
     let n : Nat := 5
     let msg : List Nat := [1, 4, 1, 0, 0, 0, 0, 0, 0, 0, 0, 0, 0, 0, 0, 0, 0]
     (nodeOk n && octets msg) &&
     (match s.campById (le ((msg.drop 2).take 2)) with
     | some c =>
       decide (¬(!(statusOk (s.campImage c) (s.rd (R.CA_REPAIR c)) msg))) &&
       (match aget (s.camp c).nodes n with
       | some x =>
         decide (¬(x.state < 1 ∨ 3 < x.state))
       | _ => false)
     | _ => false)) &&
    -- caStatusTimeout
    (let s₀ : State := adj (dev [(R.CA_STATE 0, 3), (R.CA_ID 0, 1)]) fun e => { e with camp := { e.camp with images := [(0, [0])], camps := [(0, ⟨0, [(5, ⟨cnAsked, 0, none, some 0, none⟩)], [(0, ⟨0, 0, none, none, false⟩)]⟩)] } }
     let s := s₀.ready 10000000000000
     let c : Nat := 0
     let n : Nat := 5
     (campOk c && nodeOk n) &&
     (match aget (s.camp c).nodes n with
     | some x =>
       (match x.left with
       | some t' =>
         decide (¬(s.rd (R.CA_STATE c) ≠ 3 ∨ ¬ (x.state = cnAsked ∨ x.state = cnFilling) ∨ s.now < t' + s.rd (R.CA_STATUS_WAIT c) * 1000000000))
       | _ => false)
     | _ => false))) = true := by decide +kernel

/-- Every clause of EthernetComplete. -/
theorem witness_EthernetComplete : (
    -- ethRxFrame
    (let s₀ : State := dev [(R.ETH_LINK 0, 1)]
     let s := s₀.ready 0
     let e : Nat := 0
     let f : List Nat := []
     (ethOk e && octets f) &&
     (s.blockUp 12) &&
     decide (¬(s.rd (R.ETH_LINK e) = 0))) &&
    -- ethLinkUp
    (let s₀ : State := dev [(R.ETH_MODE 0, 1)]
     let s := s₀.ready 0
     let e : Nat := 0
     let speed : Nat := 4
     (ethOk e) &&
     (s.blockUp 12) &&
     (s.rd (R.ETH_LINK e) == 0 && (modeSpeeds (s.rd (R.ETH_MODE e))).contains speed)) &&
    -- ethLinkDown
    (let s₀ : State := dev [(R.ETH_LINK 0, 1)]
     let s := s₀.ready 0
     let e : Nat := 0
     (ethOk e) &&
     (s.rd (R.ETH_LINK e) == 1)) &&
    -- mdioRead
    (let s₀ : State := ses 3 []
     let s := s₀.ready 0
     let w : Who := .ddp 0
     let v : Word := 0
     (whoOk w && !(mdioWrites v)) &&
     (s.takes w R.MD_CMD v)) &&
    -- mdioWrite
    (let s₀ : State := ses 3 []
     let s := s₀.ready 0
     let w : Who := .ddp 0
     let v : Word := 2 ^ 62
     (whoOk w && mdioWrites v) &&
     (s.takes w R.MD_CMD v)) &&
    -- mdioDone
    (let s₀ : State := adj (State.reset) fun e => { e with time := { e.time with mdio := some 0 } }
     let s := s₀.ready 0
     (match s.eng.time.mdio with
     | some w' =>
       true
     | _ => false))) = true := by decide +kernel

/-- Every clause of TimeComplete. -/
theorem witness_TimeComplete : (
    -- tuCmdStep
    (let s₀ : State := ses 3 []
     let s := s₀.ready 0
     let w : Who := .ddp 0
     (whoOk w) &&
     (s.takes w R.TU_CMD 1)) &&
    -- tuCmdSet
    (let s₀ : State := ses 3 []
     let s := s₀.ready 0
     let w : Who := .ddp 0
     (whoOk w) &&
     (s.takes w R.TU_CMD 2)) &&
    -- ptpSyncTimer
    (let s₀ : State := dev [(R.PP_STATE 0, 3)]
     let s := s₀.ready 0
     let e : Nat := 0
     (portEthOk e) &&
     (s.blockUp 12) &&
     (s.rd (R.PP_STATE e) == 3)) &&
    -- ptpDelayReqTimer
    (let s₀ : State := dev [(R.PP_STATE 0, 4)]
     let s := s₀.ready 0
     let e : Nat := 0
     (portEthOk e) &&
     (s.blockUp 12) &&
     ((s.rd (R.PP_STATE e) == 4 || s.rd (R.PP_STATE e) == 5) && s.rd (R.PP_DELAY e) == 0)) &&
    -- ptpPdelayReqTimer
    (let s₀ : State := dev [(R.PP_STATE 0, 4), (R.PP_DELAY 0, 1)]
     let s := s₀.ready 0
     let e : Nat := 0
     (portEthOk e) &&
     (s.blockUp 12) &&
     (s.rd (R.PP_STATE e) != 0 && s.rd (R.PP_DELAY e) == 1)) &&
    -- ptpSyncRx
    (let s₀ : State := State.reset
     let s := s₀.ready 0
     let e : Nat := 0
     (portEthOk e) &&
     (s.blockUp 12)) &&
    -- ptpFollowUpRx
    (let s₀ : State := State.reset
     let s := s₀.ready 0
     let e : Nat := 0
     (portEthOk e) &&
     (s.blockUp 12)) &&
    -- ptpDelayReqRx
    (let s₀ : State := State.reset
     let s := s₀.ready 0
     let e : Nat := 0
     (portEthOk e) &&
     (s.blockUp 12)) &&
    -- ptpDelayRespRx
    (let s₀ : State := State.reset
     let s := s₀.ready 0
     let e : Nat := 0
     (portEthOk e) &&
     (s.blockUp 12)) &&
    -- ptpPdelayReqRx
    (let s₀ : State := State.reset
     let s := s₀.ready 0
     let e : Nat := 0
     (portEthOk e) &&
     (s.blockUp 12)) &&
    -- ptpPdelayRespRx
    (let s₀ : State := State.reset
     let s := s₀.ready 0
     let e : Nat := 0
     (portEthOk e) &&
     (s.blockUp 12)) &&
    -- ppState
    (let s₀ : State := ses 3 []
     let s := s₀.ready 0
     let w : Who := .ddp 0
     let e : Nat := 0
     let v : Word := 1
     (whoOk w) &&
     (s.stores w (R.PP_STATE e) v)) &&
    -- ppParentWrite
    (let s₀ : State := ses 3 []
     let s := s₀.ready 0
     let w : Who := .ddp 0
     let e : Nat := 0
     let id : Bool := true
     let v : Word := 1
     (whoOk w) && (
       let r := (if id then R.PP_PARENT_ID e else R.PP_PARENT_PORT e)
       (s.stores w r v))) &&
    -- svLossTimeout
    (let s₀ : State := State.reset
     let s := s₀.ready 10000000000000
     (decide (s.eng.time.lastMeas + s.rd R.SV_LOSS_MS * 1000000 ≤ s.now))) &&
    -- svSource
    (let s₀ : State := ses 3 []
     let s := s₀.ready 0
     let w : Who := .ddp 0
     let v : Word := 1
     (whoOk w) &&
     (s.stores w R.SV_SOURCE v)) &&
    -- tqEntryRead
    (let s₀ : State := State.reset
     let s := s₀.ready 0
     let m : Nat := 16
     let q : Nat := 0
     (masterOk m) &&
     decide (s.reads m (R.TQ_ENTRY q) = some (R.TQ_ENTRY q))) &&
    -- ppsInEdge
    (let s₀ : State := State.reset
     let s := s₀.ready 0
     let rising : Bool := true
     decide (rising = (s.rd R.PPS_IN_EDGE == 0))) &&
    -- ppsInLost
    (let s₀ : State := adj (State.reset) fun e => { e with time := { e.time with ppsLast := some 0 } }
     let s := s₀.ready 1500000000
     (match s.eng.time.ppsLast with
     | some t' =>
       (decide (t' + 1500000000 ≤ s.now))
     | _ => false)) &&
    -- ppsOutPulse
    (let s₀ : State := State.reset
     let s := s₀.ready 0
     true) &&
    -- ppsEn
    (let s₀ : State := ses 3 []
     let s := s₀.ready 0
     let w : Who := .ddp 0
     (whoOk w) &&
     (s.stores w R.PPS_EN 1)) &&
    -- trefValidityChange
    (let s₀ : State := State.reset
     let s := s₀.ready 0
     let hz : Nat := 10000000
     let valid := s.trefFits hz
     decide (¬((s.rd R.TR_VALID == 1) = valid)))) = true := by decide +kernel

/-- Every clause of PairComplete. -/
theorem witness_PairComplete : (
    -- heartbeatPeriod
    (let s₀ : State := adj (dev [(R.STRAPS, 256)]) fun e => { e with pair := { e.pair with hbLast := 0 } }
     let s := s₀.ready 990000
     (s.inPair && decide (s.eng.pair.hbLast + 990000 ≤ s.now))) &&
    -- heartbeatStop
    (let s₀ : State := adj (dev [(R.PR_STATE, 0), (R.PR_PEER_STATE, psReady)]) fun e => { e with pair := { e.pair with hbOn := true } }
     let s := s₀.ready 0
     (!(s.hbRuns)) &&
     s.eng.pair.hbOn) &&
    -- grantLost
    (let s₀ : State := State.reset
     let s := s₀.ready 0
     true) &&
    -- grantSeen
    (let s₀ : State := State.reset
     let s := s₀.ready 0
     true) &&
    -- pairAnnounceRepeat
    (let s₀ : State := adj (dev [(R.PR_STATE, psActive), (R.PR_PEER_STATE, psReady)]) fun e => { e with pair := { e.pair with step7 := some (0, 2) } }
     let s := s₀.ready 1000000000
     (match s.eng.pair.step7 with
     | some (t', left) =>
       (decide (t' + (3 - left) * 1000000000 ≤ s.now))
     | _ => false)) &&
    -- mooringImageStart
    (let s₀ : State := adj (dev [(R.PR_STATE, psActive), (R.PR_PEER_STATE, psReady)]) fun e => { e with pair := { e.pair with grant := true } }
     let s := s₀.ready 1000000000000
     (s.rd R.PR_STATE == psActive && s.eng.pair.run.isNone && s.imageDue)) &&
    -- mooringPassEnd
    (let s₀ : State := adj (dev [(R.PR_STATE, psActive), (R.PR_PEER_STATE, psReady)]) fun e => { e with pair := { e.pair with run := some ⟨1, 0, false, false⟩ } }
     let s := s₀.ready 0
     (match s.eng.pair.run with
     | some r =>
       decide (¬(r.ready))
     | _ => false)) &&
    -- mooringFreeze
    (let s₀ : State := adj (adj (dev [(R.PR_STATE, psActive), (R.PR_PEER_STATE, psReady), (R.PR_PAIR_SLOT, 100), (R.K_STATE 100, 1), (R.K_ATTR 100, 10 * 2 ^ 60 + 2 ^ opWrap)]) fun e => { e with pair := { e.pair with run := some ⟨1, 0, false, true⟩ } }) fun e => { e with keys := { e.keys with slots := [(1, ⟨[], [], 0, 0, 0⟩)] } }
     let s := s₀.ready 0
     (match s.eng.pair.run with
     | some r =>
       (match s.pairKey opWrap with
       | some kek =>
         decide (¬(¬ r.ready ∨ s.pendingSoon))
       | _ => false)
     | _ => false)) &&
    -- moorStreamTimeout
    (let s₀ : State := adj (dev [(R.PR_STATE, psSyncing), (R.PR_PEER_STATE, psReady)]) fun e => { e with pair := { e.pair with rx := some (⟨1, 0, [], []⟩, 0) } }
     let s := s₀.ready 100000000
     (match s.eng.pair.rx with
     | some (m, last) =>
       (decide (last + 100000000 ≤ s.now))
     | _ => false)) &&
    -- prImageAgeExpiry
    (let s₀ : State := adj (dev [(R.PR_STATE, psReady), (R.PR_PEER_STATE, psReady)]) fun e => { e with pair := { e.pair with newest := some (⟨1, 0, [], []⟩, 0) } }
     let s := s₀.ready 1000000000000
     (s.rd R.PR_STATE == psReady && decide (s.rd R.PR_MAX_AGE * 1000 < s.imageAge))) &&
    -- prTimeHoldExpiry
    (let s₀ : State := adj (dev [(R.PR_STATE, psReady), (R.PR_PEER_STATE, psReady)]) fun e => { e with pair := { e.pair with locked := false } }
     let s := s₀.ready 1000000000000
     (s.rd R.PR_STATE == psReady && !(s.eng.pair.locked) && decide (s.eng.pair.unlocked + s.rd R.PR_TIME_HOLD * 1000000000 ≤ s.now))) &&
    -- prCmdImage
    (let s₀ : State := ses 3 [(R.STRAPS, 256), (R.PR_STATE, psActive)]
     let s := s₀.ready 0
     let w : Who := .ddp 0
     (whoOk w) &&
     (s.takes w R.PR_CMD 1) && (
       let u := (wr R.PR_CMD 0).run s
       decide (¬(u.rd R.PR_STATE ≠ psActive)) &&
       decide (¬(u.eng.pair.run.isSome)))) &&
    -- prCmdYield
    (let s₀ : State := ses 3 [(R.STRAPS, 256), (R.PR_STATE, psActive), (R.PR_PEER_STATE, psReady)]
     let s := s₀.ready 0
     let w : Who := .ddp 0
     (whoOk w) &&
     (s.takes w R.PR_CMD 2) && (
       let u := (wr R.PR_CMD 0).run s
       decide (¬(u.rd R.PR_STATE ≠ psActive)) &&
       decide (¬(u.rd R.PR_PEER_STATE ≠ psReady)) &&
       decide (¬(u.eng.pair.run.isSome)))) &&
    -- prCmdCancelYield
    (let s₀ : State := ses 3 [(R.STRAPS, 256), (R.PR_STATE, psYielding)]
     let s := s₀.ready 0
     let w : Who := .ddp 0
     (whoOk w) &&
     (s.takes w R.PR_CMD 3) && (
       let u := (wr R.PR_CMD 0).run s
       decide (¬(u.rd R.PR_STATE ≠ psYielding)))) &&
    -- prYieldExpiry
    (let s₀ : State := adj (dev [(R.PR_STATE, psYielding), (R.PR_PEER_STATE, psReady)]) fun e => { e with pair := { e.pair with grant := true } }
     let s := s₀.ready 1000000000000
     (s.rd R.PR_STATE == psYielding && s.eng.pair.grant && decide (s.eng.pair.yieldAt + s.rd R.PR_YIELD_MS * 1000000 ≤ s.now))) &&
    -- timeSyncTimer
    (let s₀ : State := adj (dev [(R.PR_STATE, psActive), (R.PR_PEER_STATE, psReady)]) fun e => { e with pair := { e.pair with grant := true } }
     let s := s₀.ready 0
     (decide (psSwitching ≤ s.rd R.PR_STATE) && decide (s.rd R.PR_STATE ≤ psYielding) && (s.rd R.PR_PEER_STATE == psSyncing || s.rd R.PR_PEER_STATE == psReady) && s.msGone s.eng.pair.syncAt)) &&
    -- pairTimeLoopTimeout
    (let s₀ : State := State.reset
     let s := s₀.ready 10000000
     (decide (s.eng.pair.lastExch + 10000000 ≤ s.now))) &&
    -- pairStatusTimer
    (let s₀ : State := dev [(R.STRAPS, 256)]
     let s := s₀.ready 0
     (s.msGone s.eng.pair.statusAt) &&
     s.inPair) &&
    -- pairStatusTimeout
    (let s₀ : State := State.reset
     let s := s₀.ready 10000000
     (decide (s.eng.pair.heard + 10000000 ≤ s.now)))) = true := by decide +kernel

/-- Every clause of WitnessComplete. -/
theorem witness_WitnessComplete : (
    -- witStartWaitExpiry
    (let s₀ : State := adj (dev [(R.STRAPS, 512), (R.WIT_STATE, 0)]) fun e => { e with wit := { e.wit with since := 0 } }
     let s := s₀.ready 1000000000000
     (s.isWitness && s.rd R.WIT_STATE == 0 && decide (s.eng.wit.since + s.rd R.WIT_START_WAIT * 1000000 ≤ s.now))) &&
    -- witHeartbeatAlive
    (let s₀ : State := adj (dev [(R.STRAPS, 512), (R.WIT_STATE, 0)]) fun e => { e with wit := { e.wit with since := 0 } }
     let s := s₀.ready 0
     let x : Nat := 0
     let ps : List (Nat × Nat) := heartbeats 3 ++ heartbeats 4
     (unitOk x) &&
     (s.isWitness && hbAlive ps)) &&
    -- witHeartbeatLost
    (let s₀ : State := adj (dev [(R.STRAPS, 512), (R.WIT_STATE, 0)]) fun e => { e with wit := { e.wit with since := 0, alive := [0] } }
     let s := s₀.ready 1000000000000
     let x : Nat := 0
     (unitOk x) &&
     (s.isWitness && s.witAlive x && decide (s.eng.wit.words.at x 0 + s.rd R.WIT_HB_LOSS * 1000000 ≤ s.now))) &&
    -- witTakeTimeout
    (let s₀ : State := adj (dev [(R.STRAPS, 512), (R.WIT_STATE, 2)]) fun e => { e with wit := { e.wit with grants := [0] } }
     let s := s₀.ready 1000000000000
     (s.isWitness && s.granted.isSome && !(s.eng.wit.shown) && decide (s.eng.wit.grantAt + s.rd R.WIT_TAKE_MS * 1000000 ≤ s.now))) &&
    -- witStateCode
    (let s₀ : State := adj (dev [(R.STRAPS, 512), (R.WIT_STATE, 2)]) fun e => { e with wit := { e.wit with grants := [0] } }
     let s := s₀.ready 0
     let x : Nat := 0
     let code : Nat := 2
     let held : Nat := 1000
     (unitOk x && decide (code < 4)) &&
     (s.isWitness && decide (1000 ≤ held))) &&
    -- witCmd
    (let s₀ : State := adj (ses 3 [(R.STRAPS, 512), (R.WIT_STATE, 2)]) fun e => { e with wit := { e.wit with grants := [0], alive := [0, 1], codes := [(1, 1)] } }
     let s := s₀.ready 0
     let w : Who := .ddp 0
     (whoOk w) &&
     (s.takes w R.WIT_CMD 1) && (
       let u := (wr R.WIT_CMD 0).run s
       (match u.granted with
       | some x =>
         decide (u.witAlive (1 - x) ∧ u.witCode (1 - x) = 1)
       | _ => false))) &&
    -- witFenceGapExpiry
    (let s₀ : State := adj (dev [(R.STRAPS, 512), (R.WIT_STATE, 4)]) fun e => { e with wit := { e.wit with since := 0 } }
     let s := s₀.ready 1000000000000
     (s.isWitness && s.rd R.WIT_STATE == 4 && decide (s.eng.wit.since + s.rd R.WIT_FENCE_GAP ≤ s.now))) &&
    -- witFenceRelease
    (let s₀ : State := adj (dev [(R.STRAPS, 512), (R.WIT_STATE, 2)]) fun e => { e with wit := { e.wit with fences := [1], alive := [1], codes := [(1, 1)] } }
     let s := s₀.ready 1000000
     let x : Nat := 1
     (unitOk x) &&
     (s.isWitness && s.eng.wit.fences.contains x && s.witAlive x && decide (s.witCode x ≤ 1) && decide (s.eng.wit.held.at x 0 + 1000000 ≤ s.now)))) = true := by decide +kernel

/-- Every clause of FabricComplete. -/
theorem witness_FabricComplete : (
    -- fbEn
    (let s₀ : State := ses 3 []
     let s := s₀.ready 0
     let w : Who := .ddp 0
     let l : Nat := 0
     let v : Word := 1
     (whoOk w) &&
     (s.stores w (R.FB_EN l) v)) &&
    -- fbLaneLock
    (let s₀ : State := adj (dev [(R.FB_STATE 0, 1)]) fun e => { e with fab := { e.fab with links := [(0, { linkRest with replays := 16 })] } }
     let s := s₀.ready 0
     let l : Nat := 0
     let lanes : List Nat := [0, 1, 2, 3]
     (linkOk l && lanes.length == 4) &&
     (s.blockUp 13) && (
       let skew := lanes.foldl max 0 - lanes.foldl min (lanes.foldl max 0)
       decide (s.rd (R.FB_STATE l) = 1 ∧ (s.flink l).since ≤ s.now ∧ skew ≤ 20000))) &&
    -- fbTrainTimeout
    (let s₀ : State := adj (dev [(R.FB_STATE 0, 1)]) fun e => { e with fab := { e.fab with links := [(0, { linkRest with replays := 16 })] } }
     let s := s₀.ready 10000000
     let l : Nat := 0
     (linkOk l) &&
     (s.blockUp 13) &&
     decide (s.rd (R.FB_STATE l) = 1 ∧ (s.flink l).since + 10000000 ≤ s.now)) &&
    -- fbHelloTimer
    (let s₀ : State := adj (dev [(R.FB_STATE 0, 2)]) fun e => { e with fab := { e.fab with links := [(0, { linkRest with replays := 16 })] } }
     let s := s₀.ready 10000
     let l : Nat := 0
     (linkOk l) &&
     (s.blockUp 13) &&
     (s.rd (R.FB_STATE l) == 2 && decide ((s.flink l).since + 10000 ≤ s.now))) &&
    -- fbHelloRx
    (let s₀ : State := adj (dev [(R.FB_STATE 0, 2)]) fun e => { e with fab := { e.fab with links := [(0, { linkRest with replays := 16 })] } }
     let s := s₀.ready 0
     let l : Nat := 0
     let ws : List Nat := fabWords ⟨0, 7, 1, false, 0, 2 * 2 ^ 60 + 1 * 2 ^ 56, [9, 9]⟩ 0 0
     (linkOk l && words ws) &&
     (s.blockUp 13) &&
     (match ctrlParse 2 ws with
     | some p =>
       decide (¬(s.rd (R.FB_STATE l) ≠ 2 ∨ p.payload.length ≠ 2))
     | _ => false)) &&
    -- fbRefusedExpiry
    (let s₀ : State := adj (dev [(R.FB_STATE 0, 4)]) fun e => { e with fab := { e.fab with links := [(0, { linkRest with replays := 16 })] } }
     let s := s₀.ready 1000000000
     let l : Nat := 0
     (linkOk l) &&
     (s.blockUp 13) &&
     decide (s.rd (R.FB_STATE l) = 4 ∧ (s.flink l).since + 1000000000 ≤ s.now)) &&
    -- fbLinkDown
    (let s₀ : State := adj (dev [(R.FB_STATE 0, 3)]) fun e => { e with fab := { e.fab with links := [(0, { linkRest with replays := 16 })] } }
     let s := s₀.ready 0
     let l : Nat := 0
     let cause : Nat := 1
     (linkOk l) &&
     (s.blockUp 13) &&
     decide (¬(¬ s.linkUp l)) &&
     decide (¬(cause = 0 ∧ s.now < (s.flink l).heard + 1000000)) &&
     decide (¬(cause = 1 ∧ (s.flink l).replays < 16))) &&
    -- fbPacketRx
    (let s₀ : State := adj (dev [(R.FB_STATE 0, 3)]) fun e => { e with fab := { e.fab with links := [(0, { linkRest with replays := 16 })] } }
     let s := s₀.ready 0
     let l : Nat := 0
     let ws : List Nat := []
     (linkOk l && words ws) &&
     (s.blockUp 13) &&
     decide (¬(¬ s.linkUp l))) &&
    -- fbNakRx
    (let s₀ : State := adj (dev [(R.FB_STATE 0, 3)]) fun e => { e with fab := { e.fab with links := [(0, { linkRest with replays := 16 })] } }
     let s := s₀.ready 0
     let l : Nat := 0
     let ws : List Nat := fabWords ⟨0, 7, 1, false, 0, 1 * 2 ^ 60, []⟩ 0 0
     (linkOk l && words ws) &&
     (s.blockUp 13) &&
     (match ctrlParse 1 ws with
     | some p =>
       decide (¬(¬ s.linkUp l))
     | _ => false)) &&
    -- fbStatusRx
    (let s₀ : State := adj (dev [(R.FB_STATE 0, 3)]) fun e => { e with fab := { e.fab with links := [(0, { linkRest with replays := 16 })] } }
     let s := s₀.ready 0
     let l : Nat := 0
     let ws : List Nat := fabWords ⟨0, 7, 1, false, 0, 0, [0]⟩ 0 0
     (linkOk l && words ws) &&
     (s.blockUp 13) &&
     (match ctrlParse 0 ws with
     | some p =>
       decide (¬(¬ s.linkUp l))
     | _ => false)) &&
    -- fbStatusTimer
    (let s₀ : State := adj (dev [(R.FB_STATE 0, 3)]) fun e => { e with fab := { e.fab with links := [(0, { linkRest with replays := 16 })] } }
     let s := s₀.ready 10000
     let l : Nat := 0
     (linkOk l) &&
     (s.blockUp 13) && (
       let x := s.flink l
       (s.linkUp l && (x.told.1 != x.rxSeq || x.told.2.1 != x.given || decide (x.told.2.2 + 10000 ≤ s.now))))) &&
    -- topoTimer
    (let s₀ : State := State.reset
     let s := s₀.ready 0
     (s.blockUp 13) && (
       let due := (s.eng.fab.topoDue || (match s.eng.fab.topoAt with
         | none => true
         | some u => decide (u + 100000000 ≤ s.now)))
       due))) = true := by decide +kernel

/-- Every clause of HostFifosComplete. -/
theorem witness_HostFifosComplete : (
    -- arbDecide
    (let s₀ : State := adj (State.reset) fun e => { e with arb := [(0, ⟨1, 0⟩)] }
     let s := s₀.ready 0
     let waiting : List (Nat × Nat) := [(3, 0)]
     (arbOk 0) && (
       let ws := (List.range 16).filterMap (fun r => (waiting.find? fun (x : Nat × Nat) => x.1 == r).map fun x => (r, x.2, s.rd (R.AR_TICKETS r)))
       let d := arbDecide (s.rd (R.ARB_N 0)) (s.eng.arb.at 0 ⟨arbSeed 0, 0⟩) ws
       (match d.1 with
       | some x =>
         true
       | _ => false))) &&
    -- arbDecide
    (let s₀ : State := adj (State.reset) fun e => { e with arb := [(1, ⟨1, 0⟩)], dl := { e.dl with groups := [(0, group0)], queues := [(0, [(0, 0, 0)])], decoders := [(1, ⟨0, 0, 0, 0, copy0, []⟩)], surplus := [(0, copy0)] } }
     let s := s₀.ready 0
     (arbOk 1) &&
     (s.blockUp 6) &&
     (match s.freeDecoder with
     | some j =>
       let d := arbDecide (s.rd (R.ARB_N 1)) (s.eng.arb.at 1 ⟨arbSeed 1, 0⟩) s.decodeWaiting
       (match d.1 with
       | some x =>
         true
       | _ => false)
     | _ => false)) &&
    -- arbDecide
    (let s₀ : State := adj (dev [(R.FB_STATE 1, 3)]) fun e => { e with arb := [(3, ⟨1, 0⟩)], fab := { e.fab with links := [(1, { linkRest with pools := [1024, 256, 1024, 256], req := [⟨⟨0x15, 1, 0, false, 0, 0, []⟩, 0, none⟩] })] } }
     let s := s₀.ready 0
     let k : Nat := 3
     let l : Nat := 1
     (arbOk k) &&
     decide (k = l + 2) &&
     (s.blockUp 13) && (
       let d := arbDecide (s.rd (R.ARB_N k)) (s.eng.arb.at k ⟨arbSeed k, 0⟩) (s.fabWaiting l)
       (match d.1 with
       | some x =>
         true
       | _ => false))) &&
    -- dramEccError
    (let s₀ : State := State.reset
     let s := s₀.ready 0
     let chan : Nat := 0
     let off : Nat := 0x1000
     (decide (chan < 2))) &&
    -- dramPatrolScrub
    (let s₀ : State := State.reset
     let s := s₀.ready 0
     let found : List (Nat × Nat × Bool) := default
     (found.all fun (x : Nat × Nat × Bool) => decide (x.1 < 2))) &&
    -- hfPop
    (let s₀ : State := dev [(R.HF_MODE 0, 1), (R.HF_MASTER 0, 16)]
     let s := s₀.ready 0
     let m : Nat := 16
     let f : Nat := 0
     (masterOk m) &&
     decide (s.reads m (R.HF_POP f) = some (R.HF_POP f))) &&
    -- hfStart
    (let s₀ : State := dev [(R.HF_MODE 32, 1), (R.HF_MASTER 32, 16), (R.HF_DEPTH 32, 8192)]
     let s := s₀.ready 0
     let m : Nat := 16
     let f : Nat := 0
     let v : Word := 0
     (masterOk m) &&
     (s.pushes m (R.HF_START f) v) &&
     decide (s.rd (R.HF_MODE (32 + f)) = 1) &&
     decide ((s.fromHost f).cur = none) &&
     (s.roomForItem f) &&
     decide ((s.fromHost f).held = none)) &&
    -- hfData
    (let s₀ : State := adj (dev [(R.HF_MODE 32, 1), (R.HF_MASTER 32, 16), (R.HF_DEPTH 32, 8192)]) fun e => { e with host := { e.host with inp := [(0, { fromHostRest with cur := some [0, 0] })] } }
     let s := s₀.ready 0
     let m : Nat := 16
     let f : Nat := 0
     let v : Word := 0
     (masterOk m) &&
     (s.pushes m (R.HF_DATA f) v) && (
       let x := markCommit [(0x0391, f)]
       let u := x.run s
       decide (u.rd (R.HF_MODE (32 + f)) = 1) &&
       (match (u.fromHost f).cur with
       | some l =>
         (u.roomForItem f) &&
         decide ((u.fromHost f).held = none)
       | _ => false))) &&
    -- hfEnd
    (let s₀ : State := adj (dev [(R.HF_MODE 32, 1), (R.HF_MASTER 32, 16), (R.HF_DEPTH 32, 8192)]) fun e => { e with host := { e.host with inp := [(0, { fromHostRest with cur := some [0, 0] })] } }
     let s := s₀.ready 0
     let m : Nat := 16
     let f : Nat := 0
     let v : Word := 0x20000
     (masterOk m) &&
     (s.pushes m (R.HF_END f) v) && (
       let x := markCommit [(0x0391, f)]
       let u := x.run s
       decide (u.rd (R.HF_MODE (32 + f)) = 1) &&
       (match (u.fromHost f).cur with
       | some l =>
         (lengthWordOk v.toNat l.length)
       | _ => false))) &&
    -- hfAbort
    (let s₀ : State := adj (dev [(R.HF_MODE 32, 1), (R.HF_MASTER 32, 16), (R.HF_DEPTH 32, 8192)]) fun e => { e with host := { e.host with inp := [(0, { fromHostRest with cur := some [0, 0] })] } }
     let s := s₀.ready 0
     let m : Nat := 16
     let f : Nat := 0
     (masterOk m) &&
     (s.starts (.ap m) (R.HF_ABORT f) (R.HF_ABORT f) 1)) &&
    -- hfHeldWriteDone
    (let s₀ : State := adj (dev [(R.HF_MODE 32, 1), (R.HF_MASTER 32, 16), (R.HF_DEPTH 32, 8192)]) fun e => { e with host := { e.host with inp := [(0, { fromHostRest with held := some ⟨.ap 16, 0, 0, 0⟩ })] } }
     let s := s₀.ready 0
     let f : Nat := 0
     (fifoOk f) &&
     (s.blockUp 15) && (
       let x := s.fromHost f
       (match x.held with
       | some h =>
         true
       | _ => false))) &&
    -- hfStallTimeout
    (let s₀ : State := adj (dev [(R.HF_MODE 32, 1), (R.HF_MASTER 32, 16), (R.HF_DEPTH 32, 0)]) fun e => { e with host := { e.host with inp := [(0, { fromHostRest with held := some ⟨.ap 16, 0, 0, 0⟩ })] } }
     let s := s₀.ready 1048576
     let f : Nat := 0
     (fifoOk f) &&
     (s.blockUp 15) &&
     (match (s.fromHost f).held with
     | some h =>
       (decide (h.since + 2 ^ 20 ≤ s.now) && !(s.roomForItem f))
     | _ => false)) &&
    -- hfNoticeTimer
    (let s₀ : State := adj (State.reset) fun e => { e with host := { e.host with out := [(0, { toHostRest with fresh := 1 })] } }
     let s := s₀.ready 1000000000
     let f : Nat := 0
     (fifoOk f) &&
     (s.blockUp 15) && (
       let x := s.toHost f
       (decide (0 < x.fresh) && decide (x.since + s.rd (R.HF_NOTICE_NS f) ≤ s.now)))) &&
    -- hfMode
    (let s₀ : State := ses 3 []
     let s := s₀.ready 0
     let w : Who := .ddp 0
     let f : Nat := 0
     let v : Word := 0
     (whoOk w) &&
     (s.stores w (R.HF_MODE f) v)) &&
    -- hrCmd
    (let s₀ : State := ses 3 [(R.HF_MODE 0, 2)]
     let s := s₀.ready 0
     let w : Who := .ddp 0
     let k : Nat := 0
     let items : List Word := []
     let bad : Bool := false
     (whoOk w) && (
       let u := (hostMemory items bad).run s
       (u.takes w (R.HR_CMD k) 1) &&
       decide (u.rd (R.HF_MODE k) = 2))) &&
    -- hrHostIdx
    (let s₀ : State := ses 3 [(R.HF_MODE 0, 2)]
     let s := s₀.ready 0
     let w : Who := .ddp 0
     let k : Nat := 0
     let v : Word := 0
     let items : List Word := []
     let bad : Bool := false
     (whoOk w) && (
       let u := (hostMemory items bad).run s
       (u.stores w (R.HR_HOST_IDX k) v))) &&
    -- ringBusError
    (let s₀ : State := dev [(R.HR_STATE 0, 1)]
     let s := s₀.ready 0
     let k : Nat := 0
     (ringOk k) &&
     (s.blockUp 15) &&
     (s.rd (R.HR_STATE k) == 1)) &&
    -- pcieFlr
    (let s₀ : State := State.reset
     let s := s₀.ready 0
     true) &&
    -- perstNAssert
    (let s₀ : State := State.reset
     let s := s₀.ready 0
     (!s.eng.pcie.perst)) &&
    -- perstNRelease
    (let s₀ : State := adj (State.reset) fun e => { e with pcie := { e.pcie with perst := true } }
     let s := s₀.ready 0
     s.eng.pcie.perst) &&
    -- pcieLinkChange
    (let s₀ : State := State.reset
     let s := s₀.ready 0
     let up : Bool := true
     let width : Nat := 8
     let rate : Nat := 4
     (decide (width ≤ 16) && decide (rate ≤ 16)) && (
       let x := s.eng.pcie
       decide (¬(up ∧ (x.perst ∨ s.blockUp 14 = false))) &&
       decide (¬(up = x.up ∧ (¬ up ∨ (width = x.width ∧ rate = x.rate))))))) = true := by decide +kernel

/-- Every clause of InterruptsComplete. -/
theorem witness_InterruptsComplete : (
    -- irqEdge
    (let s₀ : State := State.reset
     let s := s₀.ready 0
     let src : Nat := 40
     (edgeOk src)) &&
    -- irqLevelChange
    (let s₀ : State := State.reset
     let s := s₀.ready 0
     let src : Nat := 1
     let high : Bool := true
     (critOk src) &&
     decide (¬(bit? s.eng.irq.levels src = high))) &&
    -- irqSoftwareSet
    (let s₀ : State := State.reset
     let s := s₀.ready 0
     let j : Nat := 1
     let mask : Word := 0
     let m : Nat := 16
     (whoOk (.ap m) && decide (j < 32)) &&
     (s.keeps (.ap m) (R.IRQ_PENDING j) (R.IRQ_PENDING j) 1 mask)) &&
    -- irqSoftwareSet
    (let s₀ : State := ses 3 []
     let s := s₀.ready 0
     let j : Nat := 1
     let mask : Word := 0
     let k : Nat := 0
     (whoOk (.ddp k) && decide (j < 32)) &&
     (s.keeps (.ddp k) (R.IRQ_PENDING j) (R.IRQ_PENDING j) 1 mask)) &&
    -- irqSoftwareClear
    (let s₀ : State := State.reset
     let s := s₀.ready 0
     let j : Nat := 1
     let mask : Word := 0
     let m : Nat := 16
     (whoOk (.ap m) && decide (j < 32)) &&
     (s.keeps (.ap m) (R.IRQ_PENDING j) (R.IRQ_PENDING j) 2 mask)) &&
    -- irqSoftwareClear
    (let s₀ : State := ses 3 []
     let s := s₀.ready 0
     let j : Nat := 1
     let mask : Word := 0
     let k : Nat := 0
     (whoOk (.ddp k) && decide (j < 32)) &&
     (s.keeps (.ddp k) (R.IRQ_PENDING j) (R.IRQ_PENDING j) 2 mask)) &&
    -- irqMode
    (let s₀ : State := ses 3 []
     let s := s₀.ready 0
     let w : Who := .ddp 0
     let v : Word := 0
     (whoOk w) &&
     (s.stores w R.IRQ_MODE v)) &&
    -- cxClaim
    (let s₀ : State := State.reset
     let s := s₀.ready 0
     let m : Nat := 2
     let x : Nat := 2
     (masterOk m) &&
     decide (s.reads m (R.CX_CLAIM x) = some (R.CX_CLAIM x))) &&
    -- cxComplete
    (let s₀ : State := State.reset
     let s := s₀.ready 0
     let m : Nat := 2
     let x : Nat := 2
     let src : Word := 5
     (masterOk m) &&
     (s.keeps (.ap m) (R.CX_COMPLETE x) (R.CX_COMPLETE x) 0 src)) &&
    -- msixUnmask
    (let s₀ : State := State.reset
     let s := s₀.ready 0
     let v : Nat := 0
     (decide (v < 64)) &&
     (s.blockUp 14)) &&
    -- evPop
    (let s₀ : State := State.reset
     let s := s₀.ready 0
     let m : Nat := 16
     (masterOk m) &&
     decide (s.reads m (R.EV_POP 0) = some (R.EV_POP 0))) &&
    -- timerTick
    (let s₀ : State := adj (dev [(R.TM_CTRL 0, 1), (R.TM_COUNT 0, 5)]) fun e => { e with timers := [(0, ⟨0, none, 0⟩)] }
     let s := s₀.ready 0
     let k : Nat := 0
     (timerOk k) && (
       let wrap := (s.rd (R.TM_COUNT k) == 0)
       decide (¬(!(s.ticking k) || decide (s.now < (s.timer k).due))))) &&
    -- timerWrap
    (let s₀ : State := adj (dev [(R.TM_CTRL 0, 1), (R.TM_COUNT 0, 0)]) fun e => { e with timers := [(0, ⟨0, none, 0⟩)] }
     let s := s₀.ready 0
     let k : Nat := 0
     (timerOk k) &&
     (s.rd (R.TM_COUNT k) == 0) && (
       let wrap := (s.rd (R.TM_COUNT k) == 0)
       decide (¬(!(s.ticking k) || decide (s.now < (s.timer k).due))))) &&
    -- timerMatch
    (let s₀ : State := adj (dev [(R.TM_CTRL 0, 1), (R.TM_COUNT 0, 5), (R.TM_CMP 0, 4)]) fun e => { e with timers := [(0, ⟨0, none, 0⟩)] }
     let s := s₀.ready 0
     let k : Nat := 0
     (timerOk k) &&
     (s.tickMatches k) && (
       let wrap := (s.rd (R.TM_COUNT k) == 0)
       decide (¬(!(s.ticking k) || decide (s.now < (s.timer k).due))))) &&
    -- tmCmd
    (let s₀ : State := ses 3 []
     let s := s₀.ready 0
     let w : Who := .ddp 0
     let k : Nat := 0
     (whoOk w) &&
     (s.takes w (R.TM_CMD k) 1)) &&
    -- tmCtrl
    (let s₀ : State := ses 3 []
     let s := s₀.ready 0
     let w : Who := .ddp 0
     let k : Nat := 0
     let v : Word := 1
     (whoOk w) &&
     (s.stores w (R.TM_CTRL k) v))) = true := by decide +kernel

/-- Every clause of ResetsComplete. -/
theorem witness_ResetsComplete : (
    -- vbatPor
    (let s₀ : State := State.reset
     let s := s₀.ready 0
     let mv : Nat := 0
     decide (mv < 1700)) &&
    -- vbatPor
    (let s₀ : State := adj (State.reset) fun e => { e with rst := { e.rst with power := 3 } }
     let s := s₀.ready 0
     let mv : Nat := 3000
     decide (¬ (mv < 1700)) &&
     decide (s.eng.rst.power = 3)) &&
    -- railsGood
    (let s₀ : State := State.reset
     let s := s₀.ready 0
     let pins : Nat := 0
     let mv : List Nat := List.replicate 24 30000
     decide ((pinsOk pins && decide (mv.length = 24)) = true) &&
     (s.eng.rst.power == 0 || s.eng.rst.power == 3)) &&
    -- brownOut
    (let s₀ : State := State.reset
     let s := s₀.ready 0
     let mv : List (Nat × Nat) := [(1, 7799)]
     (mv.all fun x => decide (x.1 < 24)) &&
     (s.railsFall mv != 0)) &&
    -- resetNAssert
    (let s₀ : State := State.reset
     let s := s₀.ready 0
     let pins : Nat := 0
     let held : Nat := 1000
     (pinsOk pins) &&
     decide (¬(held < 1000))) &&
    -- resetNRelease
    (let s₀ : State := State.reset
     let s := s₀.ready 0
     let pins : Nat := 0
     let held : Nat := 1000
     (pinsOk pins) &&
     decide (¬(held < 1000))) &&
    -- pllLock
    (let s₀ : State := State.reset
     let s := s₀.ready 0
     let d : Nat := 0
     (domainOk d) &&
     (s.eng.rst.mapped && decide (d < 11))) &&
    -- clockGood
    (let s₀ : State := State.reset
     let s := s₀.ready 0
     let d : Nat := 0
     let pins : Nat := 0
     (domainOk d && pinsOk pins)) &&
    -- dramTrained
    (let s₀ : State := adj (dev [(R.CK_GOOD 0, 1), (R.CK_GOOD 4, 1)]) fun e => { e with rst := { e.rst with trained := false } }
     let s := s₀.ready 0
     let pins : Nat := 0
     let cap : Nat := 8
     (pinsOk pins && capOk cap) &&
     (s.rd (R.CK_GOOD 0) == 1 && s.rd (R.CK_GOOD 4) == 1 && !s.eng.rst.trained)) &&
    -- bootImageVerified
    (let s₀ : State := adj (State.reset) fun e => { e with rst := { e.rst with stage := 2 } }
     let s := s₀.ready 0
     let bank : Nat := 0
     (decide (bank < 2)) &&
     decide (s.eng.rst.stage = 2) &&
     s.flashBoot &&
     decide (s.rd R.BT_STAGE = 0) &&
     (s.mayBoot bank)) &&
    -- bootImageVerified
    (let s₀ : State := adj (dev [(R.STRAPS, 32), (R.BT_STAGE, 2)]) fun e => { e with rst := { e.rst with stage := 2 } }
     let s := s₀.ready 0
     let bank : Nat := 0
     (decide (bank < 2)) &&
     decide (s.eng.rst.stage = 2) &&
     decide (s.flashBoot = false) &&
     decide (s.rd R.BT_STAGE = 2)) &&
    -- bootFailed
    (let s₀ : State := adj (State.reset) fun e => { e with rst := { e.rst with stage := 2 } }
     let s := s₀.ready 0
     (s.eng.rst.stage == 2 && s.rd R.BT_STAGE == 0 && [0, 1].all fun k => (s.eng.up.banks.at k []).isEmpty || !(s.bankBoots k))) &&
    -- btWrite
    (let s₀ : State := ses 3 [(R.BT_STAGE, 1)]
     let s := s₀.ready 0
     let w : Who := .ddp 0
     let n : Word := 8
     (whoOk w) &&
     (s.takes w R.BT_WRITE n)) &&
    -- btDone
    (let s₀ : State := ses 3 [(R.BT_STAGE, 1)]
     let s := s₀.ready 0
     let w : Who := .ddp 0
     let len : Word := 8
     (whoOk w) &&
     (s.takes w R.BT_DONE len)) &&
    -- bootImageRefused
    (let s₀ : State := adj (dev [(R.BT_STAGE, 2)]) fun e => { e with rst := { e.rst with stage := 2 } }
     let s := s₀.ready 0
     (s.eng.rst.stage == 2 && s.rd R.BT_STAGE == 2 && s.bootStatus s.eng.rst.image != 0)) &&
    -- clockWindow
    (let s₀ : State := State.reset
     let s := s₀.ready 0
     true) &&
    -- smWatchdogExpiry
    (let s₀ : State := dev [(R.BT_STAGE, 3)]
     let s := s₀.ready 1000000000
     let last : Nat := 0
     (s.rd R.BT_STAGE == 3 && decide (last + 1000000000 ≤ s.now))) &&
    -- smLockup
    (let s₀ : State := State.reset
     let s := s₀.ready 0
     let cycles : Nat := 2 ^ 24
     (lockedUp cycles && s.eng.rst.stage != 1 && s.eng.rst.stage != 3 && !(s.eng.flt.halted.contains 8))) &&
    -- acWatchdogExpiry
    (let s₀ : State := dev [(R.AC_STATE 0, 0), (R.AC_WD_MS 0, 1000)]
     let s := s₀.ready 1000000000000
     let c : Nat := 0
     (coreOk c) &&
     (s.wdExpired c)) &&
    -- acLockup
    (let s₀ : State := dev [(R.AC_STATE 0, 0)]
     let s := s₀.ready 0
     let c : Nat := 0
     let cycles : Nat := 2 ^ 24
     (coreOk c) &&
     (lockedUp cycles && s.rd (R.AC_STATE c) == 0 && !(s.eng.flt.halted.contains c))) &&
    -- acWdKick
    (let s₀ : State := State.reset
     let s := s₀.ready 0
     let w : Who := .ap 0
     let c : Nat := 0
     (whoOk w) &&
     (s.takes w (R.AC_WD_KICK c) 1)) &&
    -- legacyReset
    (let s₀ : State := ses 3 [(R.LEGACY_ON, 1)]
     let s := s₀.ready 0
     let w : Who := .ddp 0
     (whoOk w) &&
     (s.takes w R.LEGACY_RESET 0x5A)) &&
    -- rsReqCore
    (let s₀ : State := ses 3 []
     let s := s₀.ready 0
     let w : Who := .ddp 0
     let c : Nat := 1
     let hold : Bool := true
     (whoOk w && decide (c < 32)) &&
     (s.takes w R.RS_REQ (resetWord 0 c hold))) &&
    -- rsReqBlock
    (let s₀ : State := ses 3 []
     let s := s₀.ready 0
     let w : Who := .ddp 0
     let blk : Nat := 1
     let hold : Bool := true
     (whoOk w && decide (blk < 32)) &&
     (s.takes w R.RS_REQ (resetWord 1 blk hold))) &&
    -- rsReqSystem
    (let s₀ : State := ses 3 []
     let s := s₀.ready 0
     let w : Who := .ddp 0
     (whoOk w) &&
     (s.takes w R.RS_REQ (resetWord 2 0 false))) &&
    -- rsReqChip
    (let s₀ : State := ses 3 []
     let s := s₀.ready 0
     let w : Who := .ddp 0
     (whoOk w) &&
     (s.takes w R.RS_REQ (resetWord 3 0 false))) &&
    -- rsReqBackup
    (let s₀ : State := ses 3 []
     let s := s₀.ready 0
     let w : Who := .ddp 0
     (whoOk w) &&
     (s.takes w R.RS_REQ (resetWord 4 0 false))) &&
    -- rsRelease
    (let s₀ : State := ses 3 []
     let s := s₀.ready 0
     let w : Who := .ddp 0
     let reach : Nat := 1
     let target : Nat := 1
     (whoOk w && decide (reach < 8) && decide (target < 32)) &&
     (s.takes w R.RS_RELEASE (resetWord reach target false))) &&
    -- debugResetRequest
    (let s₀ : State := State.reset
     let s := s₀.ready 0
     let hart : Nat := 0
     let pins : Nat := 0
     (decide (hart ≤ 10) && pinsOk pins) &&
     decide (¬(¬ s.debugOpen (if hart = 10 then 0 else hart)))) &&
    -- resetPulseEnd
    (let s₀ : State := State.reset
     let s := s₀.ready 0
     let pins : Nat := 0
     (pinsOk pins)) &&
    -- blockResetAssert
    (let s₀ : State := dev [(R.BL_STATE 1, 1)]
     let s := s₀.ready 0
     let blk : Nat := 1
     (resetBlockOk blk) &&
     (s.rd (R.BL_STATE blk) == 1)) &&
    -- wrapperOpen
    (let s₀ : State := adj (State.reset) fun e => { e with rst := { e.rst with opening := [1] } }
     let s := s₀.ready 0
     let blk : Nat := 1
     (resetBlockOk blk) &&
     (s.eng.rst.opening.contains blk)) &&
    -- coreReset
    (let s₀ : State := adj (State.reset) fun e => { e with rst := { e.rst with srcs := [⟨8, 0, 0, none, true⟩] } }
     let s := s₀.ready 0
     let c : Nat := 0
     (coreOk c) &&
     (s.coreHeld c))) = true := by decide +kernel

/-- Every clause of PowerComplete. -/
theorem witness_PowerComplete : (
    -- dozeEntry
    (let s₀ : State := dev [(R.PW_DOZE_EN, 1)]
     let s := s₀.ready 0
     let wfi : Nat := 255
     (wfi % 256 == 255 && s.rd R.PW_STATE == 0 && s.rd R.PW_DOZE_EN == 1 && s.blockUp 0 && (List.range 16).all fun x => (s.eligibleFor x).isEmpty)) &&
    -- dozeExit
    (let s₀ : State := dev [(R.PW_STATE, 1)]
     let s := s₀.ready 0
     let halt : Bool := false
     (s.rd R.PW_STATE == 1 && (halt || s.rd R.PW_DOZE_EN == 0 || (List.range 16).any fun x => s.rd (R.CX_REQUEST x) == 1))) &&
    -- pfailWarning
    (let s₀ : State := State.reset
     let s := s₀.ready 0
     let mv : Nat := 0
     (s.eng.rst.power == 0 && decide (mv < s.rd R.PW_PFAIL_THR))) &&
    -- mainsGood
    (let s₀ : State := adj (State.reset) fun e => { e with rst := { e.rst with power := 2 } }
     let s := s₀.ready 0
     let mv : Nat := 60000
     let held : Nat := 10 ^ 9
     (decide (s.rd R.PW_PFAIL_THR + 50 < mv) && decide (s.rd R.PW_MAINS_GOOD ≤ held))) &&
    -- holdAfterExpiry
    (let s₀ : State := adj (State.reset) fun e => { e with rst := { e.rst with power := 1 } }
     let s := s₀.ready 100000000000000
     let h := s.eng.rst.latched.getD 1 0
     (s.eng.rst.power == 1 && h != 0 && decide (s.eng.rst.since + h * 1000000000 ≤ s.now))) &&
    -- holdExit
    (let s₀ : State := adj (State.reset) fun e => { e with rst := { e.rst with power := 2 } }
     let s := s₀.ready 0
     let mv : Nat := 1001
     (s.eng.rst.power == 2 && decide (1000 < mv))) &&
    -- pwCmd
    (let s₀ : State := ses 3 []
     let s := s₀.ready 0
     let w : Who := .ddp 0
     (whoOk w) &&
     (s.takes w R.PW_CMD 1)) &&
    -- tamperLatch
    (let s₀ : State := dev [(R.BK_TAMPER_CFG, 1)]
     let s := s₀.ready 0
     let n : Nat := 0
     let held : Nat := 100000
     (decide (n < 2)) && (
       let cfg := s.rd R.BK_TAMPER_CFG
       (s.eng.rst.power != 3 && decide (100000 ≤ held) && decide (n < 2) && bit? cfg n && !(bit? (s.rd R.BK_TAMPER) n)))) &&
    -- bkTamperClr
    (let s₀ : State := ses 3 []
     let s := s₀.ready 0
     let w : Who := .ddp 0
     let high : Nat := 0
     (whoOk w) &&
     (s.takes w R.BK_TAMPER_CLR 1)) &&
    -- rtcCmdSet
    (let s₀ : State := ses 3 []
     let s := s₀.ready 0
     let w : Who := .ddp 0
     (whoOk w) &&
     (s.takes w R.RTC_CMD 1)) &&
    -- rtcCmdInvalidate
    (let s₀ : State := ses 3 [(R.RTC_VALID, 1)]
     let s := s₀.ready 0
     let w : Who := .ddp 0
     (whoOk w) &&
     (s.takes w R.RTC_CMD 2) && (
       let u := (wr R.RTC_CMD 0).run s
       (u.rd R.RTC_VALID == 1))) &&
    -- rtcAutoSet
    (let s₀ : State := dev [(R.RTC_AUTO, 1), (R.SV_STATE, 2)]
     let s := s₀.ready 0
     (s.rd R.RTC_AUTO == 1 && s.rd R.SV_STATE == 2 && (s.rd R.RTC_VALID == 0 || decide (s.eng.rst.rtc.2 + 1000000000 ≤ s.now)))) &&
    -- crystalFail
    (let s₀ : State := adj (State.reset) fun e => { e with rst := { e.rst with latched := [0, 86400, 1] } }
     let s := s₀.ready 0
     (s.eng.rst.latched.getD 2 0 == 1)) &&
    -- thermalSample
    (let s₀ : State := State.reset
     let s := s₀.ready 0
     true)) = true := by decide +kernel

/-- Every clause of UpdatesComplete. -/
theorem witness_UpdatesComplete : (
    -- upWrite
    (let s₀ : State := ses 3 []
     let s := s₀.ready 0
     let w : Who := .ddp 0
     let n : Word := 8
     (whoOk w) &&
     (s.takes w R.UP_WRITE n)) &&
    -- upCmdVerify
    (let s₀ : State := ses 3 [(R.UP_STATE, 1)]
     let s := s₀.ready 0
     let w : Who := .ddp 0
     (whoOk w) &&
     (s.takes w R.UP_CMD 1) && (
       let u := (wr R.UP_CMD 0).run s
       decide ([1, 3, 4].contains (u.rd R.UP_STATE)) &&
       decide ((u.jobs 4).length < 4096))) &&
    -- upVerifyDone
    (let s₀ : State := dev [(R.UP_STATE, 2)]
     let s := s₀.ready 0
     decide (¬(s.rd R.UP_STATE ≠ 2 ∨ ((s.jobs 4).contains .update ∧ ¬ s.nextJob.any fun x => x.2.1 == .update)))) &&
    -- upCmdArm
    (let s₀ : State := ses 3 [(R.UP_STATE, 3)]
     let s := s₀.ready 0
     let w : Who := .ddp 0
     (whoOk w) &&
     (s.takes w R.UP_CMD 2) && (
       let u := (wr R.UP_CMD 0).run s
       let kind := u.rd R.UP_INSTANT
       decide (¬(u.rd R.UP_STATE ≠ 3)) &&
       decide (¬(u.armFault ≠ 0)) &&
       decide (¬(!(u.instantOk kind (u.rd R.UP_ASN % 2 ^ 40) (u.rdTime (R.UP_TIME 0))) || (kind != 0 && decide (u.upInstant ≤ u.devTime)))))) &&
    -- upCmdDisarm
    (let s₀ : State := ses 3 [(R.UP_STATE, 5)]
     let s := s₀.ready 0
     let w : Who := .ddp 0
     (whoOk w) &&
     (s.takes w R.UP_CMD 3) && (
       let u := (wr R.UP_CMD 0).run s
       decide (¬(u.rd R.UP_STATE ≠ 5)))) &&
    -- upCmdDiscard
    (let s₀ : State := ses 3 []
     let s := s₀.ready 0
     let w : Who := .ddp 0
     (whoOk w) &&
     (s.takes w R.UP_CMD 4) && (
       let u := (wr R.UP_CMD 0).run s
       decide ([0, 1, 3, 4].contains (u.rd R.UP_STATE)))) &&
    -- upCmdConfirm
    (let s₀ : State := ses 3 [(R.UP_RUN_STATE, 1)]
     let s := s₀.ready 0
     let w : Who := .ddp 0
     (whoOk w) &&
     (s.takes w R.UP_CMD 5) && (
       let u := (wr R.UP_CMD 0).run s
       decide (¬(u.rd R.UP_RUN_STATE ≠ 1)))) &&
    -- upActivation
    (let s₀ : State := adj (dev [(R.UP_STATE, 5)]) fun e => { e with up := { e.up with armed := some (0, 0) } }
     let s := s₀.ready 0
     (match s.eng.up.armed with
     | some a =>
       decide (¬(s.rd R.UP_STATE ≠ 5 ∨ s.devTime < s.armedAt a)) &&
       decide (¬(s.armFault ≠ 0))
     | _ => false))) = true := by decide +kernel

/-- Every clause of FaultsComplete. -/
theorem witness_FaultsComplete : (
    -- ledgerAudit
    (let s₀ : State := State.reset
     let s := s₀.ready 0
     let upset : List Nat := []
     (upset.all fun q => decide (q < 800)) &&
     (s.auditing && s.auditDue)) &&
    -- accessViolation
    (let s₀ : State := State.reset
     let s := s₀.ready 0
     let kind : Nat := 1
     let access : Nat := 0
     (decide (16 < 25) && decide (1 ≤ kind) && decide (kind < 4) && decide (access < 4))) &&
    -- accessViolation
    (let s₀ : State := State.reset
     let s := s₀.ready 0
     let m : Nat := 2
     let kind : Nat := 3
     let access : Nat := 0
     (decide (m < 25) && decide (1 ≤ kind) && decide (kind < 4) && decide (access < 4)) &&
     decide (m ≠ 16) &&
     decide (s.frozen m = false)) &&
    -- vrWordRead
    (let s₀ : State := State.reset
     let s := s₀.ready 0
     let m : Nat := 16
     let v : Nat := 0
     (masterOk m) &&
     decide (s.reads m (R.VR_WORD v) = some (R.VR_WORD v))) &&
    -- vrRelease
    (let s₀ : State := ses 3 [(R.VR_WORD 0, 2 ^ 63 + 2 ^ 62 + 2 * 2 ^ 48)]
     let s := s₀.ready 0
     let w : Who := .ddp 0
     let v : Word := 0
     (whoOk w) &&
     (s.takes w R.VR_RELEASE v)) &&
    -- fatalError
    (let s₀ : State := State.reset
     let s := s₀.ready 0
     let cause : Nat := 1
     let detail : Nat := 0
     (causeOk cause && decide (detail < 2 ^ 64)) &&
     decide (s.eng.flt.dump = none)) &&
    -- fatalError
    (let s₀ : State := adj (State.reset) fun e => { e with flt := { e.flt with dump := some ⟨0, 0, 0, 0, 0, 0⟩ } }
     let s := s₀.ready 0
     let cause : Nat := 6
     let detail : Nat := 0
     (causeOk cause && decide (detail < 2 ^ 64)) &&
     (match s.eng.flt.dump with
     | some d =>
       true
     | _ => false)) &&
    -- ftDeclare
    (let s₀ : State := State.reset
     let s := s₀.ready 0
     let w : Who := .ap 16
     let v : Word := 0
     (whoOk w) &&
     (s.takes w R.FT_DECLARE v) && (
       let u := (wr R.FT_DECLARE 0).run s
       decide (u.eng.flt.dump = none))) &&
    -- dumpComplete
    (let s₀ : State := adj (State.reset) fun e => { e with flt := { e.flt with dump := some ⟨0, 0, 0, 0, 0, 0⟩ } }
     let s := s₀.ready 0
     let abandoned : Bool := false
     let harts : List Nat := []
     let sram : List Nat := []
     (words harts && words sram) &&
     (match s.eng.flt.dump with
     | some d =>
       true
     | _ => false)) &&
    -- fdErase
    (let s₀ : State := ses 3 []
     let s := s₀.ready 0
     let w : Who := .ddp 0
     let e : Word := 0
     (whoOk w) &&
     (s.takes w R.FD_ERASE e)) &&
    -- peEn
    (let s₀ : State := ses 3 [(R.LC_STATE, 1)]
     let s := s₀.ready 0
     let w : Who := .ddp 0
     let k : Nat := 0
     let v : Word := 0
     (whoOk w) &&
     (s.stores w (R.PE_EN k) v)) &&
    -- perturbationApply
    (let s₀ : State := State.reset
     let s := s₀.ready 0
     let point : Nat := 0
     (decide (point < 256))) &&
    -- fxFuseBurn
    (let s₀ : State := ses 3 []
     let s := s₀.ready 0
     let w : Who := .ddp 0
     (whoOk w) &&
     (s.takes w R.FX_FUSE_BURN 1)) &&
    -- fxRawRead
    (let s₀ : State := ses 3 []
     let s := s₀.ready 0
     let w : Who := .ddp 0
     (whoOk w) &&
     (s.takes w R.FX_RAW_CMD 1)) &&
    -- fxRawWrite
    (let s₀ : State := ses 3 []
     let s := s₀.ready 0
     let w : Who := .ddp 0
     (whoOk w) &&
     (s.takes w R.FX_RAW_CMD 2))) = true := by decide +kernel

/-- Every clause of DebugComplete. -/
theorem witness_DebugComplete : (
    -- debugHalt
    (let s₀ : State := State.reset
     let s := s₀.ready 0
     let hart : Nat := 0
     (hartOk hart) &&
     (s.debugOpen hart)) &&
    -- debugResume
    (let s₀ : State := adj (State.reset) fun e => { e with flt := { e.flt with halted := [0] } }
     let s := s₀.ready 0
     let hart : Nat := 0
     (hartOk hart) &&
     (s.debugOpen hart)) &&
    -- debugSystemBusAccess
    (let s₀ : State := State.reset
     let s := s₀.ready 0
     let addr : Nat := 0x4010200000
     let v : Word := 500
     let r : Ref := R.IDLE_LIMIT
     let op : Nat := 0
     let c : Ref := R.IDLE_LIMIT
     (s.debugOpen 0) &&
     decide (addr % 8 = 0) &&
     decide (0x4000000000 ≤ addr) &&
     decide (addr < 0x4800000000) &&
     decide (apDecode addr = (r, op)) &&
     (s.keeps (.ap 18) r c op v)) &&
    -- debugSystemBusAccess
    (let s₀ : State := State.reset
     let s := s₀.ready 0
     let addr : Nat := 0x4000000000
     let r : Ref := R.VENDOR
     (s.debugOpen 0) &&
     decide (addr % 8 = 0) &&
     decide (0x4000000000 ≤ addr) &&
     decide (addr < 0x4800000000) &&
     decide (apDecode addr = (r, 0)) &&
     (match s.reads 18 r with
     | some q =>
       true
     | _ => false)) &&
    -- debugSystemBusAccess
    (let s₀ : State := State.reset
     let s := s₀.ready 0
     let addr : Nat := 0x20000FF8
     (s.debugOpen 0) &&
     decide (addr % 8 = 0) &&
     decide (0x20000000 ≤ addr) &&
     decide (addr ≤ 0x20000FFF) &&
     decide (s.frozen 18 = false) &&
     (s.masterUp 18)) &&
    -- debugSystemBusAccess
    (let s₀ : State := State.reset
     let s := s₀.ready 0
     let addr : Nat := 0x20000000
     (s.debugOpen 0) &&
     decide (addr % 8 = 0) &&
     decide (0x20000000 ≤ addr) &&
     decide (addr ≤ 0x20000FFF) &&
     decide (s.frozen 18 = false) &&
     (s.masterUp 18)) &&
    -- tapIdcode
    (let s₀ : State := State.reset
     let s := s₀.ready 0
     true) &&
    -- tapSamplePreload
    (let s₀ : State := State.reset
     let s := s₀.ready 0
     true) &&
    -- tapExtest
    (let s₀ : State := State.reset
     let s := s₀.ready 0
     true) &&
    -- tapHighz
    (let s₀ : State := State.reset
     let s := s₀.ready 0
     true) &&
    -- tapClamp
    (let s₀ : State := State.reset
     let s := s₀.ready 0
     true) &&
    -- tapDtmcs
    (let s₀ : State := State.reset
     let s := s₀.ready 0
     true) &&
    -- tapDmi
    (let s₀ : State := State.reset
     let s := s₀.ready 0
     true) &&
    -- tapBypass
    (let s₀ : State := State.reset
     let s := s₀.ready 0
     true)) = true := by decide +kernel

end Sys2Proof.Tests
end

section
/-! The LDPC encoding (R176, R177). The parity columns of both base graphs are a staircase, so the checks can be solved block by block:
row 0 gives p[1], each row after it the next block, and the sum of all rows gives p[0]. -/

namespace Sys2Proof.Machine

open Sys2Proof

/-! ## Lists of bits as numbers -/

/-- A list of bits as the number with these bits, least significant first. -/
def bitsVal : List Nat → Nat
  | [] => 0
  | b :: v => b % 2 + 2 * bitsVal v

theorem bitsVal_cons_div_two (b : Nat) (v : List Nat) : bitsVal (b :: v) / 2 = bitsVal v := by
  rw [bitsVal]; omega

theorem bitsVal_cons_mod_two (b : Nat) (v : List Nat) : bitsVal (b :: v) % 2 = b % 2 := by
  rw [bitsVal]; omega

theorem xor_mod_two (a b : Nat) : (a ^^^ b) % 2 = (a % 2) ^^^ (b % 2) := Nat.xor_mod_two_pow (n := 1)

/-- The xor of a list of numbers. -/
def xorSum (l : List Nat) : Nat := l.foldr (· ^^^ ·) 0

@[simp] theorem xorSum_nil : xorSum [] = 0 := rfl
@[simp] theorem xorSum_cons (x : Nat) (l : List Nat) : xorSum (x :: l) = x ^^^ xorSum l := rfl

theorem xorSum_append (l m : List Nat) : xorSum (l ++ m) = xorSum l ^^^ xorSum m := by
  induction l with
  | nil => rw [List.nil_append, xorSum_nil, Nat.zero_xor]
  | cons x l ih => rw [List.cons_append, xorSum_cons, ih, xorSum_cons, Nat.xor_assoc]

theorem eq_of_eq_self_xor_self_xor {x y : Nat} (c : Nat) (h : x = (c ^^^ c) ^^^ y) : x = y := by
  rw [h, Nat.xor_self, Nat.zero_xor]

theorem xor_eq_zero_iff_eq {x y : Nat} : x ^^^ y = 0 ↔ x = y := by
  constructor
  · intro h
    rw [← Nat.xor_zero x, ← h, ← Nat.xor_assoc, Nat.xor_self, Nat.zero_xor]
  · rintro rfl
    exact Nat.xor_self x

/-- A block: 48 bits. -/
def IsBlock (v : List Nat) : Prop := v.length = 48 ∧ ∀ b ∈ v, b ≤ 1

theorem bxor_le_one {a b : Nat} (ha : a ≤ 1) (hb : b ≤ 1) : bxor a b ≤ 1 :=
  Nat.le_of_lt_succ (Nat.xor_lt_two_pow (n := 1) (by omega) (by omega))

theorem bitsVal_xorBits {a b : List Nat} (h : a.length = b.length) : bitsVal (xorBits a b) = bitsVal a ^^^ bitsVal b := by
  induction a generalizing b with
  | nil =>
    obtain rfl := List.eq_nil_of_length_eq_zero h.symm
    rfl
  | cons x a ih =>
    match b, h with
    | y :: b, h =>
      have hdiv : (bitsVal (x :: a) ^^^ bitsVal (y :: b)) / 2 = bitsVal a ^^^ bitsVal b := by
        rw [Nat.xor_div_two, bitsVal_cons_div_two, bitsVal_cons_div_two]
      have hmod : (bitsVal (x :: a) ^^^ bitsVal (y :: b)) % 2 = bxor x y % 2 := by
        rw [bxor, xor_mod_two, bitsVal_cons_mod_two, bitsVal_cons_mod_two, ← xor_mod_two]
      have htail := ih (Nat.succ.inj h)
      calc bitsVal (bxor x y :: xorBits a b)
        _ = bxor x y % 2 + 2 * bitsVal (xorBits a b) := rfl
        _ = bitsVal (x :: a) ^^^ bitsVal (y :: b) := by omega

theorem bitsVal_replicate_zero (n : Nat) : bitsVal (List.replicate n 0) = 0 := by
  induction n with
  | zero => rfl
  | succ n ih => rw [List.replicate_succ, bitsVal, ih]

theorem bitsVal_zeros48 : bitsVal zeros48 = 0 := bitsVal_replicate_zero 48

/-- A list of bits is told from another of its length by its number. -/
theorem eq_of_bitsVal_eq {v w : List Nat} (hl : v.length = w.length) (hv : ∀ b ∈ v, b ≤ 1) (hw : ∀ b ∈ w, b ≤ 1)
    (h : bitsVal v = bitsVal w) : v = w := by
  induction v generalizing w with
  | nil => exact (List.eq_nil_of_length_eq_zero hl.symm).symm
  | cons x v ih =>
    match w, hl with
    | y :: w, hl =>
      obtain ⟨hx, hv⟩ := List.forall_mem_cons.mp hv
      obtain ⟨hy, hw⟩ := List.forall_mem_cons.mp hw
      rw [bitsVal, bitsVal] at h
      rw [show x = y by omega, ih (Nat.succ.inj hl) hv hw (by omega)]

theorem bitsVal_eq_iff {v w : List Nat} (hv : IsBlock v) (hw : IsBlock w) : bitsVal v = bitsVal w ↔ v = w :=
  ⟨eq_of_bitsVal_eq (hv.1.trans hw.1.symm) hv.2 hw.2, congrArg bitsVal⟩

/-! ## Blocks -/

theorem isBlock_zeros48 : IsBlock zeros48 := ⟨List.length_replicate, fun b hb => by rw [List.eq_of_mem_replicate hb]; exact Nat.zero_le 1⟩

theorem isBlock_ite_zeros48 (c : Prop) [Decidable c] {v : List Nat} (hv : IsBlock v) : IsBlock (if c then v else zeros48) := by
  split
  · exact hv
  · exact isBlock_zeros48

theorem isBlock_xorBits {a b : List Nat} (ha : IsBlock a) (hb : IsBlock b) : IsBlock (xorBits a b) := by
  refine ⟨by rw [xorBits, List.length_zipWith, ha.1, hb.1, Nat.min_self], fun x hx => ?_⟩
  obtain ⟨i, hi, rfl⟩ := List.getElem_of_mem hx
  simp only [xorBits, List.getElem_zipWith]
  exact bxor_le_one (ha.2 _ (List.getElem_mem _)) (hb.2 _ (List.getElem_mem _))

theorem isBlock_rot {v : List Nat} (hv : IsBlock v) (k : Nat) : IsBlock (rot v k) := by
  obtain ⟨hl, hb⟩ := hv
  refine ⟨by rw [rot, List.length_append, List.length_drop, List.length_take]; omega, fun x hx => hb x ?_⟩
  exact (List.mem_append.mp hx).elim List.mem_of_mem_drop List.mem_of_mem_take

theorem isBlock_getD {bs : List (List Nat)} (hbs : ∀ b ∈ bs, IsBlock b) (i : Nat) : IsBlock (bs.getD i zeros48) := by
  by_cases hi : i < bs.length
  · rw [List.getD_eq_getElem?_getD, List.getElem?_eq_getElem hi, Option.getD_some]
    exact hbs _ (List.getElem_mem hi)
  · rw [List.getD_eq_getElem?_getD, List.getElem?_eq_none (by omega), Option.getD_none]
    exact isBlock_zeros48

theorem drop_eq_getD_cons {bs : List (List Nat)} {i : Nat} (hi : i < bs.length) :
    bs.drop i = bs.getD i zeros48 :: bs.drop (i + 1) := by
  rw [List.drop_eq_getElem_cons hi, List.getD_eq_getElem?_getD, List.getElem?_eq_getElem hi, Option.getD_some]

@[simp] theorem rot_zero (v : List Nat) : rot v 0 = v := List.append_nil v

theorem bitsVal_xorBits_of_isBlock {a b : List Nat} (ha : IsBlock a) (hb : IsBlock b) : bitsVal (xorBits a b) = bitsVal a ^^^ bitsVal b :=
  bitsVal_xorBits (ha.1.trans hb.1.symm)

theorem isBlock_foldl_xorBits {bs : List (List Nat)} (hbs : ∀ b ∈ bs, IsBlock b) {a : List Nat} (ha : IsBlock a) :
    IsBlock (bs.foldl xorBits a) := by
  induction bs generalizing a with
  | nil => exact ha
  | cons b bs ih =>
    obtain ⟨hb, hbs⟩ := List.forall_mem_cons.mp hbs
    exact ih hbs (isBlock_xorBits ha hb)

theorem bitsVal_foldl_xorBits {bs : List (List Nat)} (hbs : ∀ b ∈ bs, IsBlock b) {a : List Nat} (ha : IsBlock a) :
    bitsVal (bs.foldl xorBits a) = bitsVal a ^^^ xorSum (bs.map bitsVal) := by
  induction bs generalizing a with
  | nil => exact (Nat.xor_zero _).symm
  | cons b bs ih =>
    obtain ⟨hb, hbs⟩ := List.forall_mem_cons.mp hbs
    rw [List.foldl_cons, ih hbs (isBlock_xorBits ha hb), bitsVal_xorBits_of_isBlock ha hb, List.map_cons, xorSum_cons, Nat.xor_assoc]

/-! ## Cutting a list of bits into blocks -/

@[simp] theorem length_blocks (l : List Nat) (n : Nat) : (blocks l n).length = n := by
  induction n generalizing l with
  | zero => rfl
  | succ n ih => rw [blocks, List.length_cons, ih]

theorem flatten_blocks {l : List Nat} {n : Nat} (h : l.length = 48 * n) : (blocks l n).flatten = l := by
  induction n generalizing l with
  | zero => exact (List.eq_nil_of_length_eq_zero h).symm
  | succ n ih => rw [blocks, List.flatten_cons, ih (by rw [List.length_drop]; omega), List.take_append_drop]

theorem isBlock_of_mem_blocks {l : List Nat} {n : Nat} (h : l.length = 48 * n) (hl : ∀ b ∈ l, b ≤ 1) :
    ∀ b ∈ blocks l n, IsBlock b := by
  induction n generalizing l with
  | zero => exact fun b hb => absurd hb List.not_mem_nil
  | succ n ih =>
    refine List.forall_mem_cons.mpr ⟨⟨by rw [List.length_take]; omega, fun b hb => hl b (List.mem_of_mem_take hb)⟩, ?_⟩
    exact ih (by rw [List.length_drop]; omega) fun b hb => hl b (List.mem_of_mem_drop hb)

theorem blocks_flatten_append {bs : List (List Nat)} (hbs : ∀ b ∈ bs, IsBlock b) (d : List Nat) (m : Nat) :
    blocks (bs.flatten ++ d) (bs.length + m) = bs ++ blocks d m := by
  induction bs with
  | nil => rw [List.flatten_nil, List.nil_append, List.nil_append, List.length_nil, Nat.zero_add]
  | cons b bs ih =>
    obtain ⟨⟨hb, -⟩, hbs⟩ := List.forall_mem_cons.mp hbs
    rw [List.length_cons, Nat.add_right_comm, blocks, List.flatten_cons, List.append_assoc, List.take_left' hb, List.drop_left' hb,
      ih hbs, List.cons_append]

theorem blocks_flatten {bs : List (List Nat)} (hbs : ∀ b ∈ bs, IsBlock b) : blocks bs.flatten bs.length = bs := by
  rw [← List.append_nil bs.flatten, ← Nat.add_zero bs.length, blocks_flatten_append hbs [] 0, blocks, List.append_nil]

theorem blocks_append {u : List Nat} {n : Nat} (hu : u.length = 48 * n) (hb : ∀ b ∈ u, b ≤ 1) (d : List Nat) (m : Nat) :
    blocks (u ++ d) (n + m) = blocks u n ++ blocks d m := by
  have h := blocks_flatten_append (isBlock_of_mem_blocks hu hb) d m
  rwa [flatten_blocks hu, length_blocks] at h

theorem length_flatten_of_isBlock {bs : List (List Nat)} (hbs : ∀ b ∈ bs, IsBlock b) : bs.flatten.length = 48 * bs.length := by
  rw [List.length_flatten, List.map_congr_left fun b hb => (hbs b hb).1, List.map_const', List.sum_replicate_nat, Nat.mul_comm]

/-! ## Rows of H -/

/-- What `rowSum` does with one entry. -/
def addEntry (bs : List (List Nat)) (lim : Nat) (acc : List Nat) (e : Nat × Nat) : List Nat :=
  if e.1 < lim then xorBits acc (rot (bs.getD e.1 zeros48) e.2) else acc

theorem rowSum_eq_foldl (bs : List (List Nat)) (lim : Nat) (row : List (Nat × Nat)) :
    rowSum bs lim row = row.foldl (addEntry bs lim) zeros48 := rfl

/-- The information columns see the information blocks only. -/
theorem rowSum_append {us : List (List Nat)} {lim : Nat} (hus : us.length = lim) (ps : List (List Nat)) (row : List (Nat × Nat)) :
    rowSum (us ++ ps) lim row = rowSum us lim row := by
  have h : addEntry (us ++ ps) lim = addEntry us lim := by
    funext acc e
    by_cases he : e.1 < lim
    · rw [addEntry, addEntry, List.getD_eq_getElem?_getD, List.getD_eq_getElem?_getD, List.getElem?_append_left (by omega)]
    · rw [addEntry, addEntry, if_neg he, if_neg he]
  rw [rowSum_eq_foldl, rowSum_eq_foldl, h]

/-- The entries of a row in the parity columns, 12 to 23. -/
def parityPart (row : List (Nat × Nat)) : List (Nat × Nat) := row.filter fun e => 12 ≤ e.1 ∧ e.1 < 24

/-- What an entry of a base row adds to the row's check, as a number. -/
def entryTerm (bs : List (List Nat)) (e : Nat × Nat) : Nat := bitsVal (rot (bs.getD e.1 zeros48) e.2)

/-- The check of a base row, as a number. -/
def rowCheck (bs : List (List Nat)) (row : List (Nat × Nat)) : Nat := bitsVal (rowSum bs 24 row)

/-- The λ of a base row (R177), as a number. -/
def rowLambda (bs : List (List Nat)) (row : List (Nat × Nat)) : Nat := bitsVal (rowSum bs 12 row)

theorem isBlock_addEntry {bs : List (List Nat)} (hbs : ∀ b ∈ bs, IsBlock b) (lim : Nat) {acc : List Nat} (hacc : IsBlock acc)
    (e : Nat × Nat) : IsBlock (addEntry bs lim acc e) := by
  rw [addEntry]
  split
  · exact isBlock_xorBits hacc (isBlock_rot (isBlock_getD hbs _) _)
  · exact hacc

theorem bitsVal_addEntry {bs : List (List Nat)} (hbs : ∀ b ∈ bs, IsBlock b) (lim : Nat) {acc : List Nat} (hacc : IsBlock acc)
    (e : Nat × Nat) : bitsVal (addEntry bs lim acc e) = bitsVal acc ^^^ if e.1 < lim then entryTerm bs e else 0 := by
  rw [addEntry]
  split
  · exact bitsVal_xorBits_of_isBlock hacc (isBlock_rot (isBlock_getD hbs _) _)
  · exact (Nat.xor_zero _).symm

theorem isBlock_foldl_addEntry {bs : List (List Nat)} (hbs : ∀ b ∈ bs, IsBlock b) (lim : Nat) (row : List (Nat × Nat))
    {acc : List Nat} (hacc : IsBlock acc) : IsBlock (row.foldl (addEntry bs lim) acc) := by
  induction row generalizing acc with
  | nil => exact hacc
  | cons e row ih => exact ih (isBlock_addEntry hbs lim hacc e)

theorem isBlock_rowSum {bs : List (List Nat)} (hbs : ∀ b ∈ bs, IsBlock b) (lim : Nat) (row : List (Nat × Nat)) :
    IsBlock (rowSum bs lim row) := isBlock_foldl_addEntry hbs lim row isBlock_zeros48

theorem bitsVal_foldl_addEntry {bs : List (List Nat)} (hbs : ∀ b ∈ bs, IsBlock b) (lim : Nat) (row : List (Nat × Nat))
    {acc : List Nat} (hacc : IsBlock acc) :
    bitsVal (row.foldl (addEntry bs lim) acc) = bitsVal acc ^^^ xorSum (row.map fun e => if e.1 < lim then entryTerm bs e else 0) := by
  induction row generalizing acc with
  | nil => exact (Nat.xor_zero _).symm
  | cons e row ih =>
    rw [List.foldl_cons, ih (isBlock_addEntry hbs lim hacc e), bitsVal_addEntry hbs lim hacc, List.map_cons, xorSum_cons, Nat.xor_assoc]

theorem bitsVal_rowSum {bs : List (List Nat)} (hbs : ∀ b ∈ bs, IsBlock b) (lim : Nat) (row : List (Nat × Nat)) :
    bitsVal (rowSum bs lim row) = xorSum (row.map fun e => if e.1 < lim then entryTerm bs e else 0) := by
  rw [rowSum_eq_foldl, bitsVal_foldl_addEntry hbs lim row isBlock_zeros48, bitsVal_zeros48, Nat.zero_xor]

theorem parityPart_cons (e : Nat × Nat) (row : List (Nat × Nat)) :
    parityPart (e :: row) = if 12 ≤ e.1 ∧ e.1 < 24 then e :: parityPart row else parityPart row := by
  by_cases h : 12 ≤ e.1 ∧ e.1 < 24
  · rw [if_pos h]
    exact List.filter_cons_of_pos (decide_eq_true h)
  · rw [if_neg h]
    exact List.filter_cons_of_neg (by rwa [decide_eq_true_eq])

/-- A check is λ with the row's parity entries. -/
theorem rowCheck_eq_rowLambda_xor {bs : List (List Nat)} (hbs : ∀ b ∈ bs, IsBlock b) (row : List (Nat × Nat)) :
    rowCheck bs row = rowLambda bs row ^^^ xorSum ((parityPart row).map (entryTerm bs)) := by
  rw [rowCheck, rowLambda, bitsVal_rowSum hbs, bitsVal_rowSum hbs]
  induction row with
  | nil => exact (Nat.xor_self 0).symm
  | cons e row ih =>
    rw [List.map_cons, List.map_cons, xorSum_cons, xorSum_cons, ih, parityPart_cons]
    by_cases h12 : e.1 < 12
    · rw [if_pos h12, if_pos (by omega), if_neg (by omega), Nat.xor_assoc]
    · by_cases h24 : e.1 < 24
      · rw [if_neg h12, if_pos h24, if_pos (by omega), List.map_cons, xorSum_cons, Nat.zero_xor]
        ac_rfl
      · rw [if_neg h12, if_neg h24, if_neg (by omega), Nat.zero_xor, Nat.zero_xor]

/-- A check is met when its number is zero. -/
theorem all_zero_iff_rowCheck {bs : List (List Nat)} (hbs : ∀ b ∈ bs, IsBlock b) (row : List (Nat × Nat)) :
    ((rowSum bs 24 row).all (· == 0)) = true ↔ rowCheck bs row = 0 := by
  have hblock := isBlock_rowSum hbs 24 row
  rw [rowCheck, ← bitsVal_zeros48, bitsVal_eq_iff hblock isBlock_zeros48, zeros48, List.eq_replicate_iff, List.all_eq_true]
  constructor
  · exact fun h => ⟨hblock.1, fun b hb => eq_of_beq (h b hb)⟩
  · exact fun h b hb => beq_iff_eq.mpr (h.2 b hb)

/-! ## The staircase -/

/-- The parity entries of the rows from row `j` on, `n` of them before the last (Tables CODE-4 and CODE-5): row `j` holds the blocks `j` and
`j + 1`, row `mid` block 0 too, and the last row block 0 rotated and its own block. -/
def staircase (mid : Nat) : Nat → Nat → List (List (Nat × Nat))
  | j, 0 => [[(12, 1), (12 + j, 0)]]
  | j, n + 1 => ((if j = mid then [(12, 0)] else []) ++ [(12 + j, 0), (13 + j, 0)]) :: staircase mid (j + 1) n

theorem staircase_ne_nil (mid j n : Nat) : staircase mid j n ≠ [] := by cases n <;> exact List.cons_ne_nil _ _

theorem parityRest_cons (mid : Nat) (p0 : List Nat) (j : Nat) (prev l : List Nat) {rest : List (List Nat)} (h : rest ≠ []) :
    parityRest mid p0 j prev (l :: rest) =
      xorBits (xorBits l prev) (if j = mid then p0 else zeros48) ::
        parityRest mid p0 (j + 1) (xorBits (xorBits l prev) (if j = mid then p0 else zeros48)) rest := by
  cases rest with
  | nil => contradiction
  | cons r rest => rfl

theorem staircase_succ_inv {mid j n : Nat} {rows : List (List (Nat × Nat))} (h : rows.map parityPart = staircase mid j (n + 1)) :
    ∃ row rest, rows = row :: rest ∧ rest ≠ [] ∧ rest.map parityPart = staircase mid (j + 1) n ∧
      parityPart row = (if j = mid then [(12, 0)] else []) ++ [(12 + j, 0), (13 + j, 0)] := by
  obtain ⟨row, rest, rfl, hrow, hrest⟩ := List.map_eq_cons_iff.mp h
  refine ⟨row, rest, rfl, ?_, hrest, hrow⟩
  rintro rfl
  exact staircase_ne_nil _ _ _ hrest.symm

/-! ## The parity blocks -/

/-- R177: the parity blocks of the information blocks `us`, for the base graph `base`. -/
def parityBlocks (base : List (List (Nat × Nat))) (mid : Nat) (us : List (List Nat)) : List (List Nat) :=
  let lams := base.map (rowSum us 12)
  let p0 := lams.foldl xorBits zeros48
  let p1 := xorBits (lams.getD 0 zeros48) (rot p0 1)
  p0 :: p1 :: parityRest mid p0 1 p1 (lams.drop 1)

/-- Each parity block is given by the blocks before it, as R177 writes them. -/
theorem cons_cons_eq_parityBlocks_iff {row₀ : List (Nat × Nat)} {rows : List (List (Nat × Nat))} {mid : Nat} {us : List (List Nat)}
    {q0 q1 : List Nat} {qs : List (List Nat)} :
    q0 :: q1 :: qs = parityBlocks (row₀ :: rows) mid us ↔
      q0 = ((row₀ :: rows).map (rowSum us 12)).foldl xorBits zeros48 ∧ q1 = xorBits (rowSum us 12 row₀) (rot q0 1) ∧
        qs = parityRest mid q0 1 q1 (rows.map (rowSum us 12)) := by
  constructor
  · intro h
    obtain ⟨rfl, htail⟩ := List.cons.inj h
    obtain ⟨rfl, rfl⟩ := List.cons.inj htail
    exact ⟨rfl, rfl, rfl⟩
  · rintro ⟨rfl, rfl, rfl⟩
    rfl

section Checks

variable {bs : List (List Nat)} (hbs : ∀ b ∈ bs, IsBlock b) {mid : Nat}

include hbs

theorem rowCheck_last {row : List (Nat × Nat)} {j : Nat} (h : parityPart row = [(12, 1), (12 + j, 0)]) :
    rowCheck bs row = rowLambda bs row ^^^ bitsVal (rot (bs.getD 12 zeros48) 1) ^^^ bitsVal (bs.getD (12 + j) zeros48) := by
  rw [rowCheck_eq_rowLambda_xor hbs, h, List.map_cons, List.map_cons, List.map_nil, xorSum_cons, xorSum_cons, xorSum_nil, Nat.xor_zero,
    entryTerm, entryTerm, rot_zero, Nat.xor_assoc]

theorem rowCheck_first {row : List (Nat × Nat)} (h : parityPart row = [(12, 1), (13, 0)]) :
    rowCheck bs row = rowLambda bs row ^^^ bitsVal (rot (bs.getD 12 zeros48) 1) ^^^ bitsVal (bs.getD 13 zeros48) :=
  rowCheck_last hbs (j := 1) h

/-- Row 0's check is met exactly by the p[1] that the encoding writes. -/
theorem rowCheck_first_iff {row : List (Nat × Nat)} (h : parityPart row = [(12, 1), (13, 0)]) :
    rowCheck bs row = 0 ↔ bs.getD 13 zeros48 = xorBits (rowSum bs 12 row) (rot (bs.getD 12 zeros48) 1) := by
  have hget := isBlock_getD hbs
  have hlam := isBlock_rowSum hbs 12 row
  have hrot := isBlock_rot (hget 12) 1
  rw [rowCheck_first hbs h, xor_eq_zero_iff_eq, eq_comm, ← bitsVal_eq_iff (hget _) (isBlock_xorBits hlam hrot),
    bitsVal_xorBits_of_isBlock hlam hrot, rowLambda]

theorem rowCheck_middle {row : List (Nat × Nat)} {j : Nat}
    (h : parityPart row = (if j = mid then [(12, 0)] else []) ++ [(12 + j, 0), (13 + j, 0)]) :
    rowCheck bs row = rowLambda bs row ^^^ bitsVal (bs.getD (12 + j) zeros48) ^^^
      (if j = mid then bitsVal (bs.getD 12 zeros48) else 0) ^^^ bitsVal (bs.getD (13 + j) zeros48) := by
  have hmid : xorSum ((if j = mid then [(12, 0)] else []).map (entryTerm bs)) = if j = mid then bitsVal (bs.getD 12 zeros48) else 0 := by
    split
    · rw [List.map_cons, List.map_nil, xorSum_cons, xorSum_nil, Nat.xor_zero, entryTerm, rot_zero]
    · rfl
  rw [rowCheck_eq_rowLambda_xor hbs, h, List.map_append, xorSum_append, hmid, List.map_cons, List.map_cons, List.map_nil, xorSum_cons,
    xorSum_cons, xorSum_nil, Nat.xor_zero, entryTerm, entryTerm, rot_zero, rot_zero]
  ac_rfl

/-- A middle row's check is met exactly by the next block that the encoding writes. -/
theorem rowCheck_middle_iff {row : List (Nat × Nat)} {j : Nat}
    (h : parityPart row = (if j = mid then [(12, 0)] else []) ++ [(12 + j, 0), (13 + j, 0)]) :
    rowCheck bs row = 0 ↔ bs.getD (13 + j) zeros48 =
      xorBits (xorBits (rowSum bs 12 row) (bs.getD (12 + j) zeros48)) (if j = mid then bs.getD 12 zeros48 else zeros48) := by
  have hget := isBlock_getD hbs
  have hsum := isBlock_xorBits (isBlock_rowSum hbs 12 row) (hget (12 + j))
  have hmid := isBlock_ite_zeros48 (j = mid) (hget 12)
  rw [rowCheck_middle hbs h, xor_eq_zero_iff_eq, eq_comm, ← bitsVal_eq_iff (hget _) (isBlock_xorBits hsum hmid),
    bitsVal_xorBits_of_isBlock hsum hmid, bitsVal_xorBits_of_isBlock (isBlock_rowSum hbs 12 row) (hget _), apply_ite bitsVal,
    bitsVal_zeros48, rowLambda]

/-- The rows of a staircase are met exactly when the blocks are those that the encoding writes and the sum of the checks is zero. -/
theorem rowChecks_staircase_iff {j n : Nat} {rows : List (List (Nat × Nat))} (h : rows.map parityPart = staircase mid j n)
    (hlen : bs.length = 13 + j + n) :
    (∀ row ∈ rows, rowCheck bs row = 0) ↔
      bs.drop (13 + j) = parityRest mid (bs.getD 12 zeros48) j (bs.getD (12 + j) zeros48) (rows.map (rowSum bs 12)) ∧
        xorSum (rows.map (rowCheck bs)) = 0 := by
  induction n generalizing j rows with
  | zero =>
    obtain ⟨row, rest, rfl, -, hrest⟩ := List.map_eq_cons_iff.mp h
    obtain rfl := List.map_eq_nil_iff.mp hrest
    have hsum : xorSum ([row].map (rowCheck bs)) = rowCheck bs row := Nat.xor_zero _
    rw [List.drop_of_length_le (by omega), List.forall_mem_singleton, hsum]
    exact (and_iff_right rfl).symm
  | succ n ih =>
    obtain ⟨row, rest, rfl, hne, hrest, hrow⟩ := staircase_succ_inv h
    have hdrop : bs.drop (13 + j) = bs.getD (13 + j) zeros48 :: bs.drop (13 + (j + 1)) := by
      rw [drop_eq_getD_cons (by omega), Nat.add_assoc]
    have ih := ih hrest (by omega)
    rw [show 12 + (j + 1) = 13 + j by omega] at ih
    rw [List.forall_mem_cons, ih, hdrop, List.map_cons, List.map_cons, xorSum_cons, parityRest_cons _ _ _ _ _ (mt List.map_eq_nil_iff.mp hne),
      List.cons.injEq, ← rowCheck_middle_iff hbs hrow, and_assoc]
    refine and_congr_right fun hzero => ?_
    rw [hzero, Nat.zero_xor, (rowCheck_middle_iff hbs hrow).mp hzero]

/-- Along a staircase each block but the first is in two rows, so the checks sum to the λ with what does not cancel. -/
theorem xorSum_rowChecks_staircase {j n : Nat} {rows : List (List (Nat × Nat))} (h : rows.map parityPart = staircase mid j n) :
    xorSum (rows.map (rowCheck bs)) = xorSum (rows.map (rowLambda bs)) ^^^ bitsVal (rot (bs.getD 12 zeros48) 1) ^^^
      bitsVal (bs.getD (12 + j) zeros48) ^^^ if j ≤ mid ∧ mid < j + n then bitsVal (bs.getD 12 zeros48) else 0 := by
  induction n generalizing j rows with
  | zero =>
    obtain ⟨row, rest, rfl, hrow, hrest⟩ := List.map_eq_cons_iff.mp h
    obtain rfl := List.map_eq_nil_iff.mp hrest
    rw [List.map_cons, List.map_nil, xorSum_cons, xorSum_nil, rowCheck_last hbs hrow, List.map_cons, List.map_nil, xorSum_cons, xorSum_nil,
      if_neg (by omega), Nat.xor_zero, Nat.xor_zero, Nat.xor_zero]
  | succ n ih =>
    obtain ⟨row, rest, rfl, -, hrest, hrow⟩ := staircase_succ_inv h
    have hmid : (if j ≤ mid ∧ mid < j + (n + 1) then bitsVal (bs.getD 12 zeros48) else 0) =
        (if j = mid then bitsVal (bs.getD 12 zeros48) else 0) ^^^
          if j + 1 ≤ mid ∧ mid < j + 1 + n then bitsVal (bs.getD 12 zeros48) else 0 := by
      by_cases hj : j = mid
      · rw [if_pos hj, if_pos (by omega), if_neg (by omega), Nat.xor_zero]
      · have hrange : (j ≤ mid ∧ mid < j + (n + 1)) = (j + 1 ≤ mid ∧ mid < j + 1 + n) := propext (by omega)
        rw [if_neg hj, Nat.zero_xor]
        simp only [hrange]
    rw [List.map_cons, xorSum_cons, ih hrest, rowCheck_middle hbs hrow, List.map_cons, xorSum_cons, hmid,
      show 12 + (j + 1) = 13 + j by omega]
    apply eq_of_eq_self_xor_self_xor (bitsVal (bs.getD (13 + j) zeros48))
    ac_rfl

/-- Over the whole base graph, with row `mid` in the staircase, only p[0] and the λ are left. -/
theorem xorSum_rowChecks {row₀ : List (Nat × Nat)} {rows : List (List (Nat × Nat))} {n : Nat} (h₀ : parityPart row₀ = [(12, 1), (13, 0)])
    (h : rows.map parityPart = staircase mid 1 n) (hmid : 1 ≤ mid) (hmidn : mid ≤ n) :
    xorSum ((row₀ :: rows).map (rowCheck bs)) = bitsVal (bs.getD 12 zeros48) ^^^ xorSum ((row₀ :: rows).map (rowLambda bs)) := by
  rw [List.map_cons, xorSum_cons, xorSum_rowChecks_staircase hbs h, rowCheck_first hbs h₀, if_pos (by omega), List.map_cons, xorSum_cons]
  apply eq_of_eq_self_xor_self_xor (bitsVal (rot (bs.getD 12 zeros48) 1) ^^^ bitsVal (bs.getD 13 zeros48))
  ac_rfl

/-- The sum of all checks is zero exactly for the p[0] that the encoding writes. -/
theorem xorSum_rowChecks_eq_zero_iff {row₀ : List (Nat × Nat)} {rows : List (List (Nat × Nat))} {n : Nat}
    (h₀ : parityPart row₀ = [(12, 1), (13, 0)]) (h : rows.map parityPart = staircase mid 1 n) (hmid : 1 ≤ mid) (hmidn : mid ≤ n) :
    xorSum ((row₀ :: rows).map (rowCheck bs)) = 0 ↔
      bs.getD 12 zeros48 = ((row₀ :: rows).map (rowSum bs 12)).foldl xorBits zeros48 := by
  have hlams : ∀ l ∈ (row₀ :: rows).map (rowSum bs 12), IsBlock l :=
    List.forall_mem_map.mpr fun row _ => isBlock_rowSum hbs 12 row
  rw [xorSum_rowChecks hbs h₀ h hmid hmidn, xor_eq_zero_iff_eq,
    ← bitsVal_eq_iff (isBlock_getD hbs 12) (isBlock_foldl_xorBits hlams isBlock_zeros48), bitsVal_foldl_xorBits hlams isBlock_zeros48,
    bitsVal_zeros48, Nat.zero_xor, List.map_map]
  rfl

/-- The checks are met exactly by the parity blocks of the encoding: row 0 fixes p[1], the staircase the blocks after it, and the sum of all
checks p[0]. -/
theorem rowChecks_iff_parityBlocks {base : List (List (Nat × Nat))} {n : Nat}
    (hbase : base.map parityPart = [(12, 1), (13, 0)] :: staircase mid 1 n) (hmid : 1 ≤ mid) (hmidn : mid ≤ n)
    (hlen : bs.length = 14 + n) :
    (∀ row ∈ base, rowCheck bs row = 0) ↔ bs.drop 12 = parityBlocks base mid bs := by
  obtain ⟨row₀, rows, rfl, hrow₀, hrows⟩ := List.map_eq_cons_iff.mp hbase
  have hfirst := rowCheck_first_iff hbs hrow₀
  have hrest := rowChecks_staircase_iff hbs hrows hlen
  have htotal := xorSum_rowChecks_eq_zero_iff hbs hrow₀ hrows hmid hmidn
  have hdrop : bs.drop 12 = bs.getD 12 zeros48 :: bs.getD 13 zeros48 :: bs.drop 14 := by
    rw [drop_eq_getD_cons (i := 12) (by omega), drop_eq_getD_cons (i := 13) (by omega)]
  rw [List.forall_mem_cons, hrest, hdrop, cons_cons_eq_parityBlocks_iff, ← htotal, ← hfirst, List.map_cons, xorSum_cons]
  constructor
  · rintro ⟨h0, hnext, hsum⟩
    exact ⟨by rw [h0, hsum, Nat.zero_xor], h0, hnext⟩
  · rintro ⟨htot, h0, hnext⟩
    rw [h0, Nat.zero_xor] at htot
    exact ⟨h0, hnext, htot⟩

end Checks

/-- The encoding reads the information blocks only. -/
theorem parityBlocks_append (base : List (List (Nat × Nat))) (mid : Nat) {us : List (List Nat)} (hus : us.length = 12)
    (ps : List (List Nat)) : parityBlocks base mid (us ++ ps) = parityBlocks base mid us := by
  have h : rowSum (us ++ ps) 12 = rowSum us 12 := funext fun row => rowSum_append hus ps row
  rw [parityBlocks, h, parityBlocks]

/-! ## The two codes -/

/-- The row that R177 calls mid. -/
def midRow (rate : Nat) : Nat := if rate = 0 then 5 else 3

theorem ldpcEncode_eq (rate : Nat) (u : List Nat) :
    ldpcEncode rate u = u ++ (parityBlocks (baseOf rate) (midRow rate) (blocks u 12)).flatten := by
  rw [ldpcEncode, parityBlocks, List.flatten_cons, List.flatten_cons, List.append_assoc, List.append_assoc]
  rfl

theorem isBlock_parityRest {mid : Nat} {p0 : List Nat} (hp0 : IsBlock p0) {lams : List (List Nat)} (hlams : ∀ l ∈ lams, IsBlock l)
    {prev : List Nat} (hprev : IsBlock prev) (j : Nat) : ∀ p ∈ parityRest mid p0 j prev lams, IsBlock p := by
  induction lams generalizing j prev with
  | nil => exact fun p hp => absurd hp List.not_mem_nil
  | cons l rest ih =>
    obtain ⟨hl, hrest⟩ := List.forall_mem_cons.mp hlams
    by_cases hne : rest = []
    · rw [hne]
      exact fun p hp => absurd hp List.not_mem_nil
    · have hnext := isBlock_xorBits (isBlock_xorBits hl hprev) (isBlock_ite_zeros48 (j = mid) hp0)
      rw [parityRest_cons _ _ _ _ _ hne]
      exact List.forall_mem_cons.mpr ⟨hnext, ih hrest hnext _⟩

theorem length_parityRest (mid : Nat) (p0 : List Nat) (j : Nat) (prev : List Nat) (lams : List (List Nat)) :
    (parityRest mid p0 j prev lams).length = lams.length - 1 := by
  induction lams generalizing j prev with
  | nil => rfl
  | cons l rest ih =>
    by_cases hne : rest = []
    · rw [hne]
      rfl
    · rw [parityRest_cons _ _ _ _ _ hne, List.length_cons, ih]
      have := List.length_pos_iff.mpr hne
      rw [List.length_cons]; omega

theorem isBlock_parityBlocks (base : List (List (Nat × Nat))) (mid : Nat) {us : List (List Nat)} (hus : ∀ b ∈ us, IsBlock b) :
    ∀ p ∈ parityBlocks base mid us, IsBlock p := by
  have hlams : ∀ l ∈ base.map (rowSum us 12), IsBlock l := List.forall_mem_map.mpr fun row _ => isBlock_rowSum hus 12 row
  have hp0 := isBlock_foldl_xorBits hlams isBlock_zeros48
  have hp1 := isBlock_xorBits (isBlock_getD hlams 0) (isBlock_rot hp0 1)
  refine List.forall_mem_cons.mpr ⟨hp0, List.forall_mem_cons.mpr ⟨hp1, ?_⟩⟩
  exact isBlock_parityRest hp0 (fun l hl => hlams l (List.mem_of_mem_drop hl)) hp1 1

/-- Tables CODE-4 and CODE-5: past the information columns both base graphs are row 0 and a staircase. -/
theorem baseOf_staircase {rate : Nat} (h : rate ≤ 1) :
    (baseOf rate).map parityPart = [(12, 1), (13, 0)] :: staircase (midRow rate) 1 (dlCols rate - 14) := by
  obtain rfl | rfl := Nat.le_one_iff_eq_zero_or_eq_one.mp h <;> decide

theorem midRow_mem {rate : Nat} (h : rate ≤ 1) : 1 ≤ midRow rate ∧ midRow rate ≤ dlCols rate - 14 := by
  obtain rfl | rfl := Nat.le_one_iff_eq_zero_or_eq_one.mp h <;> decide

theorem dlCols_eq {rate : Nat} (h : rate ≤ 1) : dlCols rate = 14 + (dlCols rate - 14) := by
  obtain rfl | rfl := Nat.le_one_iff_eq_zero_or_eq_one.mp h <;> rfl

theorem length_parityBlocks {rate : Nat} (hrate : rate ≤ 1) (us : List (List Nat)) :
    (parityBlocks (baseOf rate) (midRow rate) us).length = dlCols rate - 12 := by
  rw [parityBlocks, List.length_cons, List.length_cons, length_parityRest, List.length_drop, List.length_map]
  obtain rfl | rfl := Nat.le_one_iff_eq_zero_or_eq_one.mp hrate <;> rfl

/-- A word of bits is a codeword exactly when its parity blocks are those that the encoding writes. -/
theorem syndromeZero_append_iff {rate : Nat} {u d : List Nat} (hrate : rate ≤ 1) (hul : u.length = 48 * 12) (hu : ∀ b ∈ u, b ≤ 1)
    (hdl : d.length = 48 * (dlCols rate - 12)) (hd : ∀ b ∈ d, b ≤ 1) :
    syndromeZero rate (u ++ d) = true ↔ d = (parityBlocks (baseOf rate) (midRow rate) (blocks u 12)).flatten := by
  have hus := isBlock_of_mem_blocks hul hu
  have hbs := List.forall_mem_append.mpr ⟨hus, isBlock_of_mem_blocks hdl hd⟩
  obtain ⟨hmid, hmidn⟩ := midRow_mem hrate
  have hcols := dlCols_eq hrate
  have hblocks : blocks (u ++ d) (dlCols rate) = blocks u 12 ++ blocks d (dlCols rate - 12) := by
    rw [← blocks_append hul hu, ← show dlCols rate = 12 + (dlCols rate - 12) by omega]
  have hchecks := rowChecks_iff_parityBlocks hbs (baseOf_staircase hrate) hmid hmidn
    (by rw [List.length_append, length_blocks, length_blocks]; omega)
  rw [List.drop_left' (length_blocks _ _), parityBlocks_append _ _ (length_blocks _ _)] at hchecks
  simp only [syndromeZero, hblocks, List.all_eq_true (l := baseOf rate), all_zero_iff_rowCheck hbs, hchecks]
  constructor
  · intro h
    rw [← h, flatten_blocks hdl]
  · rintro rfl
    rw [← length_parityBlocks hrate (blocks u 12), blocks_flatten (isBlock_parityBlocks _ _ hus)]

/-- Settles O28: the word of the encoding begins with the information bits, and a word that does so meets the checks exactly when its
parity bits are those of the encoding. -/
theorem encodingProducesTheUniqueCodeword : Obligations.EncodingProducesTheUniqueCodeword := by
  intro rate u hrate hul hu
  have hblock := isBlock_parityBlocks (baseOf rate) (midRow rate) (isBlock_of_mem_blocks (n := 12) hul hu)
  have hparl := length_flatten_of_isBlock hblock
  rw [length_parityBlocks hrate] at hparl
  have hparb : ∀ b ∈ (parityBlocks (baseOf rate) (midRow rate) (blocks u 12)).flatten, b ≤ 1 :=
    List.forall_mem_flatten.mpr fun p hp => (hblock p hp).2
  have hn : dlBits rate = 576 + 48 * (dlCols rate - 12) := by
    have := dlCols_eq hrate
    rw [dlBits]; omega
  rw [ldpcEncode_eq]
  refine ⟨by rw [List.length_append, hul, hparl, hn], List.forall_mem_append.mpr ⟨hu, hparb⟩, List.take_left' hul,
    (syndromeZero_append_iff hrate hul hu hparl hparb).mpr rfl, fun c' hc'l hc'b hc'u hc' => ?_⟩
  have hsplit : c' = u ++ c'.drop 576 := by rw [← hc'u, List.take_append_drop]
  rw [hsplit] at hc' ⊢
  rw [(syndromeZero_append_iff hrate hul hu (by rw [List.length_drop, hc'l, hn]; omega) fun b hb => hc'b b (List.mem_of_mem_drop hb)).mp hc']

end Sys2Proof.Machine
end

section
/-! The entry of a gate control list in force (R307). `entryAt` walks the entries with their cumulative INTERVAL sum, so one induction over
the list says what it finds; the prefix sums of a bank's entries then are the sums of its INTERVAL fields. -/

namespace Sys2Proof.Machine

open Sys2Proof

/-- The sum of the intervals of a list of gate entries. -/
def intervalSum (l : List (Nat × Nat)) : Nat := (l.map Prod.snd).sum

@[simp] theorem intervalSum_nil : intervalSum [] = 0 := rfl

@[simp] theorem intervalSum_cons (p : Nat × Nat) (l : List (Nat × Nat)) : intervalSum (p :: l) = p.2 + intervalSum l := by
  simp [intervalSum]

/-- An entry that others follow is in force below its end; past it the walk goes on with them. -/
theorem entryAt_cons_cons (cycle o k sum : Nat) (p q : Nat × Nat) (rest : List (Nat × Nat)) :
    entryAt cycle o k sum (p :: q :: rest) =
      if o < sum + p.2 then (k, p.1, min cycle (sum + p.2)) else entryAt cycle o (k + 1) (sum + p.2) (q :: rest) := rfl

/-- R307: from an offset that the intervals before do not exceed, the walk finds the first entry whose cumulative sum exceeds it, or
the last entry. -/
theorem entryAt_finds (cycle o : Nat) {l : List (Nat × Nat)} (hl : l ≠ []) :
    ∀ k sum : Nat, sum ≤ o → ∃ (j : Nat) (hj : j < l.length),
      (entryAt cycle o k sum l).1 = k + j ∧ (entryAt cycle o k sum l).2.1 = l[j].1 ∧
      sum + intervalSum (l.take j) ≤ o ∧ (o < sum + intervalSum (l.take (j + 1)) ∨ j + 1 = l.length) := by
  induction l with
  | nil => exact absurd rfl hl
  | cons p rest ih =>
    intro k sum hsum
    cases rest with
    | nil => exact ⟨0, Nat.zero_lt_one, rfl, rfl, hsum, .inr rfl⟩
    | cons q rest =>
      rw [entryAt_cons_cons]
      split
      case isTrue hlt => exact ⟨0, Nat.succ_pos _, rfl, rfl, hsum, .inl (by simpa using hlt)⟩
      case isFalse hge =>
        obtain ⟨j, hj, hnum, hgates, hbefore, hend⟩ := ih (List.cons_ne_nil q rest) (k + 1) (sum + p.2) (Nat.not_lt.mp hge)
        refine ⟨j + 1, Nat.succ_lt_succ hj, by rw [hnum]; omega, hgates, ?_, ?_⟩
        · rwa [List.take_succ_cons, intervalSum_cons, ← Nat.add_assoc]
        · rwa [List.take_succ_cons, intervalSum_cons, ← Nat.add_assoc, List.length_cons (a := p), Nat.add_right_cancel_iff]

@[simp] theorem length_glEntries (s : State) (b e : Nat) : (s.glEntries b e).length = s.rd (glRef b e 0) := by
  simp [State.glEntries]

/-- The gates of an entry are bits 39:32 of its object. -/
theorem glEntries_getElem_fst (s : State) (b e : Nat) {k : Nat} (hk : k < (s.glEntries b e).length) :
    (s.glEntries b e)[k].1 = fld (s.rd (glRef b e (4 + k))) 39 32 := by
  simp [State.glEntries]

/-- The cumulative INTERVAL sum of a bank's first `k` entries. -/
theorem intervalSum_take_glEntries (s : State) (b e : Nat) {k : Nat} (hk : k ≤ s.rd (glRef b e 0)) :
    intervalSum ((s.glEntries b e).take k) = ((List.range k).map fun j => fld (s.rd (glRef b e (4 + j))) 31 0 * uNs).sum := by
  rw [State.glEntries, ← List.map_take, List.take_range, Nat.min_eq_left hk, intervalSum, List.map_map]
  rfl

theorem glEntries_ne_nil {s : State} {b e : Nat} (hn : s.rd (glRef b e 0) ≠ 0) : s.glEntries b e ≠ [] := by
  rwa [← List.length_pos_iff, length_glEntries, Nat.pos_iff_ne_zero]

/-- R307: the place in the cycle is (x − GL_BASE) mod GL_CYCLE, taken non-negative. -/
theorem cast_glOffset {s : State} {b e : Nat} (hc : 0 < s.glCycle b e) (x : Nat) :
    (s.glOffset b e x : Int) = ((x : Int) - s.rdTime (glRef b e 2)) % (s.glCycle b e : Int) := by
  rw [State.glOffset, Nat.max_eq_right hc, Int.toNat_of_nonneg (Int.emod_nonneg _ (by omega))]

theorem glAt_of_count_zero {s : State} {b e : Nat} (hn : s.rd (glRef b e 0) = 0) (x : Nat) : s.glAt b e x = (0, 0xFF, x + uSec) := by
  rw [State.glAt, if_pos hn]

/-- What a bank with entries shows at an instant is what the walk finds at its place in the cycle. -/
theorem glAt_of_count_ne_zero {s : State} {b e : Nat} (hn : s.rd (glRef b e 0) ≠ 0) (x : Nat) :
    (s.glAt b e x).1 = (entryAt (s.glCycle b e) (s.glOffset b e x) 0 0 (s.glEntries b e)).1 ∧
    (s.glAt b e x).2.1 = (entryAt (s.glCycle b e) (s.glOffset b e x) 0 0 (s.glEntries b e)).2.1 := by
  simp only [State.glAt, if_neg hn, and_self]

/-- Settles O24: the walk over a bank's entries, read at the place of the instant in the cycle. -/
theorem gatesFollowTheEntryInForce : Obligations.GatesFollowTheEntryInForce := by
  intro s b e x n iv sum
  refine ⟨fun hn => by rw [glAt_of_count_zero hn], fun hn hc => ?_⟩
  have hn0 : s.rd (glRef b e 0) ≠ 0 := Nat.one_le_iff_ne_zero.mp hn
  obtain ⟨k, hk, hnum, hgates, hbefore, hend⟩ :=
    entryAt_finds (s.glCycle b e) (s.glOffset b e x) (glEntries_ne_nil hn0) 0 0 (Nat.zero_le _)
  obtain ⟨hshown, hopen⟩ := glAt_of_count_ne_zero hn0 x
  rw [length_glEntries] at hend
  have hkn : k < n := by rwa [length_glEntries] at hk
  rw [Nat.zero_add, intervalSum_take_glEntries s b e (Nat.le_of_lt hkn)] at hbefore
  rw [Nat.zero_add, intervalSum_take_glEntries s b e hkn] at hend
  exact ⟨k, s.glOffset b e x, hkn, cast_glOffset hc x, by rw [hshown, hnum, Nat.zero_add],
    by rw [hopen, hgates, glEntries_getElem_fst], hbefore, hend.imp_right (Nat.eq_sub_of_add_eq ·)⟩

end Sys2Proof.Machine
end

section
/-! Claims (R458). The eligible sources of a context are the source numbers, in ascending order, that pass its tests, so that a claim's
walk over them ends at the first one of highest PRIORITY; what a claim writes then is a frame with two bits in it. -/

namespace Sys2Proof.Machine

open Sys2Proof

/-! ## Bits of words -/

theorem bit?_eq_testBit (x i : Nat) : bit? x i = x.testBit i :=
  Nat.testBit_eq_decide_div_mod_eq.symm

theorem bit?_setBit (x i : Nat) : bit? (setBit x i) i = true := by
  unfold setBit
  split
  case isTrue h => exact h
  case isFalse h =>
    simp only [bit?, beq_iff_eq] at h ⊢
    rw [Nat.add_div_right _ (Nat.two_pow_pos i)]
    omega

theorem bit?_clrBit (x i : Nat) : bit? (clrBit x i) i = false := by
  unfold clrBit
  split
  case isTrue h =>
    simp only [bit?, beq_iff_eq, beq_eq_false_iff_ne] at h ⊢
    rw [show x - 2 ^ i = x - 2 ^ i * 1 by omega, Nat.sub_mul_div]
    omega
  case isFalse h => exact Bool.eq_false_iff.mpr h

/-- A word keeps each of its 64 bits of a number. -/
theorem bit?_toNat_ofNat (y : Nat) {i : Nat} (hi : i < 64) : bit? (BitVec.ofNat 64 y).toNat i = bit? y i := by
  rw [BitVec.toNat_ofNat, bit?_eq_testBit, bit?_eq_testBit, Nat.testBit_mod_two_pow, decide_eq_true hi, Bool.true_and]

/-- A number that an object holds, written back, is the object's word. -/
@[simp] theorem ofNat_rd (s : State) (r : Ref) : BitVec.ofNat 64 (s.rd r) = s.word r :=
  BitVec.eq_of_toNat_eq (by rw [BitVec.toNat_ofNat]; exact Nat.mod_eq_of_lt (s.word r).isLt)

/-- The word of an object in which one bit has been written, and of every other object. -/
theorem word_wrBit (r r' : Ref) (i : Nat) (v : Bool) (s : State) :
    ((wrBit r i v).run s).word r' =
      if r = r' then BitVec.ofNat 64 (if v then setBit (s.rd r) i else clrBit (s.rd r) i) else s.word r' :=
  word_apply_wr _ _ _ _

theorem rd_wrBit_of_ne {r r' : Ref} (h : r ≠ r') (i : Nat) (v : Bool) (s : State) : ((wrBit r i v).run s).rd r' = s.rd r' := by
  rw [State.rd, word_wrBit, if_neg h, State.rd]

/-! ## The eligible sources of a context -/

theorem onesOf_zero (n : Nat) : onesOf n 0 = [] := by
  simp [onesOf, bit?]

/-- Numbers counted in blocks of `k`. -/
theorem flatMap_range_blocks (k n : Nat) : ((List.range n).flatMap fun m => (List.range k).map (k * m + ·)) = List.range (k * n) := by
  induction n with
  | zero => rfl
  | succ n ih => rw [List.range_succ, List.flatMap_append, ih, List.flatMap_singleton, Nat.mul_succ, List.range_add]

/-- The bits of one pending word are the sources pending among its 64. -/
theorem onesOf_pending (s : State) (m : Nat) :
    (onesOf 64 (s.rd (R.IRQ_PENDING m))).map (64 * m + ·) = ((List.range 64).map (64 * m + ·)).filter s.srcPending := by
  rw [List.filter_map, onesOf]
  refine congrArg _ (List.filter_congr fun b hb => ?_)
  have hb : b < 64 := List.mem_range.mp hb
  rw [Function.comp, State.srcPending, show (64 * m + b) / 64 = m by omega, show (64 * m + b) % 64 = b by omega]

/-- The pending sources are listed in ascending order of ID. -/
theorem pendingSources_eq_filter (s : State) : s.pendingSources = (List.range 2048).filter s.srcPending := by
  have hword (m : Nat) : (if s.rd (R.IRQ_PENDING m) = 0 then [] else (onesOf 64 (s.rd (R.IRQ_PENDING m))).map fun b => 64 * m + b) =
      ((List.range 64).map (64 * m + ·)).filter s.srcPending := by
    rw [← onesOf_pending]
    split
    case isTrue h => rw [h, onesOf_zero, List.map_nil]
    case isFalse => rfl
  calc s.pendingSources
      = (List.range 32).flatMap fun m => ((List.range 64).map (64 * m + ·)).filter s.srcPending := congrArg (List.range 32).flatMap (funext hword)
    _ = ((List.range 32).flatMap fun m => (List.range 64).map (64 * m + ·)).filter s.srcPending := List.filter_flatMap.symm
    _ = (List.range 2048).filter s.srcPending := by rw [flatMap_range_blocks]

theorem mem_eligibleFor (s : State) (x q : Nat) : q ∈ s.eligibleFor x ↔ q < 2048 ∧ s.eligible q = true ∧ s.srcCtx q = x := by
  have hpend : s.eligible q = true → s.srcPending q = true := by
    simp only [State.eligible, Bool.and_eq_true]
    exact fun h => h.1.1.1
  simp only [State.eligibleFor, pendingSources_eq_filter, List.mem_filter, List.mem_range, Bool.and_eq_true, beq_iff_eq]
  exact ⟨fun ⟨⟨hq, _⟩, h⟩ => ⟨hq, h⟩, fun ⟨hq, h⟩ => ⟨⟨hq, hpend h.1⟩, h⟩⟩

theorem pairwise_lt_eligibleFor (s : State) (x : Nat) : (s.eligibleFor x).Pairwise (· < ·) := by
  rw [State.eligibleFor, pendingSources_eq_filter]
  exact (List.pairwise_lt_range.filter _).filter _

/-! ## The source that a claim takes -/

/-- A claim takes source `a` rather than source `q`: of higher PRIORITY, or of no higher ID among equals (R458). -/
def State.precedes (s : State) (a q : Nat) : Prop := s.srcPrio q < s.srcPrio a ∨ (s.srcPrio q = s.srcPrio a ∧ a ≤ q)

theorem precedes_refl (s : State) (a : Nat) : s.precedes a a := .inr ⟨rfl, Nat.le_refl a⟩

theorem precedes_trans {s : State} {a b c : Nat} (hab : s.precedes a b) (hbc : s.precedes b c) : s.precedes a c := by
  unfold State.precedes at *
  omega

/-- One source of a claim's walk over the eligible sources. -/
def State.better (s : State) (best : Option Nat) (q : Nat) : Option Nat :=
  match best with
  | none => some q
  | some b => if s.srcPrio b < s.srcPrio q then some q else some b

theorem claimSource_eq_foldl (s : State) (x : Nat) : s.claimSource x = (s.eligibleFor x).foldl s.better none := rfl

/-- The walk keeps an earlier source against a later one of no higher PRIORITY, so it ends at one that precedes all others. -/
theorem foldl_better (s : State) (l : List Nat) (b : Nat) (hl : (b :: l).Pairwise (· < ·)) :
    ∃ a ∈ b :: l, l.foldl s.better (some b) = some a ∧ ∀ q ∈ b :: l, s.precedes a q := by
  induction l generalizing b with
  | nil => exact ⟨b, List.mem_singleton_self b, rfl, fun q hq => List.mem_singleton.mp hq ▸ precedes_refl s b⟩
  | cons c l ih =>
    obtain ⟨hb, hcl⟩ := List.pairwise_cons.mp hl
    obtain ⟨hb_c, hb_l⟩ := List.forall_mem_cons.mp hb
    rw [List.foldl_cons, State.better]
    by_cases hprio : s.srcPrio b < s.srcPrio c
    · obtain ⟨a, ha, hfold, hall⟩ := ih c hcl
      have hac := hall c List.mem_cons_self
      exact ⟨a, List.mem_cons_of_mem b ha, by rw [if_pos hprio, hfold],
        List.forall_mem_cons.mpr ⟨precedes_trans hac (.inl hprio), hall⟩⟩
    · obtain ⟨a, ha, hfold, hall⟩ := ih b (List.pairwise_cons.mpr ⟨hb_l, (List.pairwise_cons.mp hcl).2⟩)
      obtain ⟨hab, hal⟩ := List.forall_mem_cons.mp hall
      have hbc : s.precedes b c := by
        unfold State.precedes
        omega
      exact ⟨a, List.mem_cons.mpr ((List.mem_cons.mp ha).imp_right (List.mem_cons_of_mem c)), by rw [if_neg hprio, hfold],
        List.forall_mem_cons.mpr ⟨hab, List.forall_mem_cons.mpr ⟨precedes_trans hab hbc, hal⟩⟩⟩

/-- R458: a claim takes the eligible source of its context that precedes all others, and none only when no source is eligible. -/
theorem claimSource_cases (s : State) (x : Nat) :
    (s.eligibleFor x = [] ∧ s.claimSource x = none) ∨
      ∃ a ∈ s.eligibleFor x, s.claimSource x = some a ∧ ∀ q ∈ s.eligibleFor x, s.precedes a q := by
  have hsorted := pairwise_lt_eligibleFor s x
  rw [claimSource_eq_foldl]
  cases hl : s.eligibleFor x with
  | nil => exact .inl ⟨rfl, rfl⟩
  | cons b l => exact .inr (foldl_better s l b (hl ▸ hsorted))

theorem claimSource_eq_some {s : State} {x src : Nat} (h : s.claimSource x = some src) :
    src ∈ s.eligibleFor x ∧ ∀ q ∈ s.eligibleFor x, s.precedes src q := by
  obtain ⟨-, hnone⟩ | ⟨a, ha, hsome, hall⟩ := claimSource_cases s x
  · exact absurd (hnone.symm.trans h) (Option.some_ne_none src).symm
  · obtain rfl := Option.some.inj (hsome.symm.trans h)
    exact ⟨ha, hall⟩

theorem eligibleFor_of_claimSource_none {s : State} {x : Nat} (h : s.claimSource x = none) : s.eligibleFor x = [] := by
  obtain ⟨hnil, -⟩ | ⟨a, -, hsome, -⟩ := claimSource_cases s x
  · exact hnil
  · exact absurd (hsome.symm.trans h) (Option.some_ne_none a)

theorem claimValue_of_some {s : State} {x src : Nat} (h : s.claimSource x = some src) : s.claimValue x = src := by
  rw [State.claimValue, h]

theorem claimValue_of_none {s : State} {x : Nat} (h : s.claimSource x = none) :
    s.claimValue x = if s.eng.irq.asserted.contains x then 2047 else 0 := by
  rw [State.claimValue, h]

/-! ## What a claim leaves -/

/-- The effect belongs to a context's request signal: of the objects it writes that signal alone, and it changes no claim. -/
def Eff.ofRequest (x : Nat) (e : Eff) : Prop :=
  e.within (· = R.CX_REQUEST x) ∧ ∀ s, (e.apply s).eng.irq.claimant = s.eng.irq.claimant

theorem followRequest_ofRequest (x : Nat) : (followRequest x).All (Eff.ofRequest x) := by
  have hmsix (v : Nat) : (sendMsix v).All (Eff.ofRequest x) :=
    all_read fun _ => all_ite ⟨trivial, fun _ => rfl⟩ ⟨trivial, fun _ => rfl⟩
  have hrises : (requestRises x).All (Eff.ofRequest x) :=
    all_read fun _ => all_ite trivial ⟨⟨rfl, fun _ => rfl⟩, ⟨trivial, fun _ => rfl⟩, all_onlyIf (hmsix _), trivial⟩
  have hfalls : (wr (R.CX_REQUEST x) 0).All (Eff.ofRequest x) := ⟨rfl, fun _ => rfl⟩
  exact all_read fun _ => all_ite hfalls hrises

theorem word_followRequest {x : Nat} {r : Ref} (hr : r ≠ R.CX_REQUEST x) (s : State) : ((followRequest x).run s).word r = s.word r :=
  run_word (all_mono (followRequest_ofRequest x) fun _ he => he.1) hr s

theorem claimant_followRequest (x : Nat) (s : State) : ((followRequest x).run s).eng.irq.claimant = s.eng.irq.claimant :=
  run_keeps (fun s => s.eng.irq.claimant) (all_mono (followRequest_ofRequest x) fun _ he => he.2) s

@[simp] theorem word_setIrq (f : IrqSt → IrqSt) (r : Ref) (s : State) : ((setIrq f).run s).word r = s.word r := rfl
@[simp] theorem word_claimed (x : Nat) (r : Ref) (s : State) : ((claimed x).run s).word r = s.word r := rfl
@[simp] theorem claimant_claimed (x : Nat) (s : State) : ((claimed x).run s).eng.irq.claimant = s.eng.irq.claimant := rfl

/-- A source changes from PENDING to ACTIVE, for the context that claims it. -/
def activateSource (src x : Nat) : Act :=
  acts [wrBit (R.IRQ_PENDING (src / 64)) (src % 64) false, wrBit (R.IRQ_ACTIVE (src / 64)) (src % 64) true,
    setIrq fun q => { q with claimant := q.claimant.set src x }]

theorem run_claim_of_some {s : State} {x src : Nat} (h : s.claimSource x = some src) :
    (claim x).run s = (claimed x).run ((followRequest x).run ((activateSource src x).run s)) := by
  rw [claim, run_read, h]
  rfl

theorem run_claim_of_none {s : State} {x : Nat} (h : s.claimSource x = none) :
    (claim x).run s = (claimed x).run ((onlyIf (s.eng.irq.asserted.contains x) (inc (R.CX_SPURIOUS x))).run s) := by
  rw [claim, run_read, h]
  rfl

/-- What a claim of a source leaves in every object but the request of its context. -/
theorem word_claim_of_some {s : State} {x src : Nat} (h : s.claimSource x = some src) {r : Ref} (hr : r ≠ R.CX_REQUEST x) :
    ((claim x).run s).word r = ((activateSource src x).run s).word r := by
  rw [run_claim_of_some h, word_claimed, word_followRequest hr]

theorem claimant_claim_of_some {s : State} {x src : Nat} (h : s.claimSource x = some src) :
    aget ((claim x).run s).eng.irq.claimant src = some x := by
  rw [run_claim_of_some h, claimant_claimed, claimant_followRequest]
  exact (aget_aput _ _ _ _ _).trans (if_pos rfl)

theorem word_activateSource (src x : Nat) (r : Ref) (s : State) :
    ((activateSource src x).run s).word r =
      if R.IRQ_ACTIVE (src / 64) = r then BitVec.ofNat 64 (setBit (s.rd (R.IRQ_ACTIVE (src / 64))) (src % 64))
      else if R.IRQ_PENDING (src / 64) = r then BitVec.ofNat 64 (clrBit (s.rd (R.IRQ_PENDING (src / 64))) (src % 64))
      else s.word r := by
  have hother : R.IRQ_PENDING (src / 64) ≠ R.IRQ_ACTIVE (src / 64) := by simp
  simp only [activateSource, run_acts_cons, run_acts_nil, word_setIrq, word_wrBit, rd_wrBit_of_ne hother, Bool.false_eq_true, if_false,
    if_true]

/-- A claimed source is ACTIVE. -/
theorem srcActive_claim {s : State} {x src : Nat} (h : s.claimSource x = some src) : ((claim x).run s).srcActive src = true := by
  rw [State.srcActive, State.rd, word_claim_of_some h (by simp), word_activateSource, if_pos rfl,
    bit?_toNat_ofNat _ (Nat.mod_lt _ (by decide)), bit?_setBit]

/-- A claimed source is no longer pending. -/
theorem srcPending_claim {s : State} {x src : Nat} (h : s.claimSource x = some src) : ((claim x).run s).srcPending src = false := by
  rw [State.srcPending, State.rd, word_claim_of_some h (by simp), word_activateSource, if_neg (by simp), if_pos rfl,
    bit?_toNat_ofNat _ (Nat.mod_lt _ (by decide)), bit?_clrBit]

/-- A claim of no source writes CX_SPURIOUS alone, and only while the request has been asserted since the last claim. -/
theorem word_claim_of_none {s : State} {x : Nat} (h : s.claimSource x = none) (r : Ref) :
    ((claim x).run s).word r =
      if R.CX_SPURIOUS x = r ∧ s.eng.irq.asserted.contains x then s.word (R.CX_SPURIOUS x) + 1 else s.word r := by
  rw [run_claim_of_none h, word_claimed]
  cases s.eng.irq.asserted.contains x with
  | false => simp
  | true =>
    rw [run_onlyIf_true, run_inc, word_apply_wr, BitVec.ofNat_add, ofNat_rd]
    simp

/-- Settles O12: the eligible sources stand in ascending order, so the walk keeps the lowest ID among equal priorities. -/
theorem claimsTakeTheHighestPriorityThenTheLowestId : Obligations.ClaimsTakeTheHighestPriorityThenTheLowestId := by
  intro s x s'
  refine ⟨⟨rfl, fun _ => rfl⟩, fun src h => ?_, fun h => ?_⟩
  · obtain ⟨hmem, hbest⟩ := claimSource_eq_some h
    obtain ⟨hlt, helig, hctx⟩ := (mem_eligibleFor s x src).mp hmem
    refine ⟨hlt, helig, hctx, claimValue_of_some h, fun q hq hqe hqx => hbest q ((mem_eligibleFor s x q).mpr ⟨hq, hqe, hqx⟩),
      srcActive_claim h, srcPending_claim h, claimant_claim_of_some h, fun r hp ha hr => ?_⟩
    rw [word_claim_of_some h hr, word_activateSource, if_neg ha.symm, if_neg hp.symm]
  · refine ⟨fun q hq hqe hqx => ?_, claimValue_of_none h, ?_, fun r hr => ?_⟩
    · have hmem := (mem_eligibleFor s x q).mpr ⟨hq, hqe, hqx⟩
      rw [eligibleFor_of_claimSource_none h] at hmem
      exact List.not_mem_nil hmem
    · simp [s', word_claim_of_none h]
    · rw [word_claim_of_none h, if_neg fun hs => hr hs.1.symm]

end Sys2Proof.Machine
end

section
/-! Restarts and stops of the general timers (R468). A restart writes two words and the timer's interval; the prescaler phase is a part of
the timer's own state, so that what becomes of it leaves every word. -/

namespace Sys2Proof.Machine

open Sys2Proof

/-! ## The own state of a timer -/

@[simp] theorem word_setTimer (k : Nat) (f : TimerSt → TimerSt) (r : Ref) (s : State) : ((setTimer k f).run s).word r = s.word r := rfl
@[simp] theorem out_setTimer (k : Nat) (f : TimerSt → TimerSt) (s : State) : ((setTimer k f).run s).out = s.out := rfl

@[simp] theorem timer_setTimer (k : Nat) (f : TimerSt → TimerSt) (s : State) : ((setTimer k f).run s).timer k = f (s.timer k) := by
  show ((aget (aput natLt _ k _) k).getD timerRest) = _
  rw [aget_aput, if_pos rfl]
  rfl

/-- A word written leaves the timers' own state. -/
@[simp] theorem timer_wr (r : Ref) (v : Word) (k : Nat) (s : State) : ((Eff.wr r v).apply s).timer k = s.timer k := rfl

/-! ## A restart -/

theorem word_timerRestart (k : Nat) (r : Ref) (s : State) :
    ((timerRestart k).run s).word r =
      if R.TM_CMP k = r then s.word (R.TM_CMP_PRE k) else if R.TM_COUNT k = r then s.word (R.TM_RELOAD k) else s.word r := by
  simp only [timerRestart, run_read, run_acts_cons, run_acts_nil, run_wr, word_setTimer, word_apply_wr, ofNat_rd]

/-- A restart leaves the prescaler phase as it is. DEDUCED: log 109. -/
theorem timer_timerRestart (k : Nat) (s : State) :
    ((timerRestart k).run s).timer k = { s.timer k with interval := s.rdi (R.TM_INTERVAL k) } := by
  simp only [timerRestart, run_read, run_acts_cons, run_acts_nil, run_wr, timer_setTimer, timer_wr]

theorem out_timerRestart (k : Nat) (s : State) : ((timerRestart k).run s).out = s.out := rfl

/-- R468: count and active compare come from their buffers, and no other object changes. -/
theorem timerRestart_loads (k : Nat) (s : State) :
    ((timerRestart k).run s).word (R.TM_COUNT k) = s.word (R.TM_RELOAD k) ∧
    ((timerRestart k).run s).word (R.TM_CMP k) = s.word (R.TM_CMP_PRE k) ∧
    ∀ r : Ref, r ≠ R.TM_COUNT k → r ≠ R.TM_CMP k → ((timerRestart k).run s).word r = s.word r := by
  refine ⟨?_, ?_, fun r hcount hcmp => ?_⟩
  · rw [word_timerRestart, if_neg (by simp), if_pos rfl]
  · rw [word_timerRestart, if_pos rfl]
  · rw [word_timerRestart, if_neg hcmp.symm, if_neg hcount.symm]

/-! ## The prescaler phase -/

/-- What a change of the prescaler phase can do: nothing, or a change of the timer's own state that leaves its interval. -/
theorem run_timerPhase (k : Nat) (was : Bool) (s : State) :
    (timerPhase k was).run s = s ∨
      ∃ f : TimerSt → TimerSt, (timerPhase k was).run s = (setTimer k f).run s ∧ ∀ y, (f y).interval = y.interval := by
  rw [timerPhase, run_read]
  split
  · exact .inr ⟨_, rfl, fun _ => rfl⟩
  · split
    · exact .inr ⟨_, rfl, fun _ => rfl⟩
    · exact .inl rfl

theorem word_timerPhase (k : Nat) (was : Bool) (r : Ref) (s : State) : ((timerPhase k was).run s).word r = s.word r := by
  obtain h | ⟨f, h, -⟩ := run_timerPhase k was s <;> rw [h]
  rfl

theorem out_timerPhase (k : Nat) (was : Bool) (s : State) : ((timerPhase k was).run s).out = s.out := by
  obtain h | ⟨f, h, -⟩ := run_timerPhase k was s <;> rw [h]
  rfl

theorem interval_timerPhase (k : Nat) (was : Bool) (s : State) : (((timerPhase k was).run s).timer k).interval = (s.timer k).interval := by
  obtain h | ⟨f, h, hf⟩ := run_timerPhase k was s
  · rw [h]
  · rw [h, timer_setTimer, hf]

/-- A timer that no longer ticks holds the rest of its tick. -/
theorem run_timerPhase_stop {k : Nat} {s : State} (h : s.ticking k = false) :
    (timerPhase k true).run s = (setTimer k fun y => { y with left := some (y.due - s.now) }).run s := by
  simp [timerPhase, h]

theorem ticking_of_run_clear {k : Nat} {s : State} (h : bit? (s.rd (R.TM_CTRL k)) 0 = false) : s.ticking k = false := by
  rw [State.ticking, h, Bool.false_and]

/-! ## A written RUN bit -/

theorem run_timerCtrl_start {s₀ s : State} {k : Nat} (h₀ : bit? (s₀.rd (R.TM_CTRL k)) 0 = false) (h : bit? (s.rd (R.TM_CTRL k)) 0 = true) :
    (timerCtrl s₀ k).run s = (timerPhase k (s₀.ticking k)).run ((timerRestart k).run s) := by
  simp [timerCtrl, h₀, h]

theorem run_timerCtrl_stop {s₀ s : State} {k : Nat} (h₀ : s₀.ticking k = true) (h : bit? (s.rd (R.TM_CTRL k)) 0 = false) :
    (timerCtrl s₀ k).run s = (setTimer k fun y => { y with left := some (y.due - s.now) }).run s := by
  rw [← run_timerPhase_stop (ticking_of_run_clear h)]
  simp [timerCtrl, h₀, h]

/-- Settles O14: a started timer restarts and then goes on with its phase, and a stopped one holds its phase alone. -/
theorem timerRestartsLoadTheBuffers : Obligations.TimerRestartsLoadTheBuffers := by
  intro s s₀ w h k
  obtain ⟨hcount, hcmp, hkept⟩ := timerRestart_loads k s
  refine ⟨rfl, ⟨hcount, hcmp, ?_, ?_, ?_, out_timerRestart k s, hkept⟩, fun hold hnew => ?_, fun htick hnew => ?_⟩
  · rw [timer_timerRestart]
  · rw [timer_timerRestart]
  · rw [timer_timerRestart]
  · simp only [run_timerCtrl_start hold hnew, word_timerPhase, interval_timerPhase, out_timerPhase, timer_timerRestart, out_timerRestart, true_and]
    exact ⟨hcount, hcmp, hkept⟩
  · simp only [run_timerCtrl_stop htick hnew, timer_setTimer, word_setTimer, out_setTimer, implies_true, and_self]

end Sys2Proof.Machine
end

section
/-! The legacy reset object (R480). LEGACY_RESET is a command member of one word, so a write of it goes through the checks in the order of
R555: first its class (LEGACY_EN), then the privilege, last the value. -/

namespace Sys2Proof.Machine

open Sys2Proof

/-! ## The first failure of a list of checks -/

@[simp] theorem firstOf_nil : firstOf [] = 0 := rfl

theorem firstOf_cons (st : Nat) (l : List Nat) : firstOf (st :: l) = if st = 0 then firstOf l else st := by
  by_cases h : st = 0 <;> simp [firstOf, h]

@[simp] theorem firstOf_singleton (st : Nat) : firstOf [st] = st := by
  by_cases h : st = 0 <;> simp [firstOf_cons, h]

/-- Checks that pass do not matter. -/
theorem firstOf_passed (a b c d : Nat) : firstOf [a, b, c, 0, d, 0] = firstOf [a, b, c, d] := by
  simp [firstOf_cons]

/-! ## A write of one word to a command member -/

/-- The value that one written word names. -/
theorem valuesOf_one {f : Family} {m : Nat} {row : Row} (v : Word) (hrow : rowOf? f m = some row) (hwidth : row.width = 1) :
    valuesOf f [v] 1 m = [(row, m, [v])] := by
  simp [valuesOf, hrow, hwidth]

/-- The value of a command member is judged by its type and range, and by what the command takes. -/
theorem valueStatus_command (s : State) (f : Family) (i m : Nat) {row : Row} (v : Word) (hcls : row.cls = .cmd) :
    s.valueStatus false 0 ⟨f, [i], m⟩ [(row, m, [v])] =
      failIf (!(row.holds 0 [v] && s.cmdTakes ⟨f.idx, i, m⟩ v.toNat)) stRange := by
  cases h : row.holds 0 [v] <;> simp [State.valueStatus, h, hcls, firstOf_cons, failIf]

/-- The checks of a direct write to a command member, in the order of R555: class, rights, life cycle and value. -/
theorem checkWriteAs_command {s : State} {w : Who} {r : Ref} {v : Word} {f : Family} {row : Row} (priv : Nat)
    (haddr : s.address w ⟨r, 1, 0, [v]⟩ true = .inr ⟨f, [r.inst], r.mem⟩) (hidx : f.idx = r.idx)
    (hrow : rowOf? f r.mem = some row) (hwidth : row.width = 1) (hcls : row.cls = .cmd) :
    s.checkWriteAs w priv false ⟨r, 1, 0, [v]⟩ =
      let st := firstOf [s.writeClass w false 0 row r v.toNat, s.writeRights priv row r v.toNat, s.writeLife priv r,
        failIf (!(row.holds 0 [v] && s.cmdTakes r v.toNat)) stRange]
      if st = 0 then .inr (⟨f, [r.inst], r.mem⟩, [(row, r.mem, [v])]) else .inl st := by
  have hdirect : failIf (row.cls == .txn) stNeedTxn = 0 := by rw [hcls]; rfl
  have hgroup : failIf false stEmptyGroup = 0 := rfl
  simp [State.checkWriteAs, haddr, valuesOf_one v hrow hwidth, valueStatus_command s f r.inst r.mem v hcls, hidx, hdirect, hgroup,
    firstOf_passed]

/-! ## The object LEGACY_RESET -/

/-- The row of LEGACY_RESET. -/
def legacyResetRow : Row := ⟨0, 1, 1, .u8, .cmd, 2, 0, 255, 0, false⟩

/-- The family of the legacy reset object: LEGACY_RESET and LEGACY_EN. -/
def legacyFamily : Family := ⟨0x02F0, 0, 0, .plain, false, [legacyResetRow, ⟨1, 1, 1, .bool, .rw, 2, 0, 1, 1, false⟩]⟩

theorem family?_legacyReset : family? 0x02F0 = some legacyFamily := by decide +kernel

theorem rowOf?_legacyReset : rowOf? legacyFamily 0 = some legacyResetRow := rfl

theorem legacyIndex_legacyReset : legacyIndex 0x02F0 = true := rfl

/-- Every accessor reaches the object, 2.x sessions too. -/
theorem address_legacyReset (s : State) (w : Who) (v : Word) :
    s.address w ⟨R.LEGACY_RESET, 1, 0, [v]⟩ true = .inr ⟨legacyFamily, [0], 0⟩ := by
  have hwhole : ∀ row ∈ legacyFamily.rows, partial? row 0 0 = false := by decide
  have hinst : s.instances w legacyFamily 0 true false = some [0] := by simp [State.instances, State.groupOf, legacyFamily]
  simpa [State.address, legacyIndex_legacyReset, family?_legacyReset, hinst, rowOf?_legacyReset, Item.mems] using hwhole

/-- Outside the limits of boot and update, the class of a write fails only while LEGACY_EN is 0. -/
theorem writeClass_legacyReset {s : State} {w : Who} (v : Nat) (h : s.hostLimited w R.LEGACY_RESET = false) :
    s.writeClass w false 0 legacyResetRow R.LEGACY_RESET v = if s.rd R.LEGACY_ON = 0 then stAccess else 0 := by
  have hwritable : (legacyResetRow.cls == .ro || legacyResetRow.cls == .rc) = false := rfl
  have hopen : legacyResetRow.cls ≠ .txn := by decide
  simp [State.writeClass, hwritable, hopen, h, State.notItsMaster, State.writeDenied, failIf]

theorem writeRights_legacyReset (s : State) (priv v : Nat) :
    s.writeRights priv legacyResetRow R.LEGACY_RESET v = if priv < 2 then stPrivilege else 0 := by
  simp [State.writeRights, State.writePriv, State.keyDenied, legacyResetRow, failIf, firstOf_cons]

theorem writeLife_legacyReset (s : State) (priv : Nat) : s.writeLife priv R.LEGACY_RESET = 0 := by
  simp [State.writeLife, State.closedNow, State.keyDenied, failIf]

theorem takes_legacyReset (s : State) (v : Word) :
    (legacyResetRow.holds 0 [v] && s.cmdTakes R.LEGACY_RESET v.toNat) = (v.toNat == 0x5A) := by
  by_cases h : v.toNat = 0x5A <;> simp [legacyResetRow, Row.holds, State.cmdTakes, h]

/-- What a write of LEGACY_RESET is answered. -/
theorem checkWrite_legacyReset {s : State} {w : Who} (v : Word) (h : s.hostLimited w R.LEGACY_RESET = false) :
    s.checkWrite w false ⟨R.LEGACY_RESET, 1, 0, [v]⟩ =
      if s.rd R.LEGACY_ON = 0 then .inl stAccess
      else if s.whoPriv w < 2 then .inl stPrivilege
      else if v.toNat ≠ 0x5A then .inl stRange
      else .inr (⟨legacyFamily, [0], 0⟩, [(legacyResetRow, 0, [v])]) := by
  rw [State.checkWrite, checkWriteAs_command _ (address_legacyReset s w v) rfl rowOf?_legacyReset rfl rfl, writeClass_legacyReset _ h,
    writeRights_legacyReset, writeLife_legacyReset, takes_legacyReset]
  by_cases hoff : s.rd R.LEGACY_ON = 0
  · simp [hoff, firstOf_cons]
  by_cases hpriv : s.whoPriv w < 2
  · simp [hoff, hpriv, firstOf_cons]
  by_cases hv : v.toNat = 0x5A <;> simp [hoff, hpriv, hv, failIf, firstOf_cons]

theorem run_command_legacyReset (w : Who) (h : Option Nat) (v : Nat) (s : State) :
    (command w h R.LEGACY_RESET v).run s = (askReset ⟨7, 2, 0, some 0, false⟩).run s := rfl

/-- Settles O31: the checks of a write fail at its class while LEGACY_EN is 0, and else, with the privilege, only at its value. -/
theorem legacyResetTakesOneValue : Obligations.LegacyResetTakesOneValue := by
  intro s w h v hlimits write
  have hwrite : write = _ := checkWrite_legacyReset v hlimits
  refine ⟨legacyIndex_legacyReset, fun hoff => ?_, fun hon hpriv => ?_, run_command_legacyReset w h 0x5A s⟩
  · rw [hwrite, if_pos hoff]
  · rw [hwrite, if_neg hon, if_neg (Nat.not_lt.mpr hpriv)]
    exact ⟨fun hv => if_pos hv, fun hv => ⟨_, _, if_neg fun hne => hne hv⟩⟩

end Sys2Proof.Machine
end

section
/-! Steps of the machine. Every command is one action between the parts that all commands share, under the guard of its operands; what a
step keeps is then what every action keeps. -/

namespace Sys2Proof.Machine

open Sys2Proof

/-! ## What a command can do -/

/-- Every command is the `work` of its own action at its instant, under the guard of its operands. -/
theorem exec_eq_doneIf (c : Instr) : ∃ (t : Nat) (a : Act), ∀ s, exec c s = doneIf (wellFormed c) t (work a) s := by
  cases c <;> exact ⟨_, _, fun _ => rfl⟩

/-- A command that answers a next state has run an action from its instant. -/
theorem exec_next {c : Instr} {s s' : State} (h : exec c s = .next s') : ∃ (t : Nat) (a : Act), s' = a.run (s.tick t) := by
  obtain ⟨t, a, ha⟩ := exec_eq_doneIf c
  rw [ha, doneIf] at h
  split at h
  · cases h; exact ⟨t, work a, rfl⟩
  · cases h

/-- A step with a next state either idles at an empty queue, or runs an action on the state with the queue's rest. -/
theorem step_next {s s' : State} (h : step s = .next s') :
    (s.pending = [] ∧ s' = s) ∨
      ∃ (c : Instr) (rest : List Instr) (t : Nat) (a : Act), s.pending = c :: rest ∧
        s' = a.run (State.tick { s with pending := rest } t) := by
  unfold step at h
  split at h
  next hq => cases h; exact .inl ⟨hq, rfl⟩
  next c rest hq =>
    obtain ⟨t, a, ha⟩ := exec_next h
    exact .inr ⟨c, rest, t, a, hq, ha⟩

/-- Every action keeps a sound state sound. -/
theorem run_wf (a : Act) (s : State) (h : s.wf = true) : (a.run s).wf = true := by
  induction a generalizing s with
  | skip => exact h
  | eff e => exact apply_wf e s h
  | seq a b iha ihb => exact ihb _ (iha s h)
  | read f ih => exact ih s s h

/-- Settles O6: the store of a state is written by primitive effects alone, and each keeps it canonical. -/
theorem stepsKeepTheStoreCanonical : Obligations.StepsKeepTheStoreCanonical := by
  intro s s' hwf hstep
  obtain ⟨-, rfl⟩ | ⟨c, rest, t, a, -, rfl⟩ := step_next hstep
  · exact hwf
  · exact run_wf a _ hwf

/-- Settles O4: the guard of a command is that its operands are well formed. -/
theorem commandsStopOnlyAtMissingInstances : Obligations.CommandsStopOnlyAtMissingInstances := by
  intro c s
  obtain ⟨t, a, ha⟩ := exec_eq_doneIf c
  cases hc : wellFormed c
  · exact .inr ⟨rfl, by rw [ha, hc]; rfl⟩
  · exact .inl ⟨rfl, _, by rw [ha, hc]; rfl⟩

/-- Settles O5: an action leaves the queue as it is, and time passes only forward in it. -/
theorem stepsTakeOneCommandAndTimeGoesOn : Obligations.StepsTakeOneCommandAndTimeGoesOn := by
  intro s s' hstep
  obtain ⟨hq, rfl⟩ | ⟨c, rest, t, a, hq, rfl⟩ := step_next hstep
  · exact ⟨by rw [hq]; rfl, Nat.le_refl _⟩
  · exact ⟨by rw [run_pending, tick_pending, hq]; rfl, Nat.le_trans (Nat.le_max_left s.now t) (run_now_le a (State.tick { s with pending := rest } t))⟩

/-- Settles O1. -/
theorem stepRunsTheFrontCommand : Obligations.StepRunsTheFrontCommand := by
  intro s c rest hq
  rw [step, hq]

/-- Settles O2. -/
theorem emptyQueueIdles : Obligations.EmptyQueueIdles := by
  intro s hq
  rw [step, hq]

/-! ## The state after reset -/

/-- After reset no object is listed, so each reads as its default. -/
theorem word_reset (r : Ref) : State.reset.word r = BitVec.ofNat 64 (dflt r) := rfl

theorem rd_reset {r : Ref} (n : Nat) (h : dflt r = n) (hn : n < 2 ^ 64) : State.reset.rd r = n := by
  rw [State.rd, word_reset, h, BitVec.toNat_ofNat, Nat.mod_eq_of_lt hn]

/-- The defaults of the timers' and the arbiters' rows do not depend on the instance. -/
theorem dflt_TM_PRESC (k : Nat) : dflt (R.TM_PRESC k) = 1 :=
  (rfl : dflt (R.TM_PRESC k) = dflt (R.TM_PRESC 0)).trans (by decide +kernel : dflt (R.TM_PRESC 0) = 1)

theorem dflt_ARB_N (k : Nat) : dflt (R.ARB_N k) = 16 :=
  (rfl : dflt (R.ARB_N k) = dflt (R.ARB_N 0)).trans (by decide +kernel : dflt (R.ARB_N 0) = 16)

/-- Settles O3: the store is empty after reset, and the defaults that are named stand in the rows of the dictionary. -/
theorem resetLeavesDefaults : Obligations.ResetLeavesDefaults :=
  ⟨rfl, rfl, word_reset, rd_reset 10000 (by decide +kernel) (by decide), rd_reset 8 (by decide +kernel) (by decide),
    fun k => ⟨rd_reset 1 (dflt_TM_PRESC k) (by decide), rd_reset 16 (dflt_ARB_N k) (by decide)⟩⟩

end Sys2Proof.Machine
end

section
/-! Fabric packets as words (R416). The header word and the trailer are sums of shifted fields, so each field is read back as its digit. -/

namespace Sys2Proof.Machine

open Sys2Proof

/-! ## The CRC -/

theorem crc32Octet_lt {c b : Nat} (hc : c < 2 ^ 32) (hb : b < 256) : crc32Octet c b < 2 ^ 32 := by
  have hstep (l : List Nat) : ∀ r < 2 ^ 32,
      l.foldl (fun r _ => if r % 2 = 1 then bxor (r / 2) 0xEDB88320 else r / 2) r < 2 ^ 32 := by
    induction l with
    | nil => exact fun r hr => hr
    | cons x l ih =>
      intro r hr
      refine ih _ ?_
      dsimp only
      split
      · exact Nat.xor_lt_two_pow (by omega) (by decide)
      · omega
  exact hstep _ _ (Nat.xor_lt_two_pow hc (by omega))

/-- The CRC of octets is a 32-bit value. -/
theorem crc32_lt (l : List Nat) (h : ∀ b ∈ l, b < 256) : crc32 l < 2 ^ 32 := by
  have hfold : ∀ c < 2 ^ 32, l.foldl crc32Octet c < 2 ^ 32 := by
    induction l with
    | nil => exact fun c hc => hc
    | cons b l ih =>
      obtain ⟨hb, hl⟩ := List.forall_mem_cons.mp h
      exact fun c hc => ih hl _ (crc32Octet_lt hc hb)
  exact Nat.xor_lt_two_pow (hfold _ (by decide)) (by decide)

theorem natOctets_lt (ws : List Nat) : ∀ b ∈ natOctets ws, b < 256 := by
  intro b hb
  obtain ⟨w, -, hw⟩ := List.mem_flatMap.mp hb
  obtain ⟨k, -, rfl⟩ := List.mem_map.mp hw
  exact Nat.mod_lt _ (by decide)

/-! ## The header and the trailer -/

/-- The fields of a header word whose values are in range. -/
theorem fld_fabWord0 (p : FabPkt) (htype : p.type < 256) (hdst : p.dst < 8) (hsrc : p.src < 8) (htag : p.tag < 2 ^ 32)
    (hlen : p.payload.length < 256) :
    fld (fabWord0 p) 63 56 = p.type ∧ fld (fabWord0 p) 55 53 = p.dst ∧ fld (fabWord0 p) 52 50 = p.src ∧
      bit? (fabWord0 p) 49 = p.transit ∧ fld (fabWord0 p) 47 40 = p.payload.length ∧ fld (fabWord0 p) 31 0 = p.tag := by
  have ht : b2n p.transit ≤ 1 := by cases p.transit <;> decide
  have hbit : bit? (fabWord0 p) 49 = (b2n p.transit == 1) := by
    rw [bit?, fabWord0, show (_ : Nat) / 2 ^ 49 % 2 = b2n p.transit by omega]
  refine ⟨?_, ?_, ?_, hbit.trans (by cases p.transit <;> rfl), ?_, ?_⟩ <;>
  · simp only [fld, fabWord0, Nat.reduceSub, Nat.reduceAdd]
    omega

/-- The fields of a trailer whose values are in range. -/
theorem fld_trailer {ack lseq crc : Nat} (hack : ack < 4096) (hlseq : lseq < 4096) (hcrc : crc < 2 ^ 32) :
    fld (ack * 2 ^ 44 + lseq * 2 ^ 32 + crc) 55 44 = ack ∧ fld (ack * 2 ^ 44 + lseq * 2 ^ 32 + crc) 43 32 = lseq ∧
      fld (ack * 2 ^ 44 + lseq * 2 ^ 32 + crc) 31 0 = crc := by
  simp only [fld, Nat.reduceSub, Nat.reduceAdd]
  omega

/-- Settles O7: LEN finds the trailer behind the payload, and each field is a digit of its word. -/
theorem fabricPacketsReadBack : Obligations.FabricPacketsReadBack := by
  intro p ack lseq htype hdst hsrc htag hlen hack hlseq
  obtain ⟨ftype, fdst, fsrc, ftransit, flen, ftag⟩ := fld_fabWord0 p htype hdst hsrc htag hlen
  obtain ⟨fack, flseq, fcrc⟩ := fld_trailer hack hlseq (crc32_lt _ (natOctets_lt (fabWord0 p :: p.arg :: p.payload)))
  simp [fabWords, fabParse, ftype, fdst, fsrc, ftransit, flen, ftag, fack, flseq, fcrc, -Nat.reducePow]

end Sys2Proof.Machine
end

section
/-! The Deep Link header code (R172, R173). The remainder modulo g(x) is linear, so the remainder of a word with errors is the xor of the
remainders of its errors, its syndrome. The error patterns of at most three bits have different syndromes, which one run over all 4,992
of them shows; and a fourth error leaves a wrong parity or a syndrome of none of them. -/

namespace Sys2Proof.Machine

open Sys2Proof

/-! ## The remainder is linear -/

/-- One step of the division by g(x). -/
def bchStep (r k : Nat) : Nat := if bit? r (30 - k) then bxor r (0x8FAF * 2 ^ (15 - k)) else r

theorem bchRem_eq_foldl (c : Nat) : bchRem c = (List.range 16).foldl bchStep c := rfl

theorem bchStep_xor (a b k : Nat) : bchStep (a ^^^ b) k = bchStep a k ^^^ bchStep b k := by
  have hg (g : Nat) : (a ^^^ g) ^^^ (b ^^^ g) = a ^^^ b := by
    rw [Nat.xor_comm b g, Nat.xor_assoc, ← Nat.xor_assoc g g b, Nat.xor_self, Nat.zero_xor]
  simp only [bchStep, bit?_eq_testBit, Nat.testBit_xor, bxor]
  cases a.testBit (30 - k) <;> cases b.testBit (30 - k)
  · rfl
  · exact Nat.xor_assoc a b _
  · exact (Nat.xor_assoc a b _).trans ((congrArg (a ^^^ ·) (Nat.xor_comm b _)).trans (Nat.xor_assoc a _ b).symm)
  · exact (hg _).symm

theorem bchRem_xor (a b : Nat) : bchRem (a ^^^ b) = bchRem a ^^^ bchRem b := by
  simp only [bchRem_eq_foldl]
  induction List.range 16 generalizing a b with
  | nil => rfl
  | cons k l ih => rw [List.foldl_cons, bchStep_xor, ih, List.foldl_cons, List.foldl_cons]

/-- Two numbers of `n + 1` bits with the same top bit differ by a number of `n` bits. -/
theorem xor_lt_of_testBit {a b n : Nat} (ha : a < 2 ^ (n + 1)) (hb : b < 2 ^ (n + 1)) (h : a.testBit n = b.testBit n) :
    a ^^^ b < 2 ^ n := by
  refine Nat.lt_pow_two_of_testBit _ fun i hi => ?_
  obtain rfl | hlt := Nat.eq_or_lt_of_le hi
  · rw [Nat.testBit_xor, h, Bool.xor_self]
  · have hpow : 2 ^ (n + 1) ≤ 2 ^ i := Nat.pow_le_pow_right (by decide) hlt
    rw [Nat.testBit_xor, Nat.testBit_lt_two_pow (Nat.lt_of_lt_of_le ha hpow), Nat.testBit_lt_two_pow (Nat.lt_of_lt_of_le hb hpow), Bool.xor_self]

/-- The shifted generator has its top bit where the step clears one. -/
theorem generator_top : ∀ k < 16, 0x8FAF * 2 ^ (15 - k) < 2 ^ (30 - k + 1) ∧ (0x8FAF * 2 ^ (15 - k)).testBit (30 - k) = true := by
  decide

/-- A step clears the bit that it looks at. -/
theorem bchStep_lt {r k : Nat} (hk : k < 16) (hr : r < 2 ^ (30 - k + 1)) : bchStep r k < 2 ^ (30 - k) := by
  obtain ⟨hlt, htop⟩ := generator_top k hk
  rw [bchStep, bit?_eq_testBit]
  split
  next h => exact xor_lt_of_testBit hr hlt (h.trans htop.symm)
  next h =>
    have := xor_lt_of_testBit (b := 0) hr (Nat.two_pow_pos _) (by simpa using h)
    rwa [Nat.xor_zero] at this

theorem bchRem_lt {c : Nat} (hc : c < 2 ^ 31) : bchRem c < 2 ^ 15 := by
  have hprefix : ∀ n ≤ 16, (List.range n).foldl bchStep c < 2 ^ (31 - n) := by
    intro n
    induction n with
    | zero => exact fun _ => hc
    | succ n ih =>
      intro hn
      rw [List.range_succ, List.foldl_append, show 31 - (n + 1) = 30 - n by omega]
      exact bchStep_lt (by omega) (by rw [show 30 - n + 1 = 31 - n by omega]; exact ih (by omega))
  exact hprefix 16 (Nat.le_refl _)

/-- A remainder is its own remainder. -/
theorem bchRem_of_lt {r : Nat} (hr : r < 2 ^ 15) : bchRem r = r := by
  have hstep : ∀ k < 16, bchStep r k = r := fun k hk => by
    have : r < 2 ^ (30 - k) := Nat.lt_of_lt_of_le hr (Nat.pow_le_pow_right (by decide) (by omega))
    rw [bchStep, bit?_eq_testBit, Nat.testBit_lt_two_pow this, if_neg (by decide)]
  have hprefix : ∀ n ≤ 16, (List.range n).foldl bchStep r = r := by
    intro n
    induction n with
    | zero => exact fun _ => rfl
    | succ n ih =>
      intro hn
      rw [List.range_succ, List.foldl_append, ih (by omega)]
      exact hstep n (by omega)
  exact hprefix 16 (Nat.le_refl _)

theorem shifted_add_eq_xor (h : Nat) {r : Nat} (hr : r < 2 ^ 15) : h * 2 ^ 15 + r = h * 2 ^ 15 ^^^ r := by
  have hdiv := Nat.xor_div_two_pow (a := h * 2 ^ 15) (b := r) (n := 15)
  have hmod := Nat.xor_mod_two_pow (a := h * 2 ^ 15) (b := r) (n := 15)
  rw [Nat.mul_div_cancel _ (by decide), Nat.div_eq_of_lt hr, Nat.xor_zero] at hdiv
  rw [Nat.mul_mod_left, Nat.mod_eq_of_lt hr, Nat.zero_xor] at hmod
  omega

/-- The 31-bit word of a header. -/
def bchWord (h : Nat) : Nat := h * 2 ^ 15 + bchRem (h * 2 ^ 15)

theorem bchWord_rem_lt {h : Nat} (hh : h < 2 ^ 16) : bchRem (h * 2 ^ 15) < 2 ^ 15 := bchRem_lt (by omega)

theorem bchWord_lt {h : Nat} (hh : h < 2 ^ 16) : bchWord h < 2 ^ 31 := by
  have := bchWord_rem_lt hh
  rw [bchWord]; omega

/-- The word of a header is a multiple of g(x). -/
theorem bchRem_bchWord {h : Nat} (hh : h < 2 ^ 16) : bchRem (bchWord h) = 0 := by
  have hrem := bchWord_rem_lt hh
  rw [bchWord, shifted_add_eq_xor h hrem, bchRem_xor, bchRem_of_lt hrem, Nat.xor_self]

/-! ## Errors -/

/-- The bits of a word that errors at some positions invert. -/
def errorBits (l : List Nat) : Nat := xorSum (l.map fun i => 2 ^ i)

/-- The syndrome of errors at some positions. -/
def syndrome (l : List Nat) : Nat := xorSum (l.map fun i => bchRem (2 ^ i))

theorem foldl_bxor_eq_errorBits (l : List Nat) (c : Nat) : l.foldl (fun a i => bxor a (2 ^ i)) c = c ^^^ errorBits l := by
  induction l generalizing c with
  | nil => exact (Nat.xor_zero c).symm
  | cons i l ih =>
    rw [List.foldl_cons, ih]
    exact Nat.xor_assoc _ _ _

theorem bchRem_errorBits (l : List Nat) : bchRem (errorBits l) = syndrome l := by
  induction l with
  | nil => rfl
  | cons i l ih => exact (bchRem_xor _ _).trans (congrArg (bchRem (2 ^ i) ^^^ ·) ih)

theorem xorSum_perm {l m : List Nat} (h : l.Perm m) : xorSum l = xorSum m := by
  induction h with
  | nil => rfl
  | cons x _ ih => rw [xorSum_cons, xorSum_cons, ih]
  | swap x y l => rw [xorSum_cons, xorSum_cons, xorSum_cons, xorSum_cons, ← Nat.xor_assoc, ← Nat.xor_assoc, Nat.xor_comm x y]
  | trans _ _ ih₁ ih₂ => exact ih₁.trans ih₂

theorem errorBits_perm {l m : List Nat} (h : l.Perm m) : errorBits l = errorBits m := xorSum_perm (h.map _)

theorem syndrome_perm {l m : List Nat} (h : l.Perm m) : syndrome l = syndrome m := xorSum_perm (h.map _)

theorem errorBits_lt {l : List Nat} {n : Nat} (h : ∀ i ∈ l, i < n) : errorBits l < 2 ^ n := by
  induction l with
  | nil => exact Nat.two_pow_pos n
  | cons i l ih =>
    obtain ⟨hi, hl⟩ := List.forall_mem_cons.mp h
    exact Nat.xor_lt_two_pow (Nat.pow_lt_pow_right (by decide) hi) (ih hl)

/-! ## Parity -/

theorem length_filter_xor_mod_two (p q : Nat → Bool) (l : List Nat) :
    (l.filter fun i => p i ^^ q i).length % 2 = ((l.filter p).length + (l.filter q).length) % 2 := by
  induction l with
  | nil => rfl
  | cons i l ih => cases hp : p i <;> cases hq : q i <;> simp [hp, hq] <;> omega

theorem popcount_xor_mod_two (a b : Nat) : popcount (a ^^^ b) % 2 = (popcount a + popcount b) % 2 := by
  simp only [popcount, bit?_eq_testBit, Nat.testBit_xor]
  exact length_filter_xor_mod_two _ _ _

/-- Every inverted bit changes the parity. -/
theorem popcount_errorBits_mod_two (l : List Nat) (h : ∀ i ∈ l, i < 31) : popcount (errorBits l) % 2 = l.length % 2 := by
  have hone : ∀ i < 31, popcount (2 ^ i) = 1 := by decide
  induction l with
  | nil => rfl
  | cons i l ih =>
    obtain ⟨hi, hl⟩ := List.forall_mem_cons.mp h
    have hcons : popcount (errorBits (i :: l)) % 2 = (popcount (2 ^ i) + popcount (errorBits l)) % 2 :=
      popcount_xor_mod_two _ _
    rw [hcons, hone i hi, List.length_cons]
    have := ih hl
    omega

/-! ## Patterns of at most three errors -/

/-- The sublists of a list that have a given length. -/
def sublistsOfLength : Nat → List Nat → List (List Nat)
  | 0, _ => [[]]
  | _ + 1, [] => []
  | n + 1, x :: l => sublistsOfLength (n + 1) l ++ (sublistsOfLength n l).map (x :: ·)

theorem mem_sublistsOfLength {m l : List Nat} (h : m.Sublist l) : m ∈ sublistsOfLength m.length l := by
  induction h with
  | slnil => exact List.mem_cons_self
  | @cons m l x _ ih =>
    cases m with
    | nil => exact List.mem_cons_self
    | cons y m => exact List.mem_append_left _ ih
  | cons_cons x _ ih => exact List.mem_append_right _ (List.mem_map_of_mem ih)

/-- The patterns of at most three errors, positions ascending. -/
def errorPatterns : List (List Nat) := (List.range 4).flatMap fun d => sublistsOfLength d (List.range 31)

theorem mem_errorPatterns {l : List Nat} (hl : l.Sublist (List.range 31)) (hlen : l.length ≤ 3) : l ∈ errorPatterns :=
  List.mem_flatMap.mpr ⟨l.length, List.mem_range.mpr (Nat.lt_succ_of_le hlen), mem_sublistsOfLength hl⟩

/-- No number of the list is in the set `seen`, held as a number by its bits, and none stands twice in the list. -/
def newIn : List Nat → Nat → Bool
  | [], _ => true
  | x :: l, seen => !(seen.testBit x) && newIn l (seen ||| 2 ^ x)

theorem nodup_of_newIn {l : List Nat} {seen : Nat} (h : newIn l seen = true) :
    l.Nodup ∧ ∀ x ∈ l, seen.testBit x = false := by
  induction l generalizing seen with
  | nil => exact ⟨List.nodup_nil, fun x hx => absurd hx List.not_mem_nil⟩
  | cons x l ih =>
    simp only [newIn, Bool.and_eq_true, Bool.not_eq_true'] at h
    obtain ⟨hx, hl⟩ := h
    obtain ⟨hnodup, hseen⟩ := ih hl
    simp only [Nat.testBit_or, Bool.or_eq_false_iff, Nat.testBit_two_pow, decide_eq_false_iff_not] at hseen
    exact ⟨List.nodup_cons.mpr ⟨fun hmem => (hseen x hmem).2 rfl, hnodup⟩,
      List.forall_mem_cons.mpr ⟨hx, fun y hy => (hseen y hy).1⟩⟩

/-- The syndromes of the 4,992 patterns differ: the code corrects three errors. -/
theorem nodup_syndromes : (errorPatterns.map syndrome).Nodup :=
  (nodup_of_newIn (seen := 0) (by decide +kernel)).1

/-- The positions of a list that are below 31, ascending. -/
def ascendingPositions (l : List Nat) : List Nat := (List.range 31).filter fun i => decide (i ∈ l)

theorem ascendingPositions_perm {l : List Nat} (hnodup : l.Nodup) (hlt : ∀ i ∈ l, i < 31) : (ascendingPositions l).Perm l := by
  refine (List.perm_ext_iff_of_nodup (List.nodup_range.filter _) hnodup).mpr fun i => ?_
  simp only [List.mem_filter, List.mem_range, decide_eq_true_eq]
  exact ⟨fun h => h.2, fun h => ⟨hlt i h, h⟩⟩

theorem ascendingPositions_mem {l : List Nat} (hnodup : l.Nodup) (hlt : ∀ i ∈ l, i < 31) (hlen : l.length ≤ 3) :
    ascendingPositions l ∈ errorPatterns :=
  mem_errorPatterns List.filter_sublist ((ascendingPositions_perm hnodup hlt).length_eq ▸ hlen)

/-- Where the images of a list's elements differ, an element is known by its image. -/
theorem eq_of_nodup_map {α : Type} {f : α → Nat} {l : List α} (h : (l.map f).Nodup) {x y : α} (hx : x ∈ l) (hy : y ∈ l)
    (hxy : f x = f y) : x = y := by
  induction l with
  | nil => exact absurd hx List.not_mem_nil
  | cons a l ih =>
    obtain ⟨ha, hl⟩ := List.nodup_cons.mp h
    rcases List.mem_cons.mp hx with rfl | hxl <;> rcases List.mem_cons.mp hy with rfl | hyl
    · rfl
    · exact absurd (hxy ▸ List.mem_map_of_mem hyl) ha
    · exact absurd (hxy ▸ List.mem_map_of_mem hxl) ha
    · exact ih hl hxl hyl

/-- At most three errors are known by their syndrome. -/
theorem perm_of_syndrome_eq {l m : List Nat} (hl : l.Nodup) (hm : m.Nodup) (hll : ∀ i ∈ l, i < 31) (hml : ∀ i ∈ m, i < 31)
    (hl3 : l.length ≤ 3) (hm3 : m.length ≤ 3) (h : syndrome l = syndrome m) : l.Perm m := by
  have hpl := ascendingPositions_perm hl hll
  have hpm := ascendingPositions_perm hm hml
  have heq : ascendingPositions l = ascendingPositions m :=
    eq_of_nodup_map nodup_syndromes (ascendingPositions_mem hl hll hl3) (ascendingPositions_mem hm hml hm3)
      (by rw [syndrome_perm hpl, syndrome_perm hpm, h])
  exact hpl.symm.trans (heq ▸ hpm)

/-! ## The search for the errors -/

/-- The pairs of positions that the search goes through. -/
def errorPairs : List (Nat × Nat) := (List.range 31).flatMap fun i => (List.range i).map fun j => (i, j)

theorem mem_errorPairs {p : Nat × Nat} : p ∈ errorPairs ↔ p.1 < 31 ∧ p.2 < p.1 := by
  obtain ⟨i, j⟩ := p
  simp [errorPairs]

/-- The three searches, one after the other. -/
theorem bchErrors_eq (s : Nat) : bchErrors s =
    if s = 0 then some []
    else match (List.range 31).find? fun i => bchRem (2 ^ i) == s with
      | some i => some [i]
      | none => match errorPairs.find? fun p => bxor (bchRem (2 ^ p.1)) (bchRem (2 ^ p.2)) == s with
        | some p => some [p.1, p.2]
        | none => errorPairs.findSome? fun p =>
          ((List.range p.2).find? fun k => bxor (bxor (bchRem (2 ^ p.1)) (bchRem (2 ^ p.2))) (bchRem (2 ^ k)) == s).map
            fun k => [p.1, p.2, k] := rfl

theorem syndrome_one (i : Nat) : syndrome [i] = bchRem (2 ^ i) := Nat.xor_zero _

theorem syndrome_two (i j : Nat) : syndrome [i, j] = bxor (bchRem (2 ^ i)) (bchRem (2 ^ j)) :=
  congrArg (bchRem (2 ^ i) ^^^ ·) (syndrome_one j)

theorem syndrome_three (i j k : Nat) : syndrome [i, j, k] = bxor (bxor (bchRem (2 ^ i)) (bchRem (2 ^ j))) (bchRem (2 ^ k)) :=
  (congrArg (bchRem (2 ^ i) ^^^ ·) (syndrome_two j k)).trans (Nat.xor_assoc _ _ _).symm

/-- A pattern that the search may answer: at most three positions, descending. -/
def IsPattern (l : List Nat) : Prop := l.Pairwise (· > ·) ∧ (∀ i ∈ l, i < 31) ∧ l.length ≤ 3

/-- What the search finds is a pattern with the syndrome. -/
theorem bchErrors_sound {s : Nat} {l : List Nat} (h : bchErrors s = some l) : IsPattern l ∧ syndrome l = s := by
  rw [bchErrors_eq] at h
  split at h
  next hs => cases h; exact ⟨by simp [IsPattern], hs.symm⟩
  next =>
    split at h
    next i hi =>
      cases h
      have hmem : i < 31 := List.mem_range.mp (List.mem_of_find?_eq_some hi)
      exact ⟨by simp [IsPattern, hmem], (syndrome_one i).trans (by simpa using List.find?_some hi)⟩
    next =>
      split at h
      next p hp =>
        cases h
        obtain ⟨hi, hj⟩ := mem_errorPairs.mp (List.mem_of_find?_eq_some hp)
        exact ⟨by simp [IsPattern]; omega, (syndrome_two _ _).trans (by simpa using List.find?_some hp)⟩
      next =>
        obtain ⟨p, hp, hsome⟩ := List.exists_of_findSome?_eq_some h
        obtain ⟨k, hk, rfl⟩ := Option.map_eq_some_iff.mp hsome
        obtain ⟨hi, hj⟩ := mem_errorPairs.mp hp
        have hk3 : k < p.2 := List.mem_range.mp (List.mem_of_find?_eq_some hk)
        exact ⟨by simp [IsPattern]; omega, (syndrome_three _ _ _).trans (by simpa using List.find?_some hk)⟩

/-- A pattern is found by its syndrome, or another one of the same syndrome is. -/
theorem bchErrors_complete {l : List Nat} (h : IsPattern l) : bchErrors (syndrome l) ≠ none := by
  obtain ⟨hdesc, hlt, hlen⟩ := h
  rw [bchErrors_eq]
  split
  next => exact Option.some_ne_none _
  next hs =>
    split
    next => exact Option.some_ne_none _
    next hone =>
      split
      next => exact Option.some_ne_none _
      next htwo =>
        simp only [List.find?_eq_none, beq_iff_eq, List.mem_range] at hone htwo
        simp only [ne_eq, List.findSome?_eq_none_iff, Option.map_eq_none_iff, List.find?_eq_none, beq_iff_eq, List.mem_range]
        intro hthree
        match l, hlen with
        | [], _ => exact hs rfl
        | [i], _ => exact hone i (hlt i (by simp)) (syndrome_one i).symm
        | [i, j], _ =>
          simp only [List.pairwise_cons, List.mem_cons, List.not_mem_nil, or_false, forall_eq] at hdesc
          exact htwo (i, j) (mem_errorPairs.mpr ⟨hlt i (by simp), hdesc.1⟩) (syndrome_two i j).symm
        | [i, j, k], _ =>
          simp only [List.pairwise_cons, List.mem_cons, List.not_mem_nil, or_false, forall_eq, forall_eq_or_imp] at hdesc
          exact hthree (i, j) (mem_errorPairs.mpr ⟨hlt i (by simp), hdesc.1.1⟩) k hdesc.2.1 (syndrome_three i j k).symm

theorem IsPattern.nodup {l : List Nat} (h : IsPattern l) : l.Nodup := h.1.imp fun hgt => Nat.ne_of_gt hgt

/-- At most three errors are found by their syndrome. -/
theorem bchErrors_syndrome {l : List Nat} (hnodup : l.Nodup) (hlt : ∀ i ∈ l, i < 31) (hlen : l.length ≤ 3) :
    ∃ m, bchErrors (syndrome l) = some m ∧ m.Perm l := by
  have hperm := (List.reverse_perm _).trans (ascendingPositions_perm hnodup hlt)
  have hpat : IsPattern (ascendingPositions l).reverse :=
    ⟨List.pairwise_reverse.mpr (List.pairwise_lt_range.filter _), fun i hi => hlt i (hperm.mem_iff.mp hi), hperm.length_eq ▸ hlen⟩
  obtain ⟨m, hm⟩ := Option.ne_none_iff_exists'.mp (syndrome_perm hperm ▸ bchErrors_complete hpat)
  obtain ⟨hmpat, hms⟩ := bchErrors_sound hm
  exact ⟨m, hm, perm_of_syndrome_eq hmpat.nodup hnodup hmpat.2.1 hlt hmpat.2.2 hlen hms⟩

/-- Four errors have the syndrome of no even number of errors below them. -/
theorem syndrome_four_ne {l m : List Nat} (hl : l.Nodup) (hll : ∀ i ∈ l, i < 31) (hl4 : l.length = 4) (hm : IsPattern m)
    (heven : m.length % 2 = 0) : syndrome l ≠ syndrome m := by
  intro h
  match l, hl4 with
  | d :: l, hl4 =>
    have hl3 : l.length = 3 := Nat.succ.inj hl4
    obtain ⟨hd, hl⟩ := List.nodup_cons.mp hl
    obtain ⟨hd31, hll⟩ := List.forall_mem_cons.mp hll
    have hmove : syndrome l = bchRem (2 ^ d) ^^^ syndrome m := by
      rw [← h, syndrome, syndrome, List.map_cons, xorSum_cons, ← Nat.xor_assoc, Nat.xor_self, Nat.zero_xor]
    by_cases hdm : d ∈ m
    · -- the position cancels, and fewer than three errors have the syndrome of three
      have hperm := List.perm_cons_erase hdm
      have hs : syndrome l = syndrome (m.erase d) := by
        rw [hmove, syndrome_perm hperm, syndrome, List.map_cons, xorSum_cons, ← Nat.xor_assoc, Nat.xor_self, Nat.zero_xor]; rfl
      have hp := perm_of_syndrome_eq hl (hm.nodup.erase d) hll (fun i hi => hm.2.1 i (List.mem_of_mem_erase hi))
        (Nat.le_of_eq hl3) (Nat.le_trans List.length_erase_le hm.2.2) hs
      have := hp.length_eq
      have := List.length_erase_of_mem hdm
      have := hm.2.2
      omega
    · -- three errors with the position among them have the syndrome of three without it
      have hs : syndrome l = syndrome (d :: m) := hmove
      have hm3 : (d :: m).length ≤ 3 := by have := hm.2.2; rw [List.length_cons]; omega
      have hp := perm_of_syndrome_eq hl (List.nodup_cons.mpr ⟨hdm, hm.nodup⟩) hll (List.forall_mem_cons.mpr ⟨hd31, hm.2.1⟩)
        (Nat.le_of_eq hl3) hm3 hs
      exact hd (hp.mem_iff.mpr List.mem_cons_self)

/-! ## The header with errors -/

theorem dlEncodeHeader_eq (h : Nat) : dlEncodeHeader h = 2 * bchWord h + popcount (bchWord h) % 2 := rfl

/-- The word of a header with errors in its 31 bits, behind a parity bit. -/
def headerWithErrors (h : Nat) (l : List Nat) (parity : Nat) : Nat := 2 * (bchWord h ^^^ errorBits l) + parity

/-- What the receiver makes of a word with errors. -/
theorem dlDecodeHeader_errors {h : Nat} {l : List Nat} {parity : Nat} (hh : h < 2 ^ 16) (hlt : ∀ i ∈ l, i < 31) (hp : parity < 2) :
    dlDecodeHeader (headerWithErrors h l parity) =
      (bchErrors (syndrome l)).bind fun m =>
        let c := (bchWord h ^^^ errorBits l) ^^^ errorBits m
        if (popcount c + parity) % 2 = 0 ∧ dlIndex (c / 2 ^ 15) ≤ dlTotal (c / 2 ^ 15) then some (c / 2 ^ 15) else none := by
  have hc : bchWord h ^^^ errorBits l < 2 ^ 31 := Nat.xor_lt_two_pow (bchWord_lt hh) (errorBits_lt hlt)
  have hword : headerWithErrors h l parity / 2 % 2 ^ 31 = bchWord h ^^^ errorBits l := by rw [headerWithErrors]; omega
  have hparity : headerWithErrors h l parity % 2 = parity := by rw [headerWithErrors]; omega
  have hsyn : bchRem (bchWord h ^^^ errorBits l) = syndrome l := by rw [bchRem_xor, bchRem_bchWord hh, Nat.zero_xor, bchRem_errorBits]
  simp only [dlDecodeHeader, hword, hparity, hsyn, foldl_bxor_eq_errorBits]
  cases bchErrors (syndrome l) <;> rfl

/-- With at most three errors the word is put right, and the parity bit decides. -/
theorem dlDecodeHeader_three {h : Nat} {l : List Nat} {parity : Nat} (hh : h < 2 ^ 16) (hnodup : l.Nodup) (hlt : ∀ i ∈ l, i < 31)
    (hlen : l.length ≤ 3) (hp : parity < 2) :
    dlDecodeHeader (headerWithErrors h l parity) =
      if (popcount (bchWord h) + parity) % 2 = 0 ∧ dlIndex h ≤ dlTotal h then some h else none := by
  obtain ⟨m, hm, hperm⟩ := bchErrors_syndrome hnodup hlt hlen
  have hright : (bchWord h ^^^ errorBits l) ^^^ errorBits m = bchWord h := by
    rw [errorBits_perm hperm, Nat.xor_assoc, Nat.xor_self, Nat.xor_zero]
  have htop : bchWord h / 2 ^ 15 = h := by
    have := bchWord_rem_lt hh
    rw [bchWord]; omega
  simp only [dlDecodeHeader_errors hh hlt hp, hm, Option.bind_some, hright, htop]

/-- With four errors the search finds no pattern, or one of odd length, which leaves a wrong parity. -/
theorem dlDecodeHeader_four {h : Nat} {l : List Nat} {parity : Nat} (hh : h < 2 ^ 16) (hnodup : l.Nodup) (hlt : ∀ i ∈ l, i < 31)
    (hlen : l.length = 4) (hp : parity = popcount (bchWord h) % 2) : dlDecodeHeader (headerWithErrors h l parity) = none := by
  rw [dlDecodeHeader_errors hh hlt (by omega)]
  cases hm : bchErrors (syndrome l) with
  | none => rfl
  | some m =>
    obtain ⟨hpat, hsyn⟩ := bchErrors_sound hm
    have hodd : m.length % 2 ≠ 0 := fun heven => syndrome_four_ne hnodup hlt hlen hpat heven hsyn.symm
    have h1 := popcount_xor_mod_two (bchWord h ^^^ errorBits l) (errorBits m)
    have h2 := popcount_xor_mod_two (bchWord h) (errorBits l)
    have h3 := popcount_errorBits_mod_two l hlt
    have h4 := popcount_errorBits_mod_two m hpat.2.1
    exact if_neg fun hacc => by omega

/-! ## Errors in all 32 bits -/

theorem xor_two_mul_add (a b : Nat) {p : Nat} (hp : p < 2) : (2 * a + p) ^^^ 2 * b = 2 * (a ^^^ b) + p := by
  have hdiv := Nat.xor_div_two (a := 2 * a + p) (b := 2 * b)
  have hmod := xor_mod_two (2 * a + p) (2 * b)
  rw [show (2 * a + p) / 2 = a by omega, show 2 * b / 2 = b by omega] at hdiv
  rw [show (2 * a + p) % 2 = p by omega, show 2 * b % 2 = 0 by omega, Nat.xor_zero] at hmod
  omega

theorem xor_one_two_mul_add (a : Nat) {p : Nat} (hp : p < 2) : (2 * a + p) ^^^ 1 = 2 * a + (1 - p) := by
  have hdiv := Nat.xor_div_two (a := 2 * a + p) (b := 1)
  have hmod := xor_mod_two (2 * a + p) 1
  have hflip : p ^^^ 1 = 1 - p := by
    obtain rfl | rfl : p = 0 ∨ p = 1 := by omega
    all_goals rfl
  rw [show (2 * a + p) / 2 = a by omega, show 1 / 2 = 0 by rfl, Nat.xor_zero] at hdiv
  rw [show (2 * a + p) % 2 = p by omega, show 1 % 2 = 1 by rfl, hflip] at hmod
  omega

/-- The errors of the 31-bit word, from those of the word with its parity bit. -/
def aboveParity (l : List Nat) : List Nat := l.map (· - 1)

theorem errorBits_aboveParity {l : List Nat} (h : 0 ∉ l) : errorBits l = 2 * errorBits (aboveParity l) := by
  induction l with
  | nil => rfl
  | cons i l ih =>
    obtain ⟨hi, hl⟩ := not_or.mp fun h' => h (List.mem_cons.mpr h')
    have hpow : 2 ^ i = 2 * 2 ^ (i - 1) := by rw [← Nat.pow_succ', Nat.succ_eq_add_one, Nat.sub_add_cancel (by omega)]
    have hcons : errorBits (i :: l) = 2 * 2 ^ (i - 1) ^^^ 2 * errorBits (aboveParity l) := by rw [← hpow, ← ih hl]; rfl
    exact hcons.trans (xor_two_mul_add _ _ (p := 0) (by decide))

theorem nodup_aboveParity {l : List Nat} (hnodup : l.Nodup) (h : 0 ∉ l) : (aboveParity l).Nodup :=
  List.pairwise_map.mpr <| List.Pairwise.imp_of_mem (fun {i j} hi hj hne => by
    have : i ≠ 0 := fun h0 => h (h0 ▸ hi)
    have : j ≠ 0 := fun h0 => h (h0 ▸ hj)
    omega) hnodup

theorem aboveParity_lt {l : List Nat} (hlt : ∀ i ∈ l, i < 32) : ∀ i ∈ aboveParity l, i < 31 := by
  intro i hi
  obtain ⟨j, hj, rfl⟩ := List.mem_map.mp hi
  have := hlt j hj
  omega

/-- A header with errors above its parity bit. -/
theorem dlEncodeHeader_xor_above (h : Nat) {l : List Nat} (h0 : 0 ∉ l) :
    dlEncodeHeader h ^^^ errorBits l = headerWithErrors h (aboveParity l) (popcount (bchWord h) % 2) := by
  rw [dlEncodeHeader_eq, errorBits_aboveParity h0, xor_two_mul_add _ _ (Nat.mod_lt _ (by decide)), headerWithErrors]

/-- A header with its parity bit inverted too. -/
theorem dlEncodeHeader_xor_parity (h : Nat) {l : List Nat} (hnodup : l.Nodup) (h0 : 0 ∈ l) :
    dlEncodeHeader h ^^^ errorBits l = headerWithErrors h (aboveParity (l.erase 0)) (1 - popcount (bchWord h) % 2) := by
  have hcons : errorBits (0 :: l.erase 0) = errorBits (l.erase 0) ^^^ 1 := Nat.xor_comm _ _
  rw [errorBits_perm (List.perm_cons_erase h0), hcons, ← Nat.xor_assoc, dlEncodeHeader_xor_above h hnodup.not_mem_erase,
    headerWithErrors, xor_one_two_mul_add _ (Nat.mod_lt _ (by decide)), headerWithErrors]

/-- Settles O30: at most three errors are put right; of four, either all lie in the 31-bit word and no pattern with an even number of
errors has their syndrome, or three do and are put right, and the parity bit is wrong. -/
theorem headerCodeCorrectsThreeErrors : Obligations.HeaderCodeCorrectsThreeErrors := by
  intro h es hh hindex hnodup hlt heard
  have hheard : heard = dlEncodeHeader h ^^^ errorBits es := foldl_bxor_eq_errorBits es _
  have hparity : popcount (bchWord h) % 2 < 2 := Nat.mod_lt _ (by decide)
  rw [hheard]
  refine ⟨fun hlen h0 => ?_, fun hlen => ?_⟩
  · rw [dlEncodeHeader_xor_above h h0, dlDecodeHeader_three hh (nodup_aboveParity hnodup h0) (aboveParity_lt hlt)
      ((List.length_map _).symm ▸ hlen) hparity, if_pos ⟨by omega, hindex⟩]
  · by_cases h0 : 0 ∈ es
    · have hlen3 : (aboveParity (es.erase 0)).length ≤ 3 := by
        have := List.length_erase_of_mem h0
        rw [aboveParity, List.length_map]
        omega
      rw [dlEncodeHeader_xor_parity h hnodup h0, dlDecodeHeader_three hh (nodup_aboveParity (hnodup.erase 0) hnodup.not_mem_erase)
        (aboveParity_lt fun i hi => hlt i (List.mem_of_mem_erase hi)) hlen3 (by omega), if_neg fun hacc => by omega]
    · rw [dlEncodeHeader_xor_above h h0, dlDecodeHeader_four hh (nodup_aboveParity hnodup h0) (aboveParity_lt hlt)
        ((List.length_map _).trans hlen) rfl]

end Sys2Proof.Machine
end

section
/-! Whitening and interleaving of the Deep Link (R178, R179), and the receiver that undoes them. 7 is its own inverse modulo 48, so the
interleaver's permutation has the inverse that the sender reads its positions by. -/

namespace Sys2Proof.Machine

open Sys2Proof

/-! ## The interleaver -/

/-- The coded bit that is sent at a position: row p / nb, block column p mod nb. -/
def dlCoded (rate p : Nat) : Nat := 48 * (p % dlCols rate) + 7 * (p / dlCols rate) % 48

theorem dlPos_lt {rate k : Nat} (hk : k < dlBits rate) : dlPos rate k < dlBits rate := by
  rw [dlBits] at hk ⊢
  have hrow : 7 * (k % 48) % 48 ≤ 47 := by omega
  have hcol : k / 48 < dlCols rate := Nat.div_lt_of_lt_mul hk
  calc dlPos rate k < dlCols rate * (7 * (k % 48) % 48) + dlCols rate := Nat.add_lt_add_left hcol _
    _ ≤ dlCols rate * 47 + dlCols rate := Nat.add_le_add_right (Nat.mul_le_mul_left _ hrow) _
    _ = 48 * dlCols rate := by omega

theorem dlCoded_lt {rate p : Nat} (hp : p < dlBits rate) : dlCoded rate p < dlBits rate := by
  rw [dlBits] at hp ⊢
  have hcols : 0 < dlCols rate := by omega
  have hcol := Nat.mod_lt p hcols
  rw [dlCoded]
  omega

theorem dlCoded_dlPos {rate k : Nat} (hk : k < dlBits rate) : dlCoded rate (dlPos rate k) = k := by
  have hcol : k / 48 < dlCols rate := Nat.div_lt_of_lt_mul hk
  have hmod : dlPos rate k % dlCols rate = k / 48 := by rw [dlPos, Nat.mul_add_mod, Nat.mod_eq_of_lt hcol]
  have hdiv : dlPos rate k / dlCols rate = 7 * (k % 48) % 48 := by
    rw [dlPos, Nat.mul_add_div (by omega), Nat.div_eq_of_lt hcol, Nat.add_zero]
  rw [dlCoded, hmod, hdiv]
  omega

theorem dlPos_dlCoded {rate p : Nat} (hp : p < dlBits rate) : dlPos rate (dlCoded rate p) = p := by
  rw [dlBits] at hp
  have hrow : p / dlCols rate < 48 := Nat.div_lt_of_lt_mul (by omega)
  have hmod : 7 * (dlCoded rate p % 48) % 48 = p / dlCols rate := by rw [dlCoded]; omega
  have hdiv : dlCoded rate p / 48 = p % dlCols rate := by rw [dlCoded]; omega
  rw [dlPos, hmod, hdiv, Nat.div_add_mod]

/-- Settles O26. -/
theorem interleaverPermutesTheCodeword : Obligations.InterleaverPermutesTheCodeword :=
  ⟨fun _ => ⟨rfl, rfl⟩, rfl, rfl, fun rate _ => ⟨fun _ hk => dlPos_lt hk,
    fun p hp => ⟨dlCoded rate p, dlCoded_lt hp, dlPos_dlCoded hp, fun _ hj hpos => hpos ▸ (dlCoded_dlPos hj).symm⟩⟩⟩

/-! ## The whitening sequence -/

/-- The whitening register after some bits. -/
def pn9Reg : Nat → Nat → Nat
  | 0, reg => reg
  | n + 1, reg => pn9Reg n (reg / 2 + (reg % 2 + reg / 32 % 2) % 2 * 256)

theorem pn9_add (m n reg : Nat) : pn9 (m + n) reg = pn9 m reg ++ pn9 n (pn9Reg m reg) := by
  induction m generalizing reg with
  | zero => rw [Nat.zero_add]; rfl
  | succ m ih => rw [Nat.succ_add, pn9, ih, pn9, pn9Reg, List.cons_append]

@[simp] theorem length_pn9 (n reg : Nat) : (pn9 n reg).length = n := by
  induction n generalizing reg with
  | zero => rfl
  | succ n ih => rw [pn9, List.length_cons, ih]

theorem pn9_le_one (n reg : Nat) : ∀ b ∈ pn9 n reg, b ≤ 1 := by
  induction n generalizing reg with
  | zero => exact fun b hb => absurd hb List.not_mem_nil
  | succ n ih => exact List.forall_mem_cons.mpr ⟨by omega, ih _⟩

/-- The register's step in the words of the algorithm. -/
theorem pn9Step_eq : ∀ reg < 512, reg % 2 = reg &&& 1 ∧
    reg / 2 + (reg % 2 + reg / 32 % 2) % 2 * 256 = (reg >>> 1) ||| (((reg &&& 1) ^^^ ((reg >>> 5) &&& 1)) <<< 8) := by
  decide +kernel

theorem xorBits_xorBits {l p : List Nat} (h : l.length = p.length) : xorBits (xorBits l p) p = l := by
  induction l generalizing p with
  | nil => rfl
  | cons x l ih =>
    match p, h with
    | y :: p, h =>
      have hx : bxor (bxor x y) y = x := (Nat.xor_assoc x y y).trans (by rw [Nat.xor_self, Nat.xor_zero])
      exact List.cons_eq_cons.mpr ⟨hx, ih (Nat.succ.inj h)⟩

/-- Settles O27: the register is back at 0x1FF after 511 bits. -/
theorem whiteningIsPn9 : Obligations.WhiteningIsPn9 := by
  have hperiod : pn9Reg 511 0x1FF = 0x1FF := by decide +kernel
  refine ⟨fun n reg hreg => ?_, by decide, fun n => ?_, fun reg l => xorBits_xorBits (length_pn9 _ _).symm⟩
  · obtain ⟨hbit, hnext⟩ := pn9Step_eq reg hreg
    rw [pn9, ← hnext, ← hbit]
  · rw [pn9_add, hperiod]

/-! ## Soft bits -/

/-- The LLR at full strength of a bit: +31 for 0, −31 for 1. -/
def fullLlr (b : Nat) : Int := if b = 1 then -31 else 31

/-- A bit's LLR with the sign that the receiver gives it for a whitening bit. -/
def unwhiten (x : Int) (b : Nat) : Int := if b = 1 then -sat31 x else sat31 x

theorem unwhiten_fullLlr {x b : Nat} (hx : x ≤ 1) (hb : b ≤ 1) : unwhiten (fullLlr (bxor x b)) b = fullLlr x := by
  have hall : ∀ x < 2, ∀ b < 2, unwhiten (fullLlr (bxor x b)) b = fullLlr x := by decide
  exact hall x (by omega) b (by omega)

/-- The receiver's whitening removal gives back the LLRs of the bits before whitening. -/
theorem unwhiten_xorBits {l p : List Nat} (h : l.length = p.length) (hl : ∀ x ∈ l, x ≤ 1) (hp : ∀ b ∈ p, b ≤ 1) :
    List.zipWith unwhiten ((xorBits l p).map fullLlr) p = l.map fullLlr := by
  induction l generalizing p with
  | nil => rfl
  | cons x l ih =>
    match p, h with
    | b :: p, h =>
      obtain ⟨hx, hl⟩ := List.forall_mem_cons.mp hl
      obtain ⟨hb, hp⟩ := List.forall_mem_cons.mp hp
      exact List.cons_eq_cons.mpr ⟨unwhiten_fullLlr hx hb, ih (Nat.succ.inj h) hl hp⟩

/-! ## The sent codewords -/

theorem getD_of_lt {α : Type} {l : List α} {i : Nat} (d : α) (h : i < l.length) : l.getD i d = l[i] := by
  rw [List.getD_eq_getElem?_getD, List.getElem?_eq_getElem h, Option.getD_some]

theorem getD_of_le {α : Type} {l : List α} {i : Nat} (d : α) (h : l.length ≤ i) : l.getD i d = d := by
  rw [List.getD_eq_getElem?_getD, List.getElem?_eq_none h, Option.getD_none]

/-- A codeword in the order in which it is sent. -/
def interleaved (rate : Nat) (c : List Nat) : List Nat := (List.range (dlBits rate)).map fun p => c.getD (dlCoded rate p) 0

@[simp] theorem length_interleaved (rate : Nat) (c : List Nat) : (interleaved rate c).length = dlBits rate := by
  rw [interleaved, List.length_map, List.length_range]

theorem interleaved_le_one {rate : Nat} {c : List Nat} (hc : ∀ b ∈ c, b ≤ 1) : ∀ b ∈ interleaved rate c, b ≤ 1 := by
  intro b hb
  obtain ⟨p, -, rfl⟩ := List.mem_map.mp hb
  by_cases h : dlCoded rate p < c.length
  · rw [getD_of_lt _ h]; exact hc _ (List.getElem_mem h)
  · rw [getD_of_le _ (Nat.not_lt.mp h)]; exact Nat.zero_le 1

/-- The bit at the place of a coded bit is that coded bit. -/
theorem getD_interleaved {rate k : Nat} (c : List Nat) (hk : k < dlBits rate) : (interleaved rate c).getD (dlPos rate k) 0 = c.getD k 0 := by
  rw [interleaved, List.getD_eq_getElem?_getD, List.getElem?_map, List.getElem?_range (dlPos_lt hk), Option.map_some, Option.getD_some,
    dlCoded_dlPos hk]

theorem getD_map_of_lt {α β : Type} (f : α → β) {l : List α} {i : Nat} (d : β) (e : α) (h : i < l.length) :
    (l.map f).getD i d = f (l.getD i e) := by
  rw [getD_of_lt _ (by rwa [List.length_map]), List.getElem_map, getD_of_lt _ h]

/-- The place of a bit in a row of lists of one length. -/
theorem getD_flatten {α : Type} {n i q : Nat} {ls : List (List α)} (d : α) (h : ∀ l ∈ ls, l.length = n) (hq : q < n) :
    ls.flatten.getD (n * i + q) d = (ls.getD i []).getD q d := by
  induction ls generalizing i with
  | nil => simp
  | cons l ls ih =>
    obtain ⟨hl, hls⟩ := List.forall_mem_cons.mp h
    rw [List.flatten_cons, List.getD_eq_getElem?_getD]
    cases i with
    | zero => rw [Nat.mul_zero, Nat.zero_add, List.getElem?_append_left (by omega), List.getD_cons_zero, List.getD_eq_getElem?_getD]
    | succ i =>
      have hle : n ≤ n * (i + 1) + q := by rw [Nat.mul_succ]; omega
      rw [List.getElem?_append_right (by omega), hl, show n * (i + 1) + q - n = n * i + q by rw [Nat.mul_succ]; omega,
        ← List.getD_eq_getElem?_getD, ih hls, List.getD_cons_succ]

/-- The bits of a row of codewords as they are sent, before whitening. -/
def sentBits (rate : Nat) (cs : List (List Nat)) : List Nat := (cs.map (interleaved rate)).flatten

theorem length_sentBits (rate : Nat) (cs : List (List Nat)) : (sentBits rate cs).length = cs.length * dlBits rate := by
  induction cs with
  | nil => rw [List.length_nil, Nat.zero_mul]; rfl
  | cons c cs ih =>
    simp only [sentBits, List.map_cons, List.flatten_cons, List.length_append, length_interleaved, List.length_cons] at ih ⊢
    rw [ih, Nat.succ_mul]
    omega

theorem sentBits_le_one {rate : Nat} {cs : List (List Nat)} (h : ∀ c ∈ cs, ∀ b ∈ c, b ≤ 1) : ∀ b ∈ sentBits rate cs, b ≤ 1 := by
  refine List.forall_mem_flatten.mpr fun l hl => ?_
  obtain ⟨c, hc, rfl⟩ := List.mem_map.mp hl
  exact interleaved_le_one (h c hc)

/-- A coded bit of a codeword stands at its place in that codeword's part of what is sent. -/
theorem getD_sentBits {rate i k : Nat} {cs : List (List Nat)} (hi : i < cs.length) (hk : k < dlBits rate) :
    (sentBits rate cs).getD (dlBits rate * i + dlPos rate k) 0 = (cs.getD i []).getD k 0 := by
  have hlen : ∀ l ∈ cs.map (interleaved rate), l.length = dlBits rate := by
    intro l hl
    obtain ⟨c, -, rfl⟩ := List.mem_map.mp hl
    exact length_interleaved rate c
  rw [sentBits, getD_flatten 0 hlen (dlPos_lt hk), getD_map_of_lt _ _ [] hi, getD_interleaved _ hk]

/-- The soft bits of a codeword, collected at their places from what is sent, are those of the codeword. -/
theorem collect_sentBits {rate i : Nat} {cs : List (List Nat)} (hcs : ∀ c ∈ cs, c.length = dlBits rate) (hi : i < cs.length) :
    (List.range (dlBits rate)).map (fun k => ((sentBits rate cs).map fullLlr).getD (dlBits rate * i + dlPos rate k) 0) =
      (cs.getD i []).map fullLlr := by
  have hc : (cs.getD i []).length = dlBits rate := by rw [getD_of_lt _ hi]; exact hcs _ (List.getElem_mem hi)
  refine List.ext_getElem (by rw [List.length_map, List.length_map, List.length_range, hc]) fun k hk _ => ?_
  have hk : k < dlBits rate := by rwa [List.length_map, List.length_range] at hk
  have hbound : dlBits rate * i + dlPos rate k < (sentBits rate cs).length := by
    have hrow : dlBits rate * (i + 1) ≤ dlBits rate * cs.length := Nat.mul_le_mul_left _ hi
    have hpos := dlPos_lt hk
    rw [Nat.mul_succ] at hrow
    rw [length_sentBits, Nat.mul_comm cs.length]
    omega
  rw [List.getElem_map, List.getElem_range, getD_map_of_lt fullLlr 0 0 hbound, getD_sentBits hi hk, List.getElem_map,
    getD_of_lt _ (by rwa [hc])]

/-- The information bits of the codewords of a PSDU. -/
def infoBits (psdu : List Nat) : List Nat :=
  octetBits (leOctets 2 psdu.length ++ psdu ++
    List.replicate (72 * dlWordsFor psdu.length - (leOctets 2 psdu.length ++ psdu).length) 0)

/-- The codewords of a PSDU. -/
def psduWords (rate : Nat) (psdu : List Nat) : List (List Nat) :=
  (List.range (dlWordsFor psdu.length)).map fun i => ldpcEncode rate (((infoBits psdu).drop (576 * i)).take 576)

@[simp] theorem length_psduWords (rate : Nat) (psdu : List Nat) : (psduWords rate psdu).length = dlWordsFor psdu.length := by
  rw [psduWords, List.length_map, List.length_range]

theorem length_octetBits (l : List Nat) : (octetBits l).length = 8 * l.length := by
  induction l with
  | nil => rfl
  | cons b l ih =>
    rw [octetBits] at ih ⊢
    rw [List.flatMap_cons, List.length_append, List.length_map, List.length_range, List.length_cons, ih]
    omega

theorem octetBits_le_one (l : List Nat) : ∀ b ∈ octetBits l, b ≤ 1 := by
  intro b hb
  obtain ⟨o, -, ho⟩ := List.mem_flatMap.mp hb
  obtain ⟨i, -, rfl⟩ := List.mem_map.mp ho
  omega

/-- The information bits fill the codewords. -/
theorem length_infoBits (psdu : List Nat) : (infoBits psdu).length = 576 * dlWordsFor psdu.length := by
  have hfit : 2 + psdu.length ≤ 72 * dlWordsFor psdu.length := by rw [dlWordsFor, cdiv]; omega
  have htwo : (leOctets 2 psdu.length).length = 2 := by rw [leOctets, List.length_map, List.length_range]
  rw [infoBits, length_octetBits, List.length_append, List.length_append, List.length_replicate, htwo]
  omega

/-- Each codeword of a PSDU is a word of bits of its length. -/
theorem psduWords_spec {rate : Nat} {psdu : List Nat} (hrate : rate ≤ 1) :
    ∀ c ∈ psduWords rate psdu, c.length = dlBits rate ∧ ∀ b ∈ c, b ≤ 1 := by
  intro c hc
  obtain ⟨i, hi, rfl⟩ := List.mem_map.mp hc
  have hi := List.mem_range.mp hi
  have hlen : (((infoBits psdu).drop (576 * i)).take 576).length = 576 := by
    rw [List.length_take, List.length_drop, length_infoBits]; omega
  obtain ⟨hl, hb, -⟩ := encodingProducesTheUniqueCodeword rate _ hrate hlen
    fun b hb => octetBits_le_one _ b (List.mem_of_mem_drop (List.mem_of_mem_take hb))
  exact ⟨hl, hb⟩

/-- A sent payload is its codewords, interleaved and whitened. -/
theorem dlPayload_eq (rate : Nat) (psdu : List Nat) :
    dlPayload rate psdu = xorBits (sentBits rate (psduWords rate psdu)) (pn9 (dlWordsFor psdu.length * dlBits rate) 0x1FF) := by
  simp [dlPayload, sentBits, psduWords, infoBits, interleaved, dlCoded, List.flatMap_def, Function.comp_def]

/-- A receiver takes whitening away, then collects the bits of each codeword. -/
theorem dlReceive_eq (rate words : Nat) (llrs : List Int) :
    dlReceive rate words llrs = (List.range words).map fun i => (List.range (dlBits rate)).map fun k =>
      (List.zipWith unwhiten llrs (pn9 (words * dlBits rate) 0x1FF)).getD (dlBits rate * i + dlPos rate k) 0 := by
  simp only [dlReceive, ← Array.getElem?_toList, Array.getD_eq_getD_getElem?, List.getD_eq_getElem?_getD]
  rfl

/-- Settles O29: whitening falls away, and each coded bit of each codeword is found at its place. -/
theorem receiverUndoesWhiteningAndInterleaving : Obligations.ReceiverUndoesWhiteningAndInterleaving := by
  intro rate psdu hrate _ _ words llr info bits
  have hspec := psduWords_spec (psdu := psdu) hrate
  have hlen : (sentBits rate (psduWords rate psdu)).length = (pn9 (words * dlBits rate) 0x1FF).length := by
    rw [length_sentBits, length_psduWords, length_pn9]
  have hplain : List.zipWith unwhiten ((dlPayload rate psdu).map llr) (pn9 (words * dlBits rate) 0x1FF) =
      (sentBits rate (psduWords rate psdu)).map fullLlr := by
    rw [dlPayload_eq]
    exact unwhiten_xorBits hlen (sentBits_le_one fun c hc => (hspec c hc).2) (pn9_le_one _ _)
  rw [dlReceive_eq, hplain]
  refine List.map_congr_left fun i hi => ?_
  have hi : i < (psduWords rate psdu).length := by rw [length_psduWords]; exact List.mem_range.mp hi
  have hword : (psduWords rate psdu).getD i [] = ldpcEncode rate ((bits.drop (576 * i)).take 576) := by
    rw [getD_of_lt _ hi]
    simp only [psduWords, List.getElem_map, List.getElem_range]
    rfl
  rw [collect_sentBits (fun c hc => (hspec c hc).1) hi, hword]
  rfl

end Sys2Proof.Machine
end

section
/-! Critical interrupt sources at completion and at software changes (R453, R457). Their pending and active words are written before the
request signal of their context follows, which is an object of its own. -/

namespace Sys2Proof.Machine

open Sys2Proof

/-! ## Requests leave the source words -/

theorem requestRises_within (x : Nat) : (requestRises x).All (Eff.within (· = R.CX_REQUEST x)) := by
  have hmsix (v : Nat) : (sendMsix v).All (Eff.within (· = R.CX_REQUEST x)) := all_read fun _ => all_ite trivial trivial
  exact all_read fun _ => all_ite trivial ⟨rfl, trivial, all_onlyIf (hmsix _), trivial⟩

theorem word_requestRises {x : Nat} {r : Ref} (hr : r ≠ R.CX_REQUEST x) (s : State) : ((requestRises x).run s).word r = s.word r :=
  run_word (requestRises_within x) hr s

/-! ## Setting and clearing a source's pending bit -/

/-- The words that setting a source pending leaves: all but its pending word and request signals. -/
theorem word_setPending (src : Nat) {r : Ref} (hr : ¬ irqRef r) (s : State) : ((setPending src).run s).word r = s.word r :=
  run_signal_word (all_setPending src) hr s

theorem srcActive_setPending (src q : Nat) (s : State) : ((setPending src).run s).srcActive q = s.srcActive q := by
  rw [State.srcActive, State.rd, word_setPending src (by simp [irqRef]), State.srcActive, State.rd]

/-- A source that is not active becomes pending. -/
theorem srcPending_setPending {src : Nat} (hlow : src ≠ 0) (hhigh : src < 2047) {s : State} (hidle : s.srcActive src = false) :
    ((setPending src).run s).srcPending src = true := by
  have hvalid : ¬ (src = 0 ∨ 2047 ≤ src) := by omega
  have hskip : ¬ (s.srcActive src = true ∧ src ≤ 31) := by simp [hidle]
  have hword (u : State) : ((onlyIf (u.eligible src) (requestRises (u.srcCtx src))).run u).word (R.IRQ_PENDING (src / 64)) =
      u.word (R.IRQ_PENDING (src / 64)) := by
    rw [run_onlyIf]
    split
    · exact word_requestRises (by simp) u
    · rfl
  rw [setPending, run_read, if_neg hvalid, if_neg hskip, run_acts_cons, run_acts_cons, run_acts_nil, run_read, State.srcPending, State.rd,
    hword, run_wr, word_apply_wr, if_pos rfl, bit?_toNat_ofNat _ (Nat.mod_lt _ (by decide)), bit?_setBit]

/-- A source whose pending bit is cleared is no longer pending. -/
theorem srcPending_clearPending (src : Nat) (s : State) : ((clearPending src).run s).srcPending src = false := by
  rw [clearPending, run_read, run_acts_cons, run_acts_cons, run_acts_nil, State.srcPending, State.rd, word_followRequest (by simp), run_wr,
    word_apply_wr, if_pos rfl, bit?_toNat_ofNat _ (Nat.mod_lt _ (by decide)), bit?_clrBit]

/-! ## Completion -/

/-- The source is no longer active, and its claim is gone. -/
def deactivateSource (src : Nat) : Act :=
  acts [wrBit (R.IRQ_ACTIVE (src / 64)) (src % 64) false, setIrq fun q => { q with claimant := q.claimant.clear src }]

theorem srcActive_deactivateSource (src : Nat) (s : State) : ((deactivateSource src).run s).srcActive src = false := by
  rw [deactivateSource, run_acts_cons, run_acts_cons, run_acts_nil, State.srcActive, State.rd, word_setIrq, word_wrBit, if_pos rfl,
    if_neg (by decide), bit?_toNat_ofNat _ (Nat.mod_lt _ (by decide)), bit?_clrBit]

theorem srcPending_deactivateSource (src : Nat) (s : State) : ((deactivateSource src).run s).srcPending src = s.srcPending src := by
  rw [deactivateSource, run_acts_cons, run_acts_cons, run_acts_nil, State.srcPending, State.rd, word_setIrq, word_wrBit,
    if_neg (by simp), State.srcPending, State.rd]

/-- A completed critical source is sampled again, then the request of its context follows. -/
theorem run_completeSource {src : Nat} (hcrit : src ≤ 31) (s : State) :
    ∃ x, (completeSource src).run s =
      (followRequest x).run ((onlyIf (bit? s.eng.irq.levels src) (setPending src)).run ((deactivateSource src).run s)) := by
  rw [completeSource, run_read, decide_eq_true hcrit, Bool.true_and]
  exact ⟨_, rfl⟩

theorem srcActive_followRequest (x src : Nat) (s : State) : ((followRequest x).run s).srcActive src = s.srcActive src := by
  rw [State.srcActive, State.rd, word_followRequest (by simp), State.srcActive, State.rd]

theorem srcPending_followRequest (x src : Nat) (s : State) : ((followRequest x).run s).srcPending src = s.srcPending src := by
  rw [State.srcPending, State.rd, word_followRequest (by simp), State.srcPending, State.rd]

theorem srcActive_completeSource {src : Nat} (hcrit : src ≤ 31) (s : State) : ((completeSource src).run s).srcActive src = false := by
  obtain ⟨x, hrun⟩ := run_completeSource hcrit s
  rw [hrun, srcActive_followRequest, run_onlyIf]
  split
  · rw [srcActive_setPending, srcActive_deactivateSource]
  · rw [srcActive_deactivateSource]

/-- Settles O13: completion makes the source inactive before its level is sampled, so a high level is pending again. -/
theorem criticalSourcesFollowTheirLevel : Obligations.CriticalSourcesFollowTheirLevel := by
  intro s src hlow hcrit
  obtain ⟨x, hrun⟩ := run_completeSource hcrit s
  refine ⟨srcActive_completeSource hcrit s, fun hlevel => ⟨?_, ?_⟩, fun hlevel => ⟨?_, ?_⟩,
    fun hidle => srcPending_setPending (by omega) (by omega) hidle⟩
  · rw [hrun, srcPending_followRequest, hlevel, run_onlyIf_true,
      srcPending_setPending (by omega) (by omega) (srcActive_deactivateSource src s)]
  · simp [softClear, hlevel, hcrit]
  · rw [hrun, srcPending_followRequest, hlevel, run_onlyIf_false, srcPending_deactivateSource]
  · cases hpend : s.srcPending src with
    | false => simp [softClear, hpend]
    | true => simp [softClear, hlevel, hpend, srcPending_clearPending]

end Sys2Proof.Machine
end

section
/-! Ticks of the general timers (R466, R470). A tick changes the timer's own state and writes its words; the flags then raise an event and an
edge, which belong to the delivery of requests and write no timer's word. -/

namespace Sys2Proof.Machine

open Sys2Proof

/-! ## The flags -/

/-- The FLAGS that a tick leaves. -/
def tickFlags (old : Nat) (wrap hit : Bool) : Nat :=
  bor old (b2n wrap + 2 * b2n hit + 4 * b2n ((wrap && bit? old 0) || (hit && bit? old 1)))

theorem tickFlags_lt {old : Nat} (h : old < 2 ^ 64) (wrap hit : Bool) : tickFlags old wrap hit < 2 ^ 64 := by
  have hb (b : Bool) : b2n b ≤ 1 := by cases b <;> decide
  refine Nat.or_lt_two_pow h ?_
  have h1 := hb wrap
  have h2 := hb hit
  have h3 := hb ((wrap && bit? old 0) || (hit && bit? old 1))
  omega

theorem rd_lt (s : State) (r : Ref) : s.rd r < 2 ^ 64 := (s.word r).isLt

/-- The number that an object holds after a number was written. -/
theorem rd_wr (r r' : Ref) {v : Nat} (hv : v < 2 ^ 64) (s : State) : ((wr r v).run s).rd r' = if r = r' then v else s.rd r' := by
  rw [run_wr, rd_apply_wr, BitVec.toNat_ofNat, Nat.mod_eq_of_lt hv]

/-- A timer's own objects are none of the delivery of events. -/
theorem not_eventRef_timer {r : Ref} (h : r.idx = 0x0320 ∨ r.idx = 0x0321) : ¬ eventRef r := by
  rintro (⟨h' | ⟨h', -⟩⟩ | rfl | rfl | rfl) <;> simp_all

/-- Of the objects of timers, the flags' word of the timer alone changes. -/
theorem word_timerFlags (k : Nat) (wrap hit : Bool) {r : Ref} (hr : r.idx = 0x0320 ∨ r.idx = 0x0321) (s : State) :
    ((timerFlags k wrap hit).run s).word r =
      if R.TM_FLAGS k = r then BitVec.ofNat 64 (tickFlags (s.rd (R.TM_FLAGS k)) wrap hit) else s.word r := by
  have hr' := not_eventRef_timer hr
  have hraise (c : Bool) (u : State) : ((onlyIf c (raiseMs k 0x0302 k k)).run u).word r = u.word r :=
    run_signal_word (all_onlyIf (all_raiseMs _ _ _ _)) hr' u
  have hedge (c : Bool) (u : State) : ((onlyIf c (edge (64 + k))).run u).word r = u.word r :=
    run_signal_word (all_onlyIf (all_edge _)) (fun h => hr' (.inl h)) u
  simp only [timerFlags, run_read, run_acts_cons, run_acts_nil, hedge, hraise, run_wr, word_apply_wr]
  rfl

/-! ## A tick -/

/-- What a due tick does before its flags: at count 0 without a reload the timer stops. -/
def tickStop (k : Nat) : Act := acts [wrFld (R.TM_CTRL k) 0 0 0, timerPhase k true]

/-- What a due tick does before its flags: the count goes on, with the compare value of the period. -/
def tickCount (k c : Nat) (iv cmp : Int) : Act :=
  acts [wr (R.TM_COUNT k) c, setTimer k fun x => { x with interval := iv }, wri (R.TM_CMP k) cmp]

theorem word_tickStop (k : Nat) (r : Ref) (s : State) :
    ((tickStop k).run s).word r =
      if R.TM_CTRL k = r then BitVec.ofNat 64 (setFld (s.rd (R.TM_CTRL k)) 0 0 0) else s.word r := by
  simp only [tickStop, wrFld, run_acts_cons, run_acts_nil, word_timerPhase, run_read, run_wr, word_apply_wr]

theorem word_tickCount (k c : Nat) (iv cmp : Int) (r : Ref) (s : State) :
    ((tickCount k c iv cmp).run s).word r =
      if R.TM_CMP k = r then BitVec.ofNat 64 (unsgn 64 cmp) else if R.TM_COUNT k = r then BitVec.ofNat 64 c else s.word r := by
  simp only [tickCount, wri, run_acts_cons, run_acts_nil, run_wr, word_apply_wr, word_setTimer]

theorem not_skipped {k : Nat} {s : State} (hticks : s.ticking k = true) (hdue : (s.timer k).due ≤ s.now) :
    ¬ (!(s.ticking k) || decide (s.now < (s.timer k).due)) = true := by
  rw [hticks, decide_eq_false (Nat.not_lt.mpr hdue)]
  decide

/-- A due tick with no count to go to stops the timer. -/
theorem run_timerTick_stop {k : Nat} {s : State} (hticks : s.ticking k = true) (hdue : (s.timer k).due ≤ s.now)
    (hnext : s.nextCount k = none) :
    ∃ f, (timerTick k).run s =
      (timerFlags k (s.rd (R.TM_COUNT k) == 0) (s.tickMatches k)).run ((tickStop k).run ((setTimer k f).run s)) := by
  simp only [timerTick, run_read, if_neg (not_skipped hticks hdue), hnext]
  exact ⟨_, rfl⟩

/-- A due tick with a count to go to counts. -/
theorem run_timerTick_count {k c : Nat} {s : State} (hticks : s.ticking k = true) (hdue : (s.timer k).due ≤ s.now)
    (hnext : s.nextCount k = some c) :
    ∃ f iv cmp, (timerTick k).run s =
      (timerFlags k (s.rd (R.TM_COUNT k) == 0) (s.tickMatches k)).run ((tickCount k c iv cmp).run ((setTimer k f).run s)) := by
  simp only [timerTick, run_read, if_neg (not_skipped hticks hdue), hnext]
  exact ⟨_, _, _, rfl⟩

theorem rd_setTimer (k : Nat) (f : TimerSt → TimerSt) (r : Ref) (s : State) : ((setTimer k f).run s).rd r = s.rd r := rfl

/-- The words of timers after a due tick that stops the timer. -/
theorem word_timerTick_stop {k : Nat} {s : State} (hticks : s.ticking k = true) (hdue : (s.timer k).due ≤ s.now)
    (hnext : s.nextCount k = none) {r : Ref} (hr : r.idx = 0x0320 ∨ r.idx = 0x0321) :
    ((timerTick k).run s).word r =
      if R.TM_FLAGS k = r then BitVec.ofNat 64 (tickFlags (s.rd (R.TM_FLAGS k)) (s.rd (R.TM_COUNT k) == 0) (s.tickMatches k))
      else if R.TM_CTRL k = r then BitVec.ofNat 64 (setFld (s.rd (R.TM_CTRL k)) 0 0 0) else s.word r := by
  obtain ⟨f, hrun⟩ := run_timerTick_stop hticks hdue hnext
  have hflags : ((tickStop k).run ((setTimer k f).run s)).rd (R.TM_FLAGS k) = s.rd (R.TM_FLAGS k) := by
    rw [State.rd, word_tickStop, if_neg (by simp), word_setTimer, State.rd]
  rw [hrun, word_timerFlags k _ _ hr, hflags, word_tickStop, word_setTimer, rd_setTimer]

/-- The words of timers after a due tick that counts. -/
theorem word_timerTick_count {k c : Nat} {s : State} (hticks : s.ticking k = true) (hdue : (s.timer k).due ≤ s.now)
    (hnext : s.nextCount k = some c) : ∃ cmp : Int, ∀ r : Ref, r.idx = 0x0320 ∨ r.idx = 0x0321 →
    ((timerTick k).run s).word r =
      if R.TM_FLAGS k = r then BitVec.ofNat 64 (tickFlags (s.rd (R.TM_FLAGS k)) (s.rd (R.TM_COUNT k) == 0) (s.tickMatches k))
      else if R.TM_CMP k = r then BitVec.ofNat 64 (unsgn 64 cmp) else if R.TM_COUNT k = r then BitVec.ofNat 64 c else s.word r := by
  obtain ⟨f, iv, cmp, hrun⟩ := run_timerTick_count hticks hdue hnext
  have hflags : ((tickCount k c iv cmp).run ((setTimer k f).run s)).rd (R.TM_FLAGS k) = s.rd (R.TM_FLAGS k) := by
    rw [State.rd, word_tickCount, if_neg (by simp), if_neg (by simp), word_setTimer, State.rd]
  exact ⟨cmp, fun r hr => by rw [hrun, word_timerFlags k _ _ hr, hflags, word_tickCount, word_setTimer]⟩

/-- The number of a word that holds a number of 64 bits. -/
theorem toNat_ofNat_of_lt {v : Nat} (h : v < 2 ^ 64) : (BitVec.ofNat 64 v).toNat = v := by
  rw [BitVec.toNat_ofNat, Nat.mod_eq_of_lt h]

/-- What a due tick leaves when it counts: count, RUN, flags, and other timers. -/
theorem timerTick_counts {k c : Nat} {s : State} (hticks : s.ticking k = true) (hdue : (s.timer k).due ≤ s.now)
    (hnext : s.nextCount k = some c) (hc : c < 2 ^ 64) :
    ((timerTick k).run s).rd (R.TM_COUNT k) = c ∧ ((timerTick k).run s).rd (R.TM_CTRL k) = s.rd (R.TM_CTRL k) ∧
    ((timerTick k).run s).rd (R.TM_FLAGS k) = tickFlags (s.rd (R.TM_FLAGS k)) (s.rd (R.TM_COUNT k) == 0) (s.tickMatches k) ∧
    ∀ r : Ref, r.idx = 0x0320 ∨ r.idx = 0x0321 → r.inst ≠ k → ((timerTick k).run s).word r = s.word r := by
  obtain ⟨cmp, hword⟩ := word_timerTick_count hticks hdue hnext
  refine ⟨?_, ?_, ?_, fun r hr hk => ?_⟩
  · rw [State.rd, hword _ (.inl rfl), if_neg (by simp), if_neg (by simp), if_pos rfl, toNat_ofNat_of_lt hc]
  · rw [State.rd, hword _ (.inl rfl), if_neg (by simp), if_neg (by simp), if_neg (by simp), State.rd]
  · rw [State.rd, hword _ (.inr rfl), if_pos rfl, toNat_ofNat_of_lt (tickFlags_lt (rd_lt s _) _ _)]
  · rw [hword r hr, if_neg (by rintro rfl; exact hk rfl), if_neg (by rintro rfl; exact hk rfl), if_neg (by rintro rfl; exact hk rfl)]

/-- What a due tick leaves when it stops the timer. -/
theorem timerTick_stops {k : Nat} {s : State} (hticks : s.ticking k = true) (hdue : (s.timer k).due ≤ s.now)
    (hnext : s.nextCount k = none) :
    ((timerTick k).run s).rd (R.TM_COUNT k) = s.rd (R.TM_COUNT k) ∧ bit? (((timerTick k).run s).rd (R.TM_CTRL k)) 0 = false ∧
    ((timerTick k).run s).rd (R.TM_FLAGS k) = tickFlags (s.rd (R.TM_FLAGS k)) (s.rd (R.TM_COUNT k) == 0) (s.tickMatches k) ∧
    ∀ r : Ref, r.idx = 0x0320 ∨ r.idx = 0x0321 → r.inst ≠ k → ((timerTick k).run s).word r = s.word r := by
  have hword {r : Ref} (hr : r.idx = 0x0320 ∨ r.idx = 0x0321) := word_timerTick_stop hticks hdue hnext hr
  have hclear (x : Nat) : bit? (setFld x 0 0 0) 0 = false := by
    simp only [bit?, setFld, fld, Nat.reduceSub, Nat.reduceAdd, beq_eq_false_iff_ne]
    omega
  refine ⟨?_, ?_, ?_, fun r hr hk => ?_⟩
  · rw [State.rd, hword (.inl rfl), if_neg (by simp), if_neg (by simp), State.rd]
  · rw [State.rd, hword (.inl rfl), if_neg (by simp), if_pos rfl, bit?_toNat_ofNat _ (by decide), hclear]
  · rw [State.rd, hword (.inr rfl), if_pos rfl, toNat_ofNat_of_lt (tickFlags_lt (rd_lt s _) _ _)]
  · rw [hword hr, if_neg (by rintro rfl; exact hk rfl), if_neg (by rintro rfl; exact hk rfl)]

/-- Settles O15: the count that the tick goes to decides between counting, reloading and stopping. -/
theorem timerTicksCountDownAndWrap : Obligations.TimerTicksCountDownAndWrap := by
  intro s k hticks hdue
  have hrun : bit? (s.rd (R.TM_CTRL k)) 0 = true := by
    rw [State.ticking, Bool.and_eq_true] at hticks
    exact hticks.1
  by_cases hcount : 0 < s.rd (R.TM_COUNT k)
  · obtain ⟨hcnt, hctrl, hflags, hother⟩ := timerTick_counts hticks hdue (if_pos hcount) (Nat.lt_of_le_of_lt (Nat.sub_le _ 1) (rd_lt s _))
    exact ⟨fun _ => ⟨hcnt, hctrl⟩, fun h => absurd h (Nat.ne_of_gt hcount), hflags, hother⟩
  · by_cases hreload : s.rd (R.TM_RELOAD k) = 0
    · have hnext : s.nextCount k = none := by rw [State.nextCount, if_neg hcount, if_pos hreload]
      obtain ⟨hcnt, hctrl, hflags, hother⟩ := timerTick_stops hticks hdue hnext
      exact ⟨fun h => absurd h hcount, fun h => ⟨by rw [hcnt, h, hreload], by rw [hctrl]; simp [hreload]⟩, hflags, hother⟩
    · have hnext : s.nextCount k = some (s.rd (R.TM_RELOAD k)) := by rw [State.nextCount, if_neg hcount, if_neg hreload]
      obtain ⟨hcnt, hctrl, hflags, hother⟩ := timerTick_counts hticks hdue hnext (rd_lt s _)
      exact ⟨fun h => absurd h hcount, fun _ => ⟨hcnt, by rw [hctrl, hrun]; simp [hreload]⟩, hflags, hother⟩

end Sys2Proof.Machine
end

section
/-! The locks that writes take (R99, R203, R309): a sorted table of object instances. -/

namespace Sys2Proof.Machine

open Sys2Proof

theorem pairLt_iff {a b : Nat × Nat} : pairLt a b = true ↔ a.1 < b.1 ∨ (a.1 = b.1 ∧ a.2 < b.2) := by
  simp [pairLt]

theorem pairLt_trans (x y z : Nat × Nat) (hxy : pairLt x y = true) (hyz : pairLt y z = true) : pairLt x z = true := by
  rw [pairLt_iff] at *
  omega

theorem pairLt_total (x y : Nat × Nat) (hne : x ≠ y) (h : pairLt x y = false) : pairLt y x = true := by
  have hnot := mt pairLt_iff.mpr (Bool.eq_false_iff.mp h)
  have hcomp : ¬ (x.1 = y.1 ∧ x.2 = y.2) := fun heq => hne (Prod.ext heq.1 heq.2)
  rw [pairLt_iff]
  omega

/-- A sorted table has its keys in strictly ascending order. -/
theorem pairwise_keys_of_ascending {κ α : Type} {lt : κ → κ → Bool} {l : List (κ × α)} (h : ascending lt l = true) :
    (l.map (·.1)).Pairwise fun a b => lt a b = true := by
  induction l with
  | nil => exact List.Pairwise.nil
  | cons x l ih =>
    simp only [ascending, Bool.and_eq_true, List.all_eq_true] at h
    refine List.pairwise_cons.mpr ⟨fun k hk => ?_, ih h.2⟩
    obtain ⟨e, he, rfl⟩ := List.mem_map.mp hk
    exact h.1 e he

theorem mem_keys_aput {κ α : Type} [DecidableEq κ] (lt : κ → κ → Bool) (l : List (κ × α)) (k k' : κ) (v : α) :
    k' ∈ (aput lt l k v).map (·.1) ↔ k' = k ∨ k' ∈ l.map (·.1) := by
  induction l with
  | nil => simp [aput]
  | cons x l ih =>
    rw [aput]
    split
    next heq => simp [heq]
    next =>
      split
      · simp
      · simp only [List.map_cons, List.mem_cons, ih]
        exact or_left_comm

theorem ascending_foldl_aput {l : List (Nat × Nat)} {acc : List ((Nat × Nat) × Unit)} (h : ascending pairLt acc = true) :
    ascending pairLt (l.foldl (fun acc o => aput pairLt acc o ()) acc) = true := by
  induction l generalizing acc with
  | nil => exact h
  | cons o l ih => exact ih (ascending_aput pairLt acc o () pairLt_trans pairLt_total h)

theorem mem_keys_foldl_aput {l : List (Nat × Nat)} {acc : List ((Nat × Nat) × Unit)} {o : Nat × Nat} :
    o ∈ (l.foldl (fun acc o => aput pairLt acc o ()) acc).map (·.1) ↔ o ∈ l ∨ o ∈ acc.map (·.1) := by
  induction l generalizing acc with
  | nil => simp
  | cons p l ih => rw [List.foldl_cons, ih, mem_keys_aput, List.mem_cons, or_left_comm, or_assoc]

theorem pairwise_sortPairs (l : List (Nat × Nat)) : (sortPairs l).Pairwise fun a b => a.1 < b.1 ∨ (a.1 = b.1 ∧ a.2 < b.2) :=
  (pairwise_keys_of_ascending (ascending_foldl_aput rfl)).imp pairLt_iff.mp

theorem mem_sortPairs {l : List (Nat × Nat)} {o : Nat × Nat} : o ∈ sortPairs l ↔ o ∈ l := by
  rw [sortPairs, mem_keys_foldl_aput]
  simp

/-- The locks that R203 and R309 add. -/
theorem mem_moreLocks {objs : List (Nat × Nat)} {o : Nat × Nat} :
    o ∈ moreLocks objs ↔ (o = (0x2002, 0) ∧ ∃ x ∈ objs, x.1 ∈ [0x2010, 0x2011, 0x2100, 0x2101]) ∨
      (o.1 = 0x3470 ∧ ∃ x ∈ objs, x.1 ∈ [0x3471, 0x3472] ∧ x.2 = o.2) := by
  have hone (x : Nat × Nat) :
      o ∈ (if x.1 = 0x2010 ∨ x.1 = 0x2011 ∨ x.1 = 0x2100 ∨ x.1 = 0x2101 then [(R.ST_ACTIVE.idx, R.ST_ACTIVE.inst)]
        else if x.1 = 0x3471 ∨ x.1 = 0x3472 then [(0x3470, x.2)] else []) ↔
      (o = (0x2002, 0) ∧ x.1 ∈ [0x2010, 0x2011, 0x2100, 0x2101]) ∨ (o.1 = 0x3470 ∧ x.1 ∈ [0x3471, 0x3472] ∧ x.2 = o.2) := by
    simp only [List.mem_cons, List.not_mem_nil, or_false]
    split
    next hslot =>
      have hgate : ¬ (x.1 = 0x3471 ∨ x.1 = 0x3472) := by omega
      simp [hslot, hgate]
    next hslot =>
      split
      next hgate =>
        obtain ⟨a, b⟩ := o
        simp [hslot, hgate, eq_comm]
      next hgate => simp [hslot, hgate]
  simp only [moreLocks, List.mem_flatMap, hone]
  constructor
  · rintro ⟨x, hx, ⟨ho, hslot⟩ | ⟨ho, hgate⟩⟩
    · exact .inl ⟨ho, x, hx, hslot⟩
    · exact .inr ⟨ho, x, hx, hgate⟩
  · rintro (⟨ho, x, hx, hslot⟩ | ⟨ho, x, hx, hgate⟩)
    · exact ⟨x, hx, .inl ⟨ho, hslot⟩⟩
    · exact ⟨x, hx, .inr ⟨ho, hgate⟩⟩

/-- Settles O16. -/
theorem locksAreTakenInAscendingOrder : Obligations.LocksAreTakenInAscendingOrder := fun objs =>
  ⟨pairwise_sortPairs _, fun _ => by rw [locksFor, mem_sortPairs, List.mem_append, mem_moreLocks]⟩

end Sys2Proof.Machine
end

section
/-! The checks of an access (R60, R61, R555): each status is the first failure of a list of checks, so an access that passes has passed
every one. -/

namespace Sys2Proof.Machine

open Sys2Proof

theorem firstOf_eq_zero {l : List Nat} : firstOf l = 0 ↔ ∀ st ∈ l, st = 0 := by
  induction l with
  | nil => simp
  | cons st l ih =>
    rw [firstOf_cons, List.forall_mem_cons]
    split
    next h => rw [ih]; exact (and_iff_right h).symm
    next h => exact ⟨fun h0 => absurd h0 h, fun h0 => absurd h0.1 h⟩

theorem failIf_eq_zero {b : Bool} {st : Nat} (hst : st ≠ 0) : failIf b st = 0 ↔ b = false := by
  cases b <;> simp [failIf, hst]

theorem inr_of_ite {α β : Type} {c : Prop} [Decidable c] {a : α} {b b' : β} (h : (if c then .inr b else .inl a : Sum α β) = .inr b') :
    c ∧ b = b' := by
  split at h
  next hc => exact ⟨hc, Sum.inr.inj h⟩
  next => cases h

/-- A write that passes has passed the class and the privilege of each value at each instance. -/
theorem checkWrite_passed {s : State} {w : Who} {staged : Bool} {it : Item} {t : Target} {vs : List (Row × Nat × List Word)}
    (h : s.checkWrite w staged it = .inr (t, vs)) : ∀ i ∈ t.insts, ∀ v ∈ vs,
      s.writeClass w staged it.op v.1 ⟨t.fam.idx, i, v.2.1⟩ (v.2.2.headD 0).toNat = 0 ∧
      s.writeRights (s.whoPriv w) v.1 ⟨t.fam.idx, i, v.2.1⟩ (v.2.2.headD 0).toNat = 0 := by
  unfold State.checkWrite State.checkWriteAs at h
  split at h
  next => cases h
  next t' _ =>
    obtain ⟨hst, heq⟩ := inr_of_ite h
    cases heq
    intro i hi v hv
    obtain ⟨hclass, hst⟩ := List.forall_mem_cons.mp (firstOf_eq_zero.mp hst)
    obtain ⟨hrights, -⟩ := List.forall_mem_cons.mp hst
    have hmem (f : Row → Ref → Nat → Nat) :
        f v.1 ⟨t.fam.idx, i, v.2.1⟩ (v.2.2.headD 0).toNat ∈ (if t.insts.isEmpty then [t.fam.lo] else t.insts).flatMap fun i =>
          (valuesOf t.fam it.vals it.count t.mem).map fun v => f v.1 ⟨t.fam.idx, i, v.2.1⟩ (v.2.2.headD 0).toNat := by
      have hfull : t.insts.isEmpty = false := by
        rw [List.isEmpty_eq_false_iff_exists_mem]; exact ⟨i, hi⟩
      rw [hfull]
      exact List.mem_flatMap.mpr ⟨i, hi, List.mem_map.mpr ⟨v, hv, rfl⟩⟩
    exact ⟨firstOf_eq_zero.mp hclass _ (hmem fun row r v => s.writeClass w staged it.op row r v),
      firstOf_eq_zero.mp hrights _ (hmem fun row r v => s.writeRights (s.whoPriv w) row r v)⟩

/-- What the class of a write that passes excludes. -/
theorem cls_of_writeClass {s : State} {w : Who} {staged : Bool} {op : Nat} {row : Row} {r : Ref} {v : Nat}
    (h : s.writeClass w staged op row r v = 0) : row.cls ≠ .ro ∧ row.cls ≠ .rc ∧ (staged = true → row.cls ≠ .cmd) := by
  rw [State.writeClass] at h
  split at h
  · exact absurd h (by decide)
  · rw [failIf_eq_zero (by decide)] at h
    simp only [Bool.or_eq_false_iff, Bool.and_eq_false_iff, beq_eq_false_iff_ne] at h
    obtain ⟨⟨⟨⟨⟨⟨⟨hro, hrc⟩, hcmd⟩, -⟩, -⟩, -⟩, -⟩, -⟩ := h
    exact ⟨hro, hrc, fun hstaged => hcmd.resolve_left (by rw [hstaged]; decide)⟩

/-- What the rights of a write that passes say. -/
theorem priv_of_writeRights {s : State} {priv : Nat} {row : Row} {r : Ref} {v : Nat} (h : s.writeRights priv row r v = 0) :
    s.writePriv row r v ≤ priv := by
  have hfirst := (List.forall_mem_cons.mp (firstOf_eq_zero.mp h)).1
  rw [failIf_eq_zero (by decide), decide_eq_false_iff_not] at hfirst
  exact Nat.not_lt.mp hfirst

/-- A read that passes names members only, and has passed the class and the privilege of each. -/
theorem checkRead_passed {s : State} {w : Who} {it : Item} {t : Target} (h : s.checkRead w it = .inr t) :
    ∀ i ∈ t.insts, ∀ m ∈ it.mems t.mem, ∃ row : Row, rowOf? t.fam m = some row ∧
      s.readClass w row ⟨t.fam.idx, i, m⟩ = 0 ∧ s.readRights w row = 0 := by
  unfold State.checkRead at h
  split at h
  next => cases h
  next t' _ =>
    obtain ⟨hst, heq⟩ := inr_of_ite h
    cases heq
    intro i hi m hm
    obtain ⟨hclass, hst⟩ := List.forall_mem_cons.mp (firstOf_eq_zero.mp hst)
    obtain ⟨hrights, -⟩ := List.forall_mem_cons.mp hst
    have hclass := firstOf_eq_zero.mp hclass _ (List.mem_flatMap.mpr ⟨i, hi, List.mem_map.mpr ⟨m, hm, rfl⟩⟩)
    have hrights := firstOf_eq_zero.mp hrights _ (List.mem_flatMap.mpr ⟨i, hi, List.mem_map.mpr ⟨m, hm, rfl⟩⟩)
    cases hrow : rowOf? t.fam m with
    | none =>
      rw [hrow] at hclass
      have hmember : stMember = 0 := hclass
      exact absurd hmember (by decide)
    | some row =>
      rw [hrow] at hclass hrights
      exact ⟨row, rfl, hclass, hrights⟩

theorem cls_of_readClass {s : State} {w : Who} {row : Row} {r : Ref} (h : s.readClass w row r = 0) (hddp : isDdp w = true) :
    row.cls ≠ .wo := by
  rw [State.readClass] at h
  split at h
  · exact absurd h (by decide)
  · rw [failIf_eq_zero (by decide)] at h
    simp only [hddp, Bool.and_true, Bool.or_eq_false_iff, beq_eq_false_iff_ne] at h
    obtain ⟨⟨⟨hwo, -⟩, -⟩, -⟩ := h
    exact hwo

theorem priv_of_readRights {s : State} {w : Who} {row : Row} (h : s.readRights w row = 0) (hcls : row.cls = .ro ∨ row.cls = .rc) :
    row.priv ≤ s.whoPriv w := by
  rw [State.readRights, failIf_eq_zero (by decide)] at h
  simpa [hcls] using h

/-- Settles O17. -/
theorem accessesPassOnlyWithTheRights : Obligations.AccessesPassOnlyWithTheRights := by
  intro s w it
  refine ⟨fun staged t vs h i hi v hv => ?_, fun t h i hi m hm => ?_⟩
  · obtain ⟨hclass, hrights⟩ := checkWrite_passed h i hi v hv
    obtain ⟨hro, hrc, hcmd⟩ := cls_of_writeClass hclass
    exact ⟨hro, hrc, hcmd, priv_of_writeRights hrights⟩
  · obtain ⟨row, hrow, hclass, hrights⟩ := checkRead_passed h i hi m hm
    exact ⟨row, hrow, cls_of_readClass hclass, priv_of_readRights hrights⟩

end Sys2Proof.Machine
end

section
/-! Access violations (R523). The record of a violation and the level that it raises leave the frozen masters; the violation itself adds
one. -/

namespace Sys2Proof.Machine

open Sys2Proof

/-! ## What signals leave -/

theorem flt_of_signal {p : Ref → Prop} {a : Act} (h : a.All (Eff.signal p)) (s : State) : (a.run s).eng.flt = s.eng.flt := by
  obtain ⟨-, -, heng⟩ := run_signal h s
  rw [heng]

/-- The effect leaves the levels of the critical sources. -/
def Eff.leavesLevels (e : Eff) : Prop := ∀ s, (e.apply s).eng.irq.levels = s.eng.irq.levels

theorem setPending_leavesLevels (src : Nat) : (setPending src).All Eff.leavesLevels := by
  have hmsix (v : Nat) : (sendMsix v).All Eff.leavesLevels := all_read fun _ => all_ite (fun _ => rfl) fun _ => rfl
  have hrises (x : Nat) : (requestRises x).All Eff.leavesLevels :=
    all_read fun _ => all_ite trivial ⟨fun _ => rfl, fun _ => rfl, all_onlyIf (hmsix _), trivial⟩
  exact all_read fun _ => all_ite trivial (all_ite trivial ⟨fun _ => rfl, all_read fun _ => all_onlyIf (hrises _), trivial⟩)

/-- A level that goes high is high. -/
theorem bit?_levels_setLevel (src : Nat) (s : State) : bit? ((setLevel src true).run s).eng.irq.levels src = true := by
  rw [setLevel, run_read]
  split
  next h => exact h
  next =>
    rw [run_acts_cons, run_acts_cons, run_acts_nil]
    have hkeep (u : State) (c : Prop) [Decidable c] :
        (Act.run (if c then .skip else if true = true then setPending src else clearPending src) u).eng.irq.levels = u.eng.irq.levels := by
      split
      · rfl
      · exact run_keeps (fun s => s.eng.irq.levels) (setPending_leavesLevels src) u
    rw [hkeep]
    exact bit?_setBit _ _

/-! ## The record of a violation -/

theorem flt_wrs (r : Ref) (l : List Nat) (s : State) : ((wrs r l).run s).eng.flt = s.eng.flt := by
  induction l generalizing r s with
  | nil => rfl
  | cons v l ih => rw [wrs, run_seq, ih]; rfl

/-- A violation is recorded, or counted as lost, and then has its effect; the record leaves the masters. -/
theorem run_violationRecord (m kind access addr : Nat) (k : Option Nat → Act) (s : State) :
    ∃ v u, (violationRecord m kind access addr k).run s = (k v).run u ∧ u.eng.flt = s.eng.flt := by
  rw [violationRecord, run_read]
  split
  next v _ =>
    refine ⟨some v, _, rfl, ?_⟩
    rw [flt_of_signal (all_raiseMs _ _ _ _), wrTime, flt_wrs]
    rfl
  next =>
    refine ⟨none, _, rfl, ?_⟩
    rw [flt_of_signal (all_raise _ _ _)]
    rfl

/-- What freezes a master: it is listed with its answers, its bit of VR_FROZEN is set and critical source 5 is high. -/
def freezeMaster (m : Nat) (ps : List FabPkt) (v : Option Nat) : Act :=
  acts [setFlt fun g => { g with frozen := g.frozen.set m ⟨ps, v⟩ }, wrBit R.VR_FROZEN m true, setLevel 5 true]

theorem flt_freezeMaster (m : Nat) (ps : List FabPkt) (v : Option Nat) (u : State) :
    ((freezeMaster m ps v).run u).eng.flt = { u.eng.flt with frozen := u.eng.flt.frozen.set m ⟨ps, v⟩ } := by
  rw [freezeMaster, run_acts_cons, run_acts_cons, run_acts_cons, run_acts_nil, flt_of_signal (all_setLevel _ _)]
  rfl

theorem frozen_freezeMaster (m m' : Nat) (ps : List FabPkt) (v : Option Nat) (u : State) :
    ((freezeMaster m ps v).run u).frozen m' = if m = m' then true else u.frozen m' := by
  rw [State.frozen, flt_freezeMaster, Tbl.set, aget_aput]
  split <;> rfl

theorem bit?_freezeMaster {m : Nat} (hm : m < 64) (ps : List FabPkt) (v : Option Nat) (u : State) :
    bit? (((freezeMaster m ps v).run u).rd R.VR_FROZEN) m = true := by
  rw [freezeMaster, run_acts_cons, run_acts_cons, run_acts_cons, run_acts_nil, State.rd,
    run_signal_word (all_setLevel _ _) (by simp [irqRef]), word_wrBit, if_pos rfl, if_pos rfl, bit?_toNat_ofNat _ hm, bit?_setBit]

/-- Settles O19. -/
theorem violationsFreezeTheirMaster : Obligations.ViolationsFreezeTheirMaster := by
  intro s m kind access addr ps hm hlt
  refine ⟨fun hthaw => ?_, fun hfrozen => ?_⟩
  · obtain ⟨v, u, hrun, hflt⟩ := run_violationRecord m kind access addr (freezeMaster m ps) s
    have hviolate : (violate m kind access addr ps).run s = (freezeMaster m ps v).run u := by
      rw [violate, run_read, if_neg hm, hthaw, if_neg (by decide)]
      exact hrun
    simp only [hviolate]
    refine ⟨by rw [frozen_freezeMaster, if_pos rfl], bit?_freezeMaster (by omega) ps v u, ?_, fun m' hm' => ?_, ?_⟩
    · rw [freezeMaster, run_acts_cons, run_acts_cons, run_acts_cons, run_acts_nil]
      exact bit?_levels_setLevel 5 _
    · rw [frozen_freezeMaster, if_neg hm'.symm, State.frozen, hflt, State.frozen]
    · rw [flt_freezeMaster, hflt]
  · show (violate m kind access addr ps).run s = s
    rw [violate, run_read, if_neg hm, hfrozen, if_pos rfl, run_skip]

end Sys2Proof.Machine
end

section
/-! The servo (R384) and TU_RATE (R377): a change of the rate sets the base of device time to what it is at that instant. -/

namespace Sys2Proof.Machine

open Sys2Proof

/-- A signed number of 64 bits reads back from the word that holds it. -/
theorem sgn_unsgn {x : Int} (hlow : -2 ^ 63 ≤ x) (hhigh : x < 2 ^ 63) : sgn 64 (unsgn 64 x) = x := by
  simp only [sgn, unsgn]
  omega

theorem unsgn_lt (x : Int) : unsgn 64 x < 2 ^ 64 := by
  simp only [unsgn]
  omega

theorem rdi_wri {r : Ref} {x : Int} (hlow : -2 ^ 63 ≤ x) (hhigh : x < 2 ^ 63) (s : State) : ((wri r x).run s).rdi r = x := by
  rw [State.rdi, wri, rd_wr _ _ (unsgn_lt x), if_pos rfl, sgn_unsgn hlow hhigh]

theorem word_wri (r r' : Ref) (x : Int) (s : State) :
    ((wri r x).run s).word r' = if r = r' then BitVec.ofNat 64 (unsgn 64 x) else s.word r' := word_apply_wr _ _ _ _

theorem rdi_of_word {s u : State} {r : Ref} (h : s.word r = u.word r) : s.rdi r = u.rdi r := by
  rw [State.rdi, State.rd, h, State.rdi, State.rd]

/-- Device time depends on true time, the base and the rate alone. -/
theorem devTime_congr {s u : State} (hnow : s.now = u.now) (htu : s.eng.tu = u.eng.tu) (hrate : s.word R.TU_RATE = u.word R.TU_RATE) :
    s.devTime = u.devTime := by
  rw [State.devTime, hnow, htu, rdi_of_word hrate, State.devTime]

theorem word_setRate (x : Int) (r : Ref) (s : State) :
    ((setRate x).run s).word r = if R.TU_RATE = r then BitVec.ofNat 64 (unsgn 64 x) else s.word r := word_wri _ _ _ _

/-- A change of the rate leaves device time at its instant. -/
theorem devTime_setRate (x : Int) (s : State) : ((setRate x).run s).devTime = s.devTime := by
  have htu : ((setRate x).run s).eng.tu = ⟨s.devTime, s.now⟩ := rfl
  have hnow : ((setRate x).run s).now = s.now := rfl
  rw [State.devTime, htu, hnow, Nat.sub_self, Nat.zero_mul, Nat.add_zero]

theorem clampRate_bounds {m x : Int} (hm : 0 ≤ m) (hmax : m < 2 ^ 62) : -2 ^ 63 ≤ clampRate m x ∧ clampRate m x < 2 ^ 63 := by
  rw [clampRate]
  omega

/-- Settles O20. -/
theorem servoSteersWithoutAJump : Obligations.ServoSteersWithoutAJump := by
  intro s o hmax m f due
  have hm : m < 2 ^ 62 := by omega
  have hm0 : 0 ≤ m := Int.natCast_nonneg _
  refine ⟨fun hdue => ?_, fun hdue => ?_, fun x => devTime_setRate x s⟩
  · rw [servo, run_read]
    exact congrArg (fun a => Act.run a s) (if_pos hdue)
  · obtain ⟨g, hg⟩ : ∃ g, g = clampRate m (f - (s.rd R.SV_KP : Int) * o) := ⟨_, rfl⟩
    have hrun : (servo o).run s = (setRate g).run ((wri R.SV_FREQ f).run s) := by
      rw [servo, run_read, hg]
      exact congrArg (fun a => Act.run a s) (if_neg hdue)
    obtain ⟨hf1, hf2⟩ := clampRate_bounds (x := s.rdi R.SV_FREQ - (s.rd R.SV_KI : Int) * o) hm0 hm
    obtain ⟨hg1, hg2⟩ := clampRate_bounds (x := f - (s.rd R.SV_KP : Int) * o) hm0 hm
    rw [hrun]
    refine ⟨?_, ?_, ?_, fun r hfreq hrate => ?_⟩
    · rw [rdi_of_word (u := (wri R.SV_FREQ f).run s) (by rw [word_setRate, if_neg (by simp)])]
      exact rdi_wri hf1 hf2 s
    · rw [hg]
      exact rdi_wri hg1 hg2 _
    · rw [devTime_setRate]
      exact devTime_congr rfl rfl (by rw [word_wri, if_neg (by simp)])
    · rw [word_setRate, if_neg hrate.symm, word_wri, if_neg hfreq.symm]

end Sys2Proof.Machine
end

section
/-! Link-layer sequence numbers (R419): positions on a circle of 4,095. -/

namespace Sys2Proof.Machine

open Sys2Proof

theorem nextSeq_eq {n : Nat} (hlow : 1 ≤ n) (hhigh : n ≤ 4095) : nextSeq n = n % 4095 + 1 := by
  rw [nextSeq]
  split <;> omega

/-- The value that some steps lead to. -/
theorem repeat_nextSeq {b : Nat} (hlow : 1 ≤ b) (hhigh : b ≤ 4095) (d : Nat) : Nat.repeat nextSeq d b = (b - 1 + d) % 4095 + 1 := by
  induction d with
  | zero => rw [Nat.repeat]; omega
  | succ d ih => rw [Nat.repeat, ih, nextSeq_eq (by omega) (by omega)]; omega

theorem seqAhead_iff (a b : Nat) : seqAhead a b = true ↔ 1 ≤ (a + 4095 - b) % 4095 ∧ (a + 4095 - b) % 4095 ≤ 2047 := by
  simp [seqAhead]

/-- Settles O21. -/
theorem linkSequenceWraps : Obligations.LinkSequenceWraps := by
  refine ⟨fun n => ?_, rfl, rfl, fun n hn => if_neg (by omega), fun a b ha1 ha2 hb1 hb2 => ?_⟩
  · rw [nextSeq]
    split <;> omega
  · simp only [seqAhead_iff, repeat_nextSeq hb1 hb2]
    constructor
    · rintro ⟨h1, h2⟩
      exact ⟨(a + 4095 - b) % 4095, h1, h2, by omega⟩
    · rintro ⟨d, h1, h2, h⟩
      omega

end Sys2Proof.Machine
end

section
/-! The tally's admission (R251, R256, R257): the sub-band of a transmission, and the budget of the accounts that a request draws on. -/

namespace Sys2Proof.Machine

open Sys2Proof

/-! ## Sub-bands -/

/-- The sub-band `b` contains the passband of width `w` around `f`. -/
def State.bandHolds (s : State) (f w b : Nat) : Bool :=
  decide (s.rd (R.SB_LOW b) < s.rd (R.SB_HIGH b)) && decide (2 * s.rd (R.SB_LOW b) + w ≤ 2 * f) && decide (2 * f + w ≤ 2 * s.rd (R.SB_HIGH b))

theorem subBand_eq_find (s : State) (f w : Nat) : s.subBand f w = (List.range 32).find? (s.bandHolds f w) := rfl

theorem bandHolds_iff {s : State} {f w b : Nat} : s.bandHolds f w b = true ↔ s.rd (R.SB_LOW b) < s.rd (R.SB_HIGH b) ∧
    2 * s.rd (R.SB_LOW b) ≤ (2 * f : Int) - w ∧ 2 * f + w ≤ 2 * s.rd (R.SB_HIGH b) := by
  simp only [State.bandHolds, Bool.and_eq_true, decide_eq_true_eq]
  omega

/-- The first number below `n` that passes a test. -/
theorem find?_range_eq_some {n b : Nat} {p : Nat → Bool} :
    (List.range n).find? p = some b ↔ b < n ∧ p b = true ∧ ∀ c < b, ¬ p c = true := by
  rw [List.find?_range_eq_some]
  simp only [List.mem_range, Bool.not_eq_true', Bool.not_eq_true]
  exact ⟨fun ⟨hp, hb, hc⟩ => ⟨hb, hp, hc⟩, fun ⟨hb, hp, hc⟩ => ⟨hp, hb, hc⟩⟩

/-- Settles O22. -/
theorem subBandsAreTheLowestThatContain : Obligations.SubBandsAreTheLowestThatContain := by
  intro s f w contains
  have hcontains (b : Nat) : s.bandHolds f w b = true ↔ contains b := bandHolds_iff
  refine ⟨fun b => ?_, ?_, fun before x hnone => ?_⟩
  · simp only [subBand_eq_find, find?_range_eq_some, hcontains]
  · simp only [subBand_eq_find, List.find?_eq_none, List.mem_range, hcontains]
  · rw [State.judgeTx, hnone]

/-! ## Admission -/

/-- What the entries of a list reserve on an account. -/
def reservedOn (acc : Nat) (ys : List (Nat × Nat × Nat)) : Nat := ((ys.filter fun z => z.1 == acc).map fun z => z.2.2).sum

theorem reservedOn_append_singleton (acc : Nat) (ys : List (Nat × Nat × Nat)) (y : Nat × Nat × Nat) :
    reservedOn acc (ys ++ [y]) = reservedOn acc ys + if y.1 = acc then y.2.2 else 0 := by
  rw [reservedOn, List.filter_append, List.map_append, List.sum_append, reservedOn]
  by_cases h : y.1 = acc <;> simp [h]

/-- The account `acc` bears what a list reserves on it. -/
def State.bears (s : State) (acc : Nat) (ys : List (Nat × Nat × Nat)) : Prop :=
  s.rd (R.AC_OVER acc) ≠ 1 ∧
  s.rd (R.AC_USED acc) + s.rd (R.AC_RESERVED acc) + reservedOn acc ys ≤ s.rd (R.SB_BUDGET (acc % 32)) * 1000

/-- A reservation is within the longest transmission of its sub-band. -/
def State.withinMax (s : State) (y : Nat × Nat × Nat) : Prop :=
  0 < s.rd (R.SB_MAX_TX (y.1 % 32)) → y.2.2 ≤ s.rd (R.SB_MAX_TX (y.1 % 32)) * 1000

/-- A judgement with no refusal has passed the test that would refuse. -/
theorem passed_of_inr {α β : Type} {c : Prop} [Decidable c] {a : α} {e : Sum α β} {b : β} (h : (if c then .inl a else e) = .inr b) :
    ¬ c ∧ e = .inr b := by
  split at h
  next => cases h
  next hc => exact ⟨hc, h⟩

/-- A transmission that is admitted behind others leaves its account within the budget. -/
theorem judgeTx_admits {s : State} {before : List (Nat × Nat × Nat)} {x : TallyTx} {y : Nat × Nat × Nat}
    (h : s.judgeTx before x = .inr y) : s.bears y.1 (before ++ [y]) ∧ s.withinMax y := by
  unfold State.judgeTx at h
  split at h
  next => cases h
  next b hb =>
    have hb32 : b < 32 := List.mem_range.mp (List.mem_of_find?_eq_some hb)
    obtain ⟨hmax, h⟩ := passed_of_inr h
    obtain ⟨-, h⟩ := passed_of_inr h
    obtain ⟨hbudget, h⟩ := passed_of_inr h
    obtain ⟨-, h⟩ := passed_of_inr h
    cases h
    have hband : s.account x.port b % 32 = b := by rw [State.account]; omega
    simp only [State.bears, State.withinMax, reservedOn_append_singleton, hband, if_true]
    rw [← List.sum_eq_foldl] at hbudget
    simp only [reservedOn]
    omega

/-- What the judged transmissions of a request keep: each account bears all that they reserve on it. -/
theorem judgeTxs_admits {s : State} {txs : List TallyTx} {before ys : List (Nat × Nat × Nat)} (h : s.judgeTxs before txs = .inr ys)
    (hbefore : ∀ y ∈ before, s.bears y.1 before ∧ s.withinMax y) :
    ys.length = before.length + txs.length ∧ ∀ y ∈ ys, s.bears y.1 ys ∧ s.withinMax y := by
  induction txs generalizing before with
  | nil => cases h; exact ⟨rfl, hbefore⟩
  | cons x txs ih =>
    rw [State.judgeTxs] at h
    split at h
    next => cases h
    next y hy =>
      obtain ⟨hbears, hmax⟩ := judgeTx_admits hy
      obtain ⟨hlen, hall⟩ := ih h fun z hz => by
        obtain hz | rfl := (List.mem_append.mp hz).imp_right List.mem_singleton.mp
        · obtain ⟨hz, hzmax⟩ := hbefore z hz
          refine ⟨?_, hzmax⟩
          by_cases heq : y.1 = z.1
          · rwa [← heq]
          · rwa [State.bears, reservedOn_append_singleton, if_neg heq]
        · exact ⟨hbears, hmax⟩
      rw [List.length_append] at hlen
      exact ⟨by simpa [Nat.add_assoc, Nat.add_comm 1] using hlen, hall⟩

/-- Settles O23: each admission is judged with all that the request reserves before it, so the last one on an account bounds them all. -/
theorem admittedRequestsStayWithinTheBudget : Obligations.AdmittedRequestsStayWithinTheBudget := by
  intro s txs ys h
  obtain ⟨hlen, hall⟩ := judgeTxs_admits h fun y hy => absurd hy List.not_mem_nil
  refine ⟨by simpa using hlen, fun y hy => ?_⟩
  obtain ⟨⟨hover, hbudget⟩, hmax⟩ := hall y hy
  exact ⟨hover, hbudget, hmax⟩

end Sys2Proof.Machine
end

section
/-! The lottery arbiter (R440): its LFSR, the draw by tickets and the turn by age. -/

namespace Sys2Proof.Machine

open Sys2Proof

/-! ## The LFSR -/

theorem lfsr32_lt (x : Nat) : lfsr32 x < 2 ^ 32 := Nat.mod_lt _ (by decide)

/-- The register moves up by one bit. -/
theorem testBit_succ_lfsr32 (x : Nat) {i : Nat} (hi : i < 31) : (lfsr32 x).testBit (i + 1) = x.testBit i := by
  rw [lfsr32, Nat.testBit_mod_two_pow, decide_eq_true (by omega), Bool.true_and, Nat.testBit_succ]
  congr 1
  omega

/-- The parity of a sum of bits is their xor. -/
theorem decide_add_mod_two (a b : Nat) : decide ((a + b) % 2 = 1) = (decide (a % 2 = 1) ^^ decide (b % 2 = 1)) := by
  rcases Nat.mod_two_eq_zero_or_one a with ha | ha <;> rcases Nat.mod_two_eq_zero_or_one b with hb | hb <;> simp [Nat.add_mod, ha, hb]

/-- The feedback of bits 31, 21, 1 and 0. -/
theorem testBit_zero_lfsr32 (x : Nat) :
    (lfsr32 x).testBit 0 = (x.testBit 31 ^^ x.testBit 21 ^^ x.testBit 1 ^^ x.testBit 0) := by
  have hbit (i : Nat) : x.testBit i = decide (x / 2 ^ i % 2 = 1) := Nat.testBit_eq_decide_div_mod_eq
  rw [lfsr32, Nat.testBit_mod_two_pow, decide_eq_true (by omega), Bool.true_and, Nat.testBit_zero,
    show (2 * x + (x / 2 ^ 31 + x / 2 ^ 21 + x / 2 + x) % 2) % 2 = (x / 2 ^ 31 + x / 2 ^ 21 + x / 2 + x) % 2 by omega,
    decide_add_mod_two, decide_add_mod_two, decide_add_mod_two, hbit, hbit, hbit, hbit, Nat.pow_zero, Nat.div_one, Nat.pow_one,
    Bool.xor_assoc, Bool.xor_assoc]

/-! ## The draw -/

/-- The tickets of some requesters. -/
def ticketSum (l : List (Nat × Nat × Nat)) : Nat := (l.map fun w => w.2.2).sum

/-- A draw below the tickets ends at the requester whose running sum first exceeds it. -/
theorem drawn_spec {r sum : Nat} {l : List (Nat × Nat × Nat)} (hlow : sum ≤ r) (hhigh : r < sum + ticketSum l) :
    ∃ pre w post, l = pre ++ w :: post ∧ drawn r sum l = some w.1 ∧ sum + ticketSum pre ≤ r ∧ r < sum + ticketSum pre + w.2.2 := by
  induction l generalizing sum with
  | nil => simp [ticketSum] at hhigh; omega
  | cons x l ih =>
    rw [drawn]
    split
    next hx => exact ⟨[], x, l, rfl, rfl, by simpa [ticketSum] using hlow, by simpa [ticketSum] using hx⟩
    next hx =>
      obtain ⟨pre, w, post, hl, hdrawn, h1, h2⟩ := ih (Nat.not_lt.mp hx) (by simpa [ticketSum, Nat.add_assoc] using hhigh)
      exact ⟨x :: pre, w, post, by rw [hl, List.cons_append], hdrawn, by simpa [ticketSum, Nat.add_assoc] using h1,
        by simpa [ticketSum, Nat.add_assoc] using h2⟩

/-! ## The longest waiting -/

/-- Requester `a` comes before requester `b` by age: it was posted first, or has the lower number on a tie. -/
def olderThan (a b : Nat × Nat × Nat) : Prop := a.2.1 < b.2.1 ∨ (a.2.1 = b.2.1 ∧ a.1 ≤ b.1)

/-- One requester of the walk for the longest waiting. -/
def olderOf (b y : Nat × Nat × Nat) : Nat × Nat × Nat := if y.2.1 < b.2.1 then y else b

theorem olderThan_trans {a b c : Nat × Nat × Nat} (hab : olderThan a b) (hbc : olderThan b c) : olderThan a c := by
  unfold olderThan at *
  omega

/-- The walk ends at the oldest, as an earlier requester stays against a later one of the same age. -/
theorem foldl_olderOf {b : Nat × Nat × Nat} {l : List (Nat × Nat × Nat)} (h : (b :: l).Pairwise fun x y => x.1 < y.1) :
    l.foldl olderOf b ∈ b :: l ∧ ∀ y ∈ b :: l, olderThan (l.foldl olderOf b) y := by
  induction l generalizing b with
  | nil => exact ⟨List.mem_cons_self, fun y hy => List.mem_singleton.mp hy ▸ .inr ⟨rfl, Nat.le_refl _⟩⟩
  | cons c l ih =>
    obtain ⟨hb, hcl⟩ := List.pairwise_cons.mp h
    obtain ⟨hbc, hbl⟩ := List.forall_mem_cons.mp hb
    rw [List.foldl_cons, olderOf]
    split
    next hage =>
      obtain ⟨hmem, hall⟩ := ih hcl
      refine ⟨List.mem_cons_of_mem b hmem, List.forall_mem_cons.mpr ⟨olderThan_trans (hall c List.mem_cons_self) (.inl hage), hall⟩⟩
    next hage =>
      obtain ⟨hmem, hall⟩ := ih (List.pairwise_cons.mpr ⟨hbl, (List.pairwise_cons.mp hcl).2⟩)
      obtain ⟨hab, hal⟩ := List.forall_mem_cons.mp hall
      have hbc' : olderThan b c := by unfold olderThan; omega
      exact ⟨List.mem_cons.mpr ((List.mem_cons.mp hmem).imp_right (List.mem_cons_of_mem c)),
        List.forall_mem_cons.mpr ⟨hab, List.forall_mem_cons.mpr ⟨olderThan_trans hab hbc', hal⟩⟩⟩

theorem longestWaiting_spec {l : List (Nat × Nat × Nat)} (hne : l ≠ []) (h : l.Pairwise fun x y => x.1 < y.1) :
    ∃ w ∈ l, longestWaiting l = some w.1 ∧ ∀ y ∈ l, olderThan w y := by
  match l, hne with
  | b :: l, _ =>
    obtain ⟨hmem, hall⟩ := foldl_olderOf h
    exact ⟨_, hmem, rfl, hall⟩

/-! ## The decision -/

/-- A decision in terms of its parts. -/
theorem arbDecide_eq (n : Nat) (a : ArbSt) (l : List (Nat × Nat × Nat)) : arbDecide n a l =
    let oldest := ticketSum l == 0 || (a.grants + 1) % n == 0
    (if oldest then longestWaiting l else drawn (lfsr32 a.lfsr % ticketSum l) 0 l, oldest, ⟨lfsr32 a.lfsr, a.grants + 1⟩) := by
  rw [arbDecide, ← List.sum_eq_foldl]
  rfl

/-- Settles O25. -/
theorem lotteryGrantsByTicketsAndAge : Obligations.LotteryGrantsByTicketsAndAge := by
  intro n a waiting _ hne hsorted d tickets
  have hd : d = _ := arbDecide_eq n a waiting
  have hturn : d.2.1 = (ticketSum waiting == 0 || (a.grants + 1) % n == 0) := by rw [hd]
  have hlfsr : d.2.2.lfsr = lfsr32 a.lfsr := by rw [hd]
  refine ⟨by rw [hd], hlfsr ▸ lfsr32_lt _, fun i hi => hlfsr ▸ testBit_succ_lfsr32 _ hi, hlfsr ▸ testBit_zero_lfsr32 _, ?_,
    fun hage => ?_, fun hage => ?_⟩
  · rw [hturn, Bool.or_eq_true, beq_iff_eq, beq_iff_eq]
    rfl
  · obtain ⟨w, hw, hgrant, hall⟩ := longestWaiting_spec hne hsorted
    refine ⟨w, hw, ?_, hall⟩
    rw [hd]
    exact (if_pos (hturn ▸ hage)).trans hgrant
  · have hsome : ticketSum waiting ≠ 0 := by
      rw [hturn, Bool.or_eq_false_iff, beq_eq_false_iff_ne] at hage
      exact hage.1
    obtain ⟨pre, w, post, hl, hgrant, h1, h2⟩ := drawn_spec (Nat.zero_le (lfsr32 a.lfsr % ticketSum waiting))
      (by rw [Nat.zero_add]; exact Nat.mod_lt _ (Nat.pos_of_ne_zero hsome))
    rw [Nat.zero_add] at h1 h2
    refine ⟨pre, w, post, hl, ?_, hlfsr ▸ h1, hlfsr ▸ h2⟩
    rw [hd]
    exact (if_neg (by rw [← hturn, hage]; decide)).trans hgrant

end Sys2Proof.Machine
end

section
/-! Addresses, times and values as words (R8, R65, R67). -/

namespace Sys2Proof.Machine

open Sys2Proof

/-! ## The aperture -/

/-- The offset within an instance, past the object's other digits. -/
theorem apDecode_digits (idx : Nat) {inst off : Nat} (hinst : inst < 256) (hoff : off < 0x1000) :
    apDecode (0x4000000000 + idx * 0x100000 + inst * 0x1000 + off) =
      if off < 0x800 then (⟨idx, inst, off / 8⟩, 0)
      else if off < 0xC00 then (⟨idx, inst, (off - 0x800) / 8⟩, 1) else (⟨idx, inst, (off - 0xC00) / 8⟩, 2) := by
  have hidx : (0x4000000000 + idx * 0x100000 + inst * 0x1000 + off - 0x4000000000) / 0x100000 = idx := by omega
  have hin : (0x4000000000 + idx * 0x100000 + inst * 0x1000 + off - 0x4000000000) / 0x1000 % 256 = inst := by omega
  have hlow : (0x4000000000 + idx * 0x100000 + inst * 0x1000 + off - 0x4000000000) % 0x1000 = off := by omega
  simp only [apDecode, hidx, hin, hlow]

theorem apDecode_plain (idx : Nat) {inst mem : Nat} (hinst : inst < 256) (hmem : mem < 256) :
    apDecode (0x4000000000 + idx * 0x100000 + inst * 0x1000 + mem * 8) = (⟨idx, inst, mem⟩, 0) := by
  rw [apDecode_digits idx hinst (by omega), if_pos (by omega), Nat.mul_div_cancel _ (by decide)]

theorem apDecode_set (idx : Nat) {inst mem : Nat} (hinst : inst < 256) (hmem : mem < 128) :
    apDecode (0x4000000000 + idx * 0x100000 + inst * 0x1000 + mem * 8 + 0x800) = (⟨idx, inst, mem⟩, 1) := by
  rw [Nat.add_assoc _ (mem * 8), apDecode_digits idx hinst (by omega), if_neg (by omega), if_pos (by omega), Nat.add_sub_cancel,
    Nat.mul_div_cancel _ (by decide)]

theorem apDecode_clear (idx : Nat) {inst mem : Nat} (hinst : inst < 256) (hmem : mem < 128) :
    apDecode (0x4000000000 + idx * 0x100000 + inst * 0x1000 + mem * 8 + 0xC00) = (⟨idx, inst, mem⟩, 2) := by
  rw [Nat.add_assoc _ (mem * 8), apDecode_digits idx hinst (by omega), if_neg (by omega), if_neg (by omega), Nat.add_sub_cancel,
    Nat.mul_div_cancel _ (by decide)]

/-- Settles O8: index, instance and member are digits of the offset, and the aliases stand above the members. -/
theorem apertureAddressesNameTheirMembers : Obligations.ApertureAddressesNameTheirMembers := by
  rintro ⟨idx, inst, mem⟩ op hidx hinst hop hmem
  dsimp only at hidx hinst hmem
  match op, hop with
  | 0, _ =>
    have hmem : mem < 256 := hmem
    have haddr : apAddress ⟨idx, inst, mem⟩ 0 = 0x4000000000 + idx * 0x100000 + inst * 0x1000 + mem * 8 := rfl
    exact ⟨rfl, by omega, by omega, apDecode_plain idx hinst hmem⟩
  | 1, _ =>
    have hmem : mem < 128 := hmem
    have haddr : apAddress ⟨idx, inst, mem⟩ 1 = 0x4000000000 + idx * 0x100000 + inst * 0x1000 + mem * 8 + 0x800 := rfl
    exact ⟨rfl, by omega, by omega, apDecode_set idx hinst hmem⟩
  | 2, _ =>
    have hmem : mem < 128 := hmem
    have haddr : apAddress ⟨idx, inst, mem⟩ 2 = 0x4000000000 + idx * 0x100000 + inst * 0x1000 + mem * 8 + 0xC00 := rfl
    exact ⟨rfl, by omega, by omega, apDecode_clear idx hinst hmem⟩

/-! ## Time values -/

/-- Settles O9: seconds, nanoseconds and fraction are digits of device time. -/
theorem timeValuesReadBack : Obligations.TimeValuesReadBack := by
  intro sec nsf hns
  simp only [t112, ofT112, uSec, uNs, uFrac, fld, Nat.reduceSub, Nat.reduceAdd, Nat.reducePow, Nat.reduceMul]
  rw [Nat.mod_eq_of_lt (show nsf / 65536 < 4294967296 by omega)]
  congr 1
  · omega
  · congr 1
    omega

/-! ## Items -/

/-- The word that an item leaves in its member. -/
def itemWord (op : Nat) (old v : Word) : Word := if op = 1 then old ||| v else if op = 2 then old &&& ~~~v else v

theorem run_writeItems_one (s : State) (r : Ref) (op : Nat) (v : Word) :
    (writeItems [⟨r, op, v⟩]).run s = (Eff.wr r (itemWord op (s.word r) v)).apply s := rfl

/-- Settles O10: an item is one word written. -/
theorem itemsChangeTheirMemberAlone : Obligations.ItemsChangeTheirMemberAlone := by
  intro s r v
  have hsame (op : Nat) : ((writeItems [⟨r, op, v⟩]).run s).word r = itemWord op (s.word r) v := by
    rw [run_writeItems_one, word_apply_wr, if_pos rfl]
  refine ⟨hsame 0, hsame 1, hsame 2, fun op r' hr => ?_, fun _ => rfl⟩
  rw [run_writeItems_one, word_apply_wr, if_neg hr.symm]

/-! ## Reserved bits -/

/-- The value check of a row of bits. -/
theorem holds_bits {row : Row} (hty : row.ty = .bits) {op : Nat} (hop : op ≠ 2) (v : Word) :
    row.holds op [v] = (band v.toNat row.hi.toNat == v.toNat) := by
  simp [Row.holds, hty, hop]

/-- A number is within a mask when it has no bit outside it. -/
theorem and_eq_self_iff {x y : Nat} : x &&& y = x ↔ ∀ i, x.testBit i = true → y.testBit i = true := by
  constructor
  · intro h i hi
    rw [← h, Nat.testBit_and, Bool.and_eq_true] at hi
    exact hi.2
  · intro h
    refine Nat.eq_of_testBit_eq fun i => ?_
    rw [Nat.testBit_and]
    cases hx : x.testBit i with
    | false => rfl
    | true => rw [h i hx, Bool.and_self]

/-- Settles O11. -/
theorem reservedBitsFailWithRange : Obligations.ReservedBitsFailWithRange := by
  intro row v hty
  refine ⟨fun op hop => ?_, rfl, fun s staged op t m hfail => ?_⟩
  · rw [holds_bits hty hop, beq_iff_eq]
    exact and_eq_self_iff
  · have hrange : failIf (!([(row, m, [v])].all fun x : Row × Nat × List Word => x.1.holds op x.2.2)) stRange = stRange := by
      simp [hfail, failIf]
    rw [State.valueStatus, hrange, firstOf_cons, if_neg (by decide)]

/-! ## Accesses of a frozen master -/

/-- Settles O18. -/
theorem frozenMastersAccessesWait : Obligations.FrozenMastersAccessesWait := by
  intro s m r op v x hfrozen
  cases hup : s.masterUp m with
  | false => simp [apWrite, apRead, hup]
  | true => exact ⟨by simp [apWrite, hup, hfrozen]; rfl, by simp [apRead, hup, hfrozen]; rfl⟩

end Sys2Proof.Machine
end

section
/-! Where a command completes: its own action, replaced by one with the same run from the state in which all that is due has come. -/

namespace Sys2Proof.Machine

open Sys2Proof

/-- A command without a guard completes with any action that runs as its own does. -/
theorem done_completes {s₀ s : State} {t : Nat} {a b : Act} (hs : s = s₀.ready t) (h : a.run s = b.run s) :
    done t (work a) s₀ = .next (s₀.after t b) := by
  rw [done_after, after_congr (hs ▸ h)]

/-- A command with a guard, when its operands name instances that the device has. -/
theorem doneIf_completes {s₀ s : State} {t : Nat} {ok : Bool} {a b : Act} (hs : s = s₀.ready t) (g : ok = true)
    (h : a.run s = b.run s) : doneIf ok t (work a) s₀ = .next (s₀.after t b) := by
  rw [doneIf_after ok a s₀ t g, after_congr (hs ▸ h)]

/-- A command that acts only while its block runs. -/
theorem doneIf_whenUp_completes {s₀ s : State} {t n : Nat} {ok : Bool} {a b : Act} (hs : s = s₀.ready t) (g : ok = true)
    (hup : s.blockUp n = true) (h : a.run s = b.run s) : doneIf ok t (work (whenUp n a)) s₀ = .next (s₀.after t b) :=
  doneIf_completes hs g ((run_whenUp n a s hup).trans h)

theorem done_whenUp_completes {s₀ s : State} {t n : Nat} {a b : Act} (hs : s = s₀.ready t)
    (hup : s.blockUp n = true) (h : a.run s = b.run s) : done t (work (whenUp n a)) s₀ = .next (s₀.after t b) :=
  done_completes hs ((run_whenUp n a s hup).trans h)

/-- A command that stores a member completes with the store. -/
theorem doneIf_stores_completes {s₀ s : State} {t : Nat} {ok : Bool} {w : Who} {x : Option Nat} {c : Ref} {v : Word} (hs : s = s₀.ready t)
    (g : ok = true) (h : s.stores w c v = true) :
    doneIf ok t (work (writeMember w x c v)) s₀ = .next (s₀.after t (acts [storeNow c 0 v, answer w 0 []])) :=
  doneIf_completes hs g (run_writeMember_stores w x c v s h)

/-- A command member that is written completes with the command's own effect in the state in which the member reads OK. -/
theorem doneIf_takes_completes {s₀ s : State} {t : Nat} {ok : Bool} {w : Who} {x : Option Nat} {c : Ref} {v : Word} {a : Act}
    (hs : s = s₀.ready t) (g : ok = true) (h : s.takes w c v = true)
    (ha : (command w x c v.toNat).run ((wr c 0).run s) = a.run ((wr c 0).run s)) :
    doneIf ok t (work (writeMember w x c v)) s₀ = .next (s₀.after t (acts [wr c 0, a, answer w 0 []])) :=
  doneIf_completes hs g (run_writeMember_command w x c v _ a s h rfl ha)

/-! ## TAP instructions -/

/-- A quiet state stays quiet under a change of the TAP, so nothing follows it. -/
theorem exec_tap_quiet {s : State} {t : Nat} (hcalm : s.calm t = true) (hheld : s.eng.txn.behind = []) {a : Act}
    (hnotes : (a.run (s.tick t)).eng.notes = s.eng.notes) (htxn : (a.run (s.tick t)).eng.txn = s.eng.txn) :
    done t (work a) s = .next (a.run (s.tick t)) := by
  have hready := ready_calm s t hcalm
  have hquiet : s.eng.notes = [] := by
    simp only [State.calm, Bool.and_eq_true, List.isEmpty_iff] at hcalm
    exact hcalm.2
  rw [done_after, after_quiet a s t (by rw [hready, hnotes, hquiet]) (by rw [hready, htxn, hheld]), hready]

/-- Settles O32: in a quiet state a TAP command is its own action, and the output of PA_EN is gated by the instruction. -/
theorem tapInstructionsChangeTheTapAlone : Obligations.TapInstructionsChangeTheTapAlone := by
  intro s t hcalm hheld
  refine ⟨exec_tap_quiet hcalm hheld rfl rfl, fun new => exec_tap_quiet hcalm hheld (a := tapPreload new) rfl rfl,
    exec_tap_quiet hcalm hheld rfl rfl, exec_tap_quiet hcalm hheld rfl rfl, exec_tap_quiet hcalm hheld rfl rfl, exec_tap_quiet hcalm hheld rfl rfl,
    exec_tap_quiet hcalm hheld rfl rfl, exec_tap_quiet hcalm hheld rfl rfl, fun s' p htap => ?_⟩
  have hgate : [3, 4, 5].contains s'.eng.flt.tap = true := List.contains_iff_mem.mpr htap
  rw [State.paEnPin, hgate, Bool.not_true, Bool.and_false]

/-! ## HELLO -/

/-- The fields of a word put together from four octets. -/
theorem fld_octets {b3 b2 b1 b0 : Nat} (h3 : b3 < 256) (h2 : b2 < 256) (h1 : b1 < 256) (h0 : b0 < 256) :
    fld (b3 * 2 ^ 24 + b2 * 2 ^ 16 + b1 * 2 ^ 8 + b0) 31 24 = b3 ∧ fld (b3 * 2 ^ 24 + b2 * 2 ^ 16 + b1 * 2 ^ 8 + b0) 23 16 = b2 ∧
    fld (b3 * 2 ^ 24 + b2 * 2 ^ 16 + b1 * 2 ^ 8 + b0) 15 8 = b1 ∧ fld (b3 * 2 ^ 24 + b2 * 2 ^ 16 + b1 * 2 ^ 8 + b0) 7 0 = b0 := by
  simp only [fld, Nat.reduceSub, Nat.reduceAdd]
  omega

theorem findSome?_cons_or {α β : Type} (f : α → Option β) (x : α) (l : List α) : (x :: l).findSome? f = (f x).or (l.findSome? f) := by
  rw [List.findSome?_cons]
  cases f x <;> rfl

/-- The first of four offers that yields a version. -/
theorem chooseVersion_octets {b3 b2 b1 b0 : Nat} (h3 : b3 < 256) (h2 : b2 < 256) (h1 : b1 < 256) (h0 : b0 < 256) :
    chooseVersion (b3 * 2 ^ 24 + b2 * 2 ^ 16 + b1 * 2 ^ 8 + b0) =
      (((versionOf b3).or (versionOf b2)).or (versionOf b1)).or (versionOf b0) := by
  obtain ⟨e3, e2, e1, e0⟩ := fld_octets h3 h2 h1 h0
  rw [chooseVersion, e3, e2, e1, e0, findSome?_cons_or, findSome?_cons_or, findSome?_cons_or, findSome?_cons_or, List.findSome?_nil,
    Option.or_none, Option.or_assoc, Option.or_assoc]

/-- A sound HELLO on an open transport is judged by `hello?`. -/
theorem run_ddpRow_hello {s : State} {msg : DdpMsg} (hopen : s.transportOpen msg = true) (hlen : 2 ≤ msg.words.length)
    (hsession : msg.session = 0) (hparses : msg.parses = true) (htype : msg.type = tyHello) (hflags : msg.flags = 0)
    (hsize : msg.size ≤ sizeLimit msg.transport) : (ddpRow tyHello msg).run s = (hello? msg).run s := by
  have hlong : ¬ msg.words.length < 2 := Nat.not_lt.mpr hlen
  simp [ddpRow, ddpRx, htype, hopen, hlong, hsession, hparses, hflags, hsize]

/-- A HELLO with a fault is answered with it. -/
theorem run_hello?_fault {s : State} {msg : DdpMsg} (hpayload : msg.payload.length = 4) {st : Nat} (hst : st ≠ 0)
    (hfault : ∀ key credits, s.helloFault msg (chooseVersion (msg.payload.getD 2 0).toNat) key credits = st) :
    (hello? msg).run s = (replyError msg st).run s := by
  rw [hello?, run_read, if_neg (not_not_intro hpayload)]
  simp only [hfault, if_pos hst]

/-- The version is the first fault that is looked for. -/
theorem helloFault_version {s : State} {msg : DdpMsg} {version : Option Nat}
    (h : version = none ∨ ∃ v, version = some v ∧ v / 16 = 2 ∧ s.rd R.LEGACY_EN = 0) (key credits : Nat) :
    s.helloFault msg version key credits = stVersion := by
  have hbad : (version.isNone || (version.getD 0 / 16 == 2 && s.rd R.LEGACY_EN == 0)) = true := by
    obtain rfl | ⟨v, rfl, hv, hlegacy⟩ := h
    · rfl
    · simp [hv, hlegacy]
  have hfirst : failIf (version.isNone || (version.getD 0 / 16 == 2 && s.rd R.LEGACY_EN == 0)) stVersion = stVersion := by
    rw [hbad]; rfl
  rw [State.helloFault, hfirst, firstOf_cons, if_neg (by decide)]

/-- Settles O33. -/
theorem sessionsTakeTheFirstVersionOffered : Obligations.SessionsTakeTheFirstVersionOffered := by
  refine ⟨fun b3 b2 b1 b0 h3 h2 h1 h0 => chooseVersion_octets h3 h2 h1 h0, rfl, rfl, rfl, rfl,
    fun s₀ s t msg hs hok hopen hlen hsession hparses htype hflags hsize hpayload hversion => ?_⟩
  refine doneIf_completes hs hok ?_
  rw [run_ddpRow_hello hopen hlen hsession hparses htype hflags hsize]
  exact run_hello?_fault hpayload (by decide) (helloFault_version hversion)

end Sys2Proof.Machine
end

section

/-! ## A command that a plain write starts -/

namespace Sys2Proof.Machine
open Sys2Proof

/-- A write that starts its command runs the command's action. -/
theorem doneIf_command_completes {s₀ s : State} {t : Nat} {ok : Bool} {w : Who} {x : Option Nat} {c : Ref} {v : Word} {a b : Act}
    (hs : s = s₀.ready t) (g : ok = true) (h : s.takes w c v = true)
    (ha : (command w x c v.toNat).run ((wr c 0).run s) = a.run ((wr c 0).run s))
    (hb : a.run ((wr c 0).run s) = b.run ((wr c 0).run s)) :
    doneIf ok t (work (writeMember w x c v)) s₀ = .next (s₀.after t (acts [wr c 0, b, answer w 0 []])) :=
  doneIf_takes_completes hs g h (ha.trans hb)

/-- The same for a master's write, through the address `r`. -/
theorem doneIf_starts_completes {s₀ s : State} {t : Nat} {ok : Bool} {m : Nat} {x : Option Nat} {r c : Ref} {v : Word} {a b : Act}
    (hs : s = s₀.ready t) (g : ok = true) (h : s.starts (.ap m) r c v = true)
    (ha : (command (.ap m) x c v.toNat).run ((wr c 0).run s) = a.run ((wr c 0).run s))
    (hb : a.run ((wr c 0).run s) = b.run ((wr c 0).run s)) :
    doneIf ok t (work (apWrite m x r 0 v)) s₀ = .next (s₀.after t (acts [wr c 0, b, answer (.ap m) 0 []])) :=
  doneIf_completes hs g ((run_apWrite_starts m x r c v s h).trans (by simp only [run_acts_cons, ha, hb]))

end Sys2Proof.Machine
end

section

/-! ## Requests in the queues of the crypto engines -/

namespace Sys2Proof.Machine
open Sys2Proof

/-- A named request whose turn it is passes the turn on and has its effect. -/
theorem doneIf_atTurn_completes {s₀ s : State} {t : Nat} {ok : Bool} {j : Job} {q : Nat} {turn : Nat × Nat} {a b : Act}
    (hs : s = s₀.ready t) (g : ok = true) (h : s.nextJob = some (q, j, turn))
    (hab : a.run ((setKeys fun e => { e with turn := turn }).run s) = b.run ((setKeys fun e => { e with turn := turn }).run s)) :
    doneIf ok t (work (atTurn j a)) s₀ = .next (s₀.after t (acts [setKeys fun e => { e with turn := turn }, b])) :=
  doneIf_completes hs g ((run_atTurn j a s q turn h).trans (by simp only [run_acts_cons, hab]))

theorem done_atTurn_completes {s₀ s : State} {t : Nat} {j : Job} {q : Nat} {turn : Nat × Nat} {a b : Act}
    (hs : s = s₀.ready t) (h : s.nextJob = some (q, j, turn))
    (hab : a.run ((setKeys fun e => { e with turn := turn }).run s) = b.run ((setKeys fun e => { e with turn := turn }).run s)) :
    done t (work (atTurn j a)) s₀ = .next (s₀.after t (acts [setKeys fun e => { e with turn := turn }, b])) :=
  done_completes hs ((run_atTurn j a s q turn h).trans (by simp only [run_acts_cons, hab]))

end Sys2Proof.Machine
end

section

/-! ## Reads of one member -/

namespace Sys2Proof.Machine
open Sys2Proof

section
variable {w : Who} {r : Ref} {k : Word → Act} {row : Row} {s : State}

/-- A read of the lowest member of a value reads the object. -/
theorem run_readMember_lowest (hrow : row? r = some row) (hcls : row.cls ≠ .wo) (hlowest : row.lowest r = true) :
    (readMember w r k).run s = (acts [readFirst r, .read fun s => acts [onlyIf (decide (1 < row.span r)) (latchRest w r (row.span r)),
      readEffect row r, k (BitVec.ofNat 64 (s.live r))]]).run s := by
  rw [readMember, run_read, hrow]
  exact congrArg (fun a => Act.run a s) ((if_neg hcls).trans (if_pos hlowest))

/-- A read of another member of a value shows what the lowest left for the reader. -/
theorem run_readMember_kept {e : (Who × Ref) × Word} (hrow : row? r = some row) (hcls : row.cls ≠ .wo) (hlowest : row.lowest r = false)
    (hkept : s.eng.txn.snaps.find? (fun e => e.1.1 == w && e.1.2 == r) = some e) : (readMember w r k).run s = (k e.2).run s := by
  rw [readMember, run_read, hrow]
  refine congrArg (fun a => Act.run a s) ((if_neg hcls).trans ((if_neg (by simp [hlowest])).trans ?_))
  rw [hkept]

end

/-- The objects whose read-clear members have an effect of their own are not read-cleared by the default rule. -/
theorem readEffect_clears {row : Row} {q : Ref} (hcls : row.cls = .rc) (hwidth : row.width = 1)
    (hplain : q.idx ∉ [0x0304, 0x0306, 0x0390, 0x3100, 0x4011, 0x5210, 0x7010]) : readEffect row q = onlyIf true (wrs q [0]) := by
  simp only [List.mem_cons, List.not_mem_nil, or_false, not_or] at hplain
  obtain ⟨h1, h2, h3, h4, h5, h6, h7⟩ := hplain
  unfold readEffect
  split <;> simp_all

theorem readFirst_plain {q : Ref} (h306 : q.idx ≠ 0x0306) (h3100 : q.idx ≠ 0x3100) (h5210 : q.idx ≠ 0x5210) : readFirst q = .skip := by
  simp [readFirst, h306, h3100, h5210]

theorem poppedWith_plain {q : Ref} (h306 : q.idx ≠ 0x0306) (h5210 : q.idx ≠ 0x5210) : poppedWith q = false := by
  simp [poppedWith, h306, h5210]

theorem span_plain {row : Row} {q : Ref} (h306 : q.idx ≠ 0x0306) (h5210 : q.idx ≠ 0x5210) : row.span q = row.width := by
  simp [Row.span, h306, h5210]

/-! ## Accesses -/

/-- Settles O34: a write that passes its checks goes to its member, a read takes the member's value and then its effect. -/
theorem accessesComplete : Obligations.AccessesComplete := by
  intro s₀ s t hs
  refine ⟨?_, ?_, ?_, ?_, ?_, ?_, ?_, ?_, ?_, ?_, ?_, ?_, ?_⟩
  -- OBJECT_WRITE
  · intro r m c v g hkeeps
    exact doneIf_completes hs g (run_apWrite_keeps m none r c 0 v s hkeeps)
  · intro r m c v g hstarts
    exact doneIf_completes hs g (run_apWrite_starts m none r c v s hstarts)
  · intro r vals m g
    exact doneIf_completes hs g rfl
  · rintro r vals k u vs _ g hopen haccepted rfl
    refine doneIf_completes hs g ?_
    rw [writeItem, run_read]
    simp only [hopen, beq_self_eq_true, run_onlyIf_true]
    exact run_directWrite _ none _ _ _ s u vs haccepted
  -- SET_ALIAS_WRITE
  · intro m r v c g hkeeps
    exact doneIf_completes hs g (run_apWrite_keeps m none r c 1 v s hkeeps)
  -- CLEAR_ALIAS_WRITE
  · intro m r v c g hkeeps
    exact doneIf_completes hs g (run_apWrite_keeps m none r c 2 v s hkeeps)
  -- APERTURE_ERROR
  · intro m addr size write g hlow hhigh hbad hfrozen hup
    refine doneIf_completes hs g ?_
    have : (size == 8 && addr % 8 == 0) = false := by
      rcases hbad with h | h <;> simp [h]
    simp only [apBad, run_read, hlow, hhigh, this, hfrozen, hup, decide_true,
      Bool.false_and, Bool.and_self, Bool.not_false, run_onlyIf_true, apError]
  · intro m addr size write g hlow hhigh hnone hfrozen hup
    refine doneIf_completes hs g ?_
    simp only [apBad, run_read, hlow, hhigh, hnone, hfrozen, hup, decide_true, Bool.and_false, Bool.and_self, Bool.not_false, run_onlyIf_true, apError]
  -- AGENT_ACCESS_TIMEOUT
  · rintro w _ _ _ _ g rfl rfl rfl rfl hnone
    refine doneIf_completes hs g ?_
    rw [accessTimeout, agentTimeout, run_read]
    exact congrArg (fun a => Act.run a s) (if_pos hnone)
  · rintro w _ _ _ _ g rfl rfl rfl rfl hsome
    refine doneIf_completes hs g ?_
    rw [accessTimeout, agentTimeout, run_read]
    exact congrArg (fun a => Act.run a s) (if_neg hsome)
  -- WIDE_VALUE_READ
  · intro m r q row g hreads hrow hcls hlowest
    exact doneIf_completes hs g ((run_apRead m r q s hreads).trans (run_readMember_lowest hrow hcls hlowest))
  · intro m r q row e g hreads hrow hcls hlowest hkept
    exact doneIf_completes hs g ((run_apRead m r q s hreads).trans (run_readMember_kept hrow hcls hlowest hkept))
  -- READ_CLEARS
  · intro m r q row g hreads hrow hcls hwidth hplain
    have hothers := hplain
    simp only [List.mem_cons, List.not_mem_nil, or_false, not_or] at hothers
    obtain ⟨-, h306, -, h3100, -, h5210, -⟩ := hothers
    have hlowest : row.lowest q = true := by
      rw [Row.lowest, poppedWith_plain h306 h5210, hwidth, Nat.mod_one]
      rfl
    refine doneIf_completes hs g ((run_apRead m r q s hreads).trans
      ((run_readMember_lowest hrow (by rw [hcls]; decide) hlowest).trans ?_))
    rw [readFirst_plain h306 h3100 h5210, span_plain h306 h5210, hwidth, readEffect_clears hcls hwidth hplain]
    rfl

end Sys2Proof.Machine
end

section

/-! ## Requests by their type -/

namespace Sys2Proof.Machine
open Sys2Proof

/-- A message of type `ty` that an open session serves at once executes as `b`. -/
theorem message_completes {s₀ s : State} {t : Nat} {ok : Bool} {msg c : DdpMsg} {k ty : Nat} {b : Act} (hs : s = s₀.ready t)
    (g : ok = true) (h : s.asks k msg = some c) (htype : c.type = ty)
    (hb : ∀ s', s'.eng.txn = s.eng.txn → (∀ r, r ≠ R.S_REQUESTS k → r.idx ≠ 0x4040 → s'.rd r = s.rd r) →
      requestFault (s'.rd (R.S_VERSION k)) c = 0 → (execute k c).run s' = b.run s') :
    doneIf ok t (work (ddpRow ty msg)) s₀ = .next (s₀.after t (served k c b)) :=
  doneIf_completes hs g (htype ▸ run_ddpRow_served k msg c b s h hb)

section
variable {k : Nat} {c : DdpMsg} {s : State} (hsound : requestFault (s.rd (R.S_VERSION k)) c = 0)
include hsound

theorem run_execute_close (h : c.type = tyClose) : (execute k c).run s = (closeSession k 0 (some c.seq)).run s := by
  rw [execute, run_read, if_neg (not_not_intro hsound), h]
  rfl

theorem run_execute_keepalive (h : c.type = tyKeepalive) : (execute k c).run s = (respond k c.seq 0x09 0 0 []).run s := by
  rw [execute, run_read, if_neg (not_not_intro hsound), h]
  rfl

theorem run_execute_open (h : c.type = tyOpen) : (execute k c).run s =
    (openTxn (.ddp k) (fun h => respond k c.seq 0x21 0 h [BitVec.ofNat 64 h]) (respond k c.seq 0x21 stResource 0 [0])).run s := by
  rw [execute, run_read, if_neg (not_not_intro hsound), h]
  rfl

theorem run_execute_commit (h : c.type = tyCommit) : (execute k c).run s = (ddpCommit k c.seq c).run s := by
  rw [execute, run_read, if_neg (not_not_intro hsound), h]
  rfl

theorem run_execute_abort (h : c.type = tyAbort) : (execute k c).run s = (ddpAbort k c.seq c).run s := by
  rw [execute, run_read, if_neg (not_not_intro hsound), h]
  rfl

theorem run_execute_subscribe (h : c.type = tySubscribe) : (execute k c).run s = (acts [
    updSess k fun q => { q with filters := c.payload.map fun w => (fld w.toNat 63 48, fld w.toNat 47 32) },
    respond k c.seq 0x31 0 0 []]).run s := by
  rw [execute, run_read, if_neg (not_not_intro hsound), h]
  rfl

theorem run_execute_read (h : c.type = tyRead) : (execute k c).run s = (.read fun s =>
      let items := readItemsOf (s.rd (R.S_VERSION k)) c.payload
      if sizeLimit (s.rd (R.S_TRANSPORT k)) < readSize k items s then respond k c.seq tyError stTooBig 0 []
      else if bit? c.flags 6 then atomicRead k c.seq items
      else runOn ⟨k, c.seq, tyRead, items, []⟩ : Act).run s := by
  rw [execute, run_read, if_neg (not_not_intro hsound), h]
  rfl

/-- WRITE, SET_BITS and CLEAR_BITS stage their items, write them as one, or write them one after another. -/
theorem run_execute_write (h : c.type = tyWrite ∨ c.type = tySet ∨ c.type = tyClear) : (execute k c).run s = (.read fun s =>
      let items := (writeItemsOf (s.rd (R.S_VERSION k)) (opOf c.type) c.payload.length c.payload).getD []
      if c.txn ≠ 0 then stageItems k c.seq c.txn items []
      else if bit? c.flags 6 then atomicWrite k c.seq items
      else runOn ⟨k, c.seq, c.type, items, []⟩ : Act).run s := by
  rw [execute, run_read, if_neg (not_not_intro hsound)]
  rcases h with h | h | h <;> rw [h] <;> rfl

end

/-! ## The handshake -/

/-- With its period not over, a session stays. -/
theorem run_keepaliveTimeout_alive {s : State} {k : Nat} (h : s.alive k = true) : (keepaliveTimeout k).run s = s := by
  rw [State.alive] at h
  rw [keepaliveTimeout, run_read]
  split
  · rfl
  · next q hq =>
    rw [hq] at h
    have : decide (q.heard + 3 * q.period ≤ s.now) = false := decide_eq_false (by simpa using h)
    rw [this, run_onlyIf_false]

/-- An AUTH on a session that is offered is judged by `auth`. -/
theorem run_ddpRow_auth {s : State} {msg : DdpMsg} {k : Nat} (hopen : s.transportOpen msg = true) (hlen : 2 ≤ msg.words.length)
    (hsession : msg.session ≠ 0)
    (hslot : (List.range 64).find? (fun k => s.rd (R.S_STATE k) != 0 && s.rd (R.S_ID k) == msg.session) = some k)
    (htransport : s.rd (R.S_TRANSPORT k) = msg.transport) (hbind : s.rd (R.S_BIND k) = msg.bind)
    (hpeer : msg.transport ≠ 0 ∨ (s.word (R.S_PEER k 0) = msg.peerHi ∧ s.word (R.S_PEER k 1) = msg.peerLo))
    (halive : s.alive k = true) (hstate : s.rd (R.S_STATE k) = 1) (hparses : msg.parses = true) (htype : msg.type = tyAuth) :
    (ddpRow tyAuth msg).run s = (auth k msg).run s := by
  have hbound : (s.rd (R.S_TRANSPORT k) == msg.transport && s.rd (R.S_BIND k) == msg.bind &&
      (msg.transport != 0 || (s.word (R.S_PEER k 0) == msg.peerHi && s.word (R.S_PEER k 1) == msg.peerLo))) = true := by
    simpa [htransport, hbind] using hpeer
  rw [ddpRow, if_neg (fun h => h.1 htype), ddpRx, run_read]
  simp only [hopen, Nat.not_lt.mpr hlen, hsession, hslot, hbound, Bool.not_true, Bool.false_eq_true, if_false, run_seq, run_read,
    run_keepaliveTimeout_alive halive, hstate, hparses, htype, and_self, if_true]

/-- Settles O35: a message is served by its type once its session has taken it; HELLO and AUTH make the session. -/
theorem messagesComplete : Obligations.MessagesComplete := by
  intro s₀ s t hs
  refine ⟨?_, ?_, ?_, ?_, ?_, ?_, ?_, ?_, ?_, ?_, ?_, ?_, ?_⟩
  -- HELLO
  · rintro msg v _ _ k _ _ _ g hopen hlen hsession hparses htype hflags hsize hpayload hversion rfl rfl hfault hslot rfl rfl rfl
    refine doneIf_completes hs g ?_
    rw [run_ddpRow_hello hopen hlen hsession hparses htype hflags hsize, hello?, run_read, if_neg (not_not_intro hpayload)]
    simp only [hversion, hfault, hslot, Option.getD_some, ne_eq, not_true_eq_false, if_false]
  -- AUTH
  · rintro msg k q _ _ _ g hopen hlen hsession hslot htransport hbind hpeer halive hstate hparses htype hpayload hsess hsoon rfl rfl rfl
    refine doneIf_completes hs g ?_
    rw [run_ddpRow_auth hopen hlen hsession hslot htransport hbind hpeer halive hstate hparses htype, auth, run_read]
    simp only [hsess, Nat.not_lt.mpr hsoon, hpayload, ne_eq, not_true_eq_false, if_false]
  -- CLOSE
  · intro msg k c g hasks htype
    exact message_completes hs g hasks htype fun s' _ _ hsound => run_execute_close hsound htype
  -- KEEPALIVE
  · intro msg k c g hasks htype
    exact message_completes hs g hasks htype fun s' _ _ hsound => run_execute_keepalive hsound htype
  -- READ
  · intro msg k c g hasks htype
    exact message_completes hs g hasks htype fun s' _ _ hsound => run_execute_read hsound htype
  -- WRITE
  · intro msg k c g hasks htype
    refine message_completes hs g hasks htype fun s' _ _ hsound => ?_
    rw [run_execute_write hsound (.inl htype), htype]
    rfl
  -- SET_BITS
  · intro msg k c g hasks htype
    refine message_completes hs g hasks htype fun s' _ _ hsound => ?_
    rw [run_execute_write hsound (.inr (.inl htype)), htype]
    rfl
  -- CLEAR_BITS
  · intro msg k c g hasks htype
    refine message_completes hs g hasks htype fun s' _ _ hsound => ?_
    rw [run_execute_write hsound (.inr (.inr htype)), htype]
    rfl
  -- TXN_OPEN
  · intro msg k c g hasks htype
    exact message_completes hs g hasks htype fun s' _ _ hsound => run_execute_open hsound htype
  -- TXN_COMMIT
  · intro msg k c x g hasks htype htxn hwho hstate hlink
    refine message_completes hs g hasks htype fun s' heng hrd hsound => ?_
    have htxn' : s'.txn? c.txn = some x := by rw [State.txn?, heng]; exact htxn
    have hstate' : s'.rd (R.T_STATE c.txn) = 1 := (hrd _ (by simp) (by simp)).trans hstate
    have hlink' : bit? (s'.rd (R.T_LINK c.txn)) 11 = false := by rw [hrd _ (by simp) (by simp)]; exact hlink
    rw [run_execute_commit hsound htype, ddpCommit, run_read]
    simp only [htxn', hwho, hstate', hlink', ne_eq, not_true_eq_false, Bool.false_eq_true, or_self, if_false]
  -- TXN_ABORT
  · intro msg k c x g hasks htype htxn hwho hfree
    refine message_completes hs g hasks htype fun s' heng hrd hsound => ?_
    have htxn' : s'.txn? c.txn = some x := by rw [State.txn?, heng]; exact htxn
    have hfree' : ¬ (3 ≤ s'.rd (R.T_STATE c.txn) ∧ bit? (s'.rd (R.T_LINK c.txn)) 11 = true) := by
      rw [hrd _ (by simp) (by simp), hrd (R.T_LINK c.txn) (by simp) (by simp)]
      rintro ⟨hlate, hlinked⟩
      rcases hfree with h | h
      · omega
      · rw [h] at hlinked
        cases hlinked
    rw [run_execute_abort hsound htype, ddpAbort, run_read]
    simp only [htxn', hwho, ne_eq, not_true_eq_false, if_false, if_neg hfree']
  -- SUBSCRIBE
  · intro msg k c g hasks htype
    exact message_completes hs g hasks htype fun s' _ _ hsound => run_execute_subscribe hsound htype
  -- MBX_DOORBELL
  · rintro w k msg bad rspBad _ _ g rfl rfl htakes hidle
    refine doneIf_completes hs g ?_
    simp only [run_acts_cons, run_acts_nil]
    obtain ⟨u, hu⟩ : ∃ u, u = (setHost fun g => { g with rspBad := rspBad }).run ((hostMemory msg bad).run s) := ⟨_, rfl⟩
    rw [← hu] at htakes hidle ⊢
    have hidle' : ((wr (R.MBX_DOORBELL k) 0).run u).rd (R.MBX_STATUS k) ≠ 1 := by
      rw [run_wr, rd_apply_wr, if_neg (by simp)]
      exact hidle
    have hring : (doorbell k).run ((wr (R.MBX_DOORBELL k) 0).run u) =
        (acts [wr (R.MBX_STATUS k) 1, note (.mailbox k)]).run ((wr (R.MBX_DOORBELL k) 0).run u) := by
      rw [doorbell, run_read, if_neg hidle']
    simpa only [run_acts_cons, run_acts_nil] using run_writeMember_command w none _ 1 1 _ u htakes rfl hring

end Sys2Proof.Machine
end

section

/-! ## A decision of the lottery arbiter -/

namespace Sys2Proof.Machine
open Sys2Proof

/-- A decision that grants a requester counts the grant and lets it go on. -/
theorem run_arbGrant_some {s : State} {k x : Nat} {ws : List (Nat × Nat × Nat)} {grant : Nat → Act} {d : Option Nat × Bool × ArbSt}
    (hd : d = arbDecide (s.rd (R.ARB_N k)) (s.eng.arb.at k ⟨arbSeed k, 0⟩) ws) (hx : d.1 = some x) :
    (arbGrant k ws grant).run s = (acts [eng fun e => { e with arb := e.arb.set k d.2.2 }, inc (R.ARB_GRANTS k),
      onlyIf d.2.1 (inc (R.ARB_OLDEST k)), grant x]).run s := by
  rw [arbGrant, run_read, ← hd]
  simp only [hx]

/-- The decoder pool's arbiter grants a free decoder. -/
theorem run_dlGrant_some {s : State} {j x : Nat} {d : Option Nat × Bool × ArbSt} (hfree : s.freeDecoder = some j)
    (hd : d = arbDecide (s.rd (R.ARB_N 1)) (s.eng.arb.at 1 ⟨arbSeed 1, 0⟩) s.decodeWaiting) (hx : d.1 = some x) :
    dlGrant.run s = (acts [eng fun e => { e with arb := e.arb.set 1 d.2.2 }, inc (R.ARB_GRANTS 1),
      onlyIf d.2.1 (inc (R.ARB_OLDEST 1)), startDecode j x]).run s := by
  rw [dlGrant, run_read, hfree]
  exact run_arbGrant_some hd hx

end Sys2Proof.Machine
end

section

/-! ## Sessions and their timers -/

namespace Sys2Proof.Machine
open Sys2Proof

/-- Settles O36: each command takes, from the ready state, the branch of its row that the conditions of its clause name. -/
theorem sessionsComplete : Obligations.SessionsComplete := by
  intro s₀ s t hs
  refine ⟨?_, ?_, ?_, ?_, ?_, ?_⟩
  -- AUTH_TIMEOUT
  · intro k q g hSess hSState
    refine doneIf_completes hs g ?_
    simp only [authTimeout, run_read, hSess, hSState, run_onlyIf_true]
  -- AUTH_LOCKOUT_END
  · intro key u g hShut hNow
    refine doneIf_completes hs g ?_
    simp only [lockoutEnd, run_read, hShut, hNow, run_onlyIf_true]
  -- KEEPALIVE_TIMEOUT
  · intro k q g hSess hHeard
    refine doneIf_completes hs g ?_
    simp only [keepaliveTimeout, run_read, hSess, hHeard, run_onlyIf_true]
  -- SESSION_CLOSE_COMPLETE
  · intro k q g hSess hSState
    refine doneIf_completes hs g ?_
    simp only [closeComplete, run_read, hSess, hSState, ne_eq, if_false] <;> rfl
  -- S_KILL
  · rintro w k u g htakes rfl hSState
    refine doneIf_command_completes hs g htakes (a := closeSession k 1 none) rfl ?_
    simp only [closeSession, run_read, hSState, run_onlyIf_true]
  -- DDP_EVENT_SEND
  · rintro k q box mailbox e rest ws g hSess rfl rfl hEvq hSState rfl
    refine doneIf_completes hs g ?_
    simp only [eventSend, run_read, hSess, hEvq, hSState, ne_eq, if_false]

end Sys2Proof.Machine
end

section

/-! ## Transactions -/

namespace Sys2Proof.Machine
open Sys2Proof

/-- Settles O37: each command takes, from the ready state, the branch of its row that the conditions of its clause name. -/
theorem transactionsComplete : Obligations.TransactionsComplete := by
  intro s₀ s t hs
  refine ⟨?_, ?_, ?_, ?_, ?_, ?_, ?_, ?_, ?_, ?_, ?_⟩
  -- A_OPEN
  · intro m g hstarts
    exact doneIf_starts_completes hs g hstarts (a := apOpen m) rfl rfl
  -- A_BIND
  · intro m h g hkeeps
    exact doneIf_completes hs g (run_apWrite_keeps m none (R.A_BIND m) (R.A_BIND m) 0 h s hkeeps)
  -- A_COMMIT
  · rintro m _ _ g hstarts rfl rfl hBound hTState hTLink
    refine doneIf_starts_completes hs g hstarts (a := apCommit m) rfl ?_
    simp only [apCommit, run_read, hBound, hTState, hTLink, ne_eq, not_true_eq_false, or_self, Bool.false_eq_true, if_false]
  -- A_ABORT
  · rintro m _ _ g hstarts rfl rfl hBound hTState
    refine doneIf_starts_completes hs g hstarts (a := apAbort m) rfl ?_
    simp only [apAbort, run_read, hBound, hTState, ne_eq, not_true_eq_false, or_self, if_false]
  -- T_LINK_WRITE
  · intro w h v g hstores
    exact doneIf_stores_completes hs g hstores
  -- TXN_LOCK_TIMEOUT
  · refine done_completes hs ?_
    simp only [locksTimeout] <;> rfl
  -- TXN_LOCK_GRANTED
  · refine done_completes hs ?_
    simp only [locksGranted] <;> rfl
  -- TXN_APPLY
  · intro h g hTState
    refine doneIf_completes hs g ?_
    simp only [txnApply, run_read, hTState, run_onlyIf_true]
  -- TXN_IDLE_TIMEOUT
  · refine done_completes hs ?_
    simp only [txnIdle, run_read]
  -- TXN_OUTCOME_QUERY_TIMER
  · intro h x u g hS hTxnInstant hTState
    refine doneIf_completes hs g ?_
    simp only [outcomeQuery, run_read, hS, hTxnInstant, hTState, run_onlyIf_true]
  -- TXN_OUTCOME_TIMEOUT
  · intro h u g hTxnInstant hTState
    refine doneIf_completes hs g ?_
    simp only [outcomeTimeout, run_read, hTxnInstant, hTState, run_onlyIf_true]

end Sys2Proof.Machine
end

section

/-! ## The configuration store -/

namespace Sys2Proof.Machine
open Sys2Proof

/-- Settles O38: each command takes, from the ready state, the branch of its row that the conditions of its clause name. -/
theorem configurationsComplete : Obligations.ConfigurationsComplete := by
  intro s₀ s t hs
  refine ⟨?_, ?_, ?_, ?_⟩
  -- W_WRITE
  · rintro w n u k off g htakes rfl rfl rfl
    refine doneIf_command_completes hs g htakes (a := slotWrite n.toNat) rfl ?_
    simp only [slotWrite, run_read]
  -- W_SEAL
  · rintro w u k st g htakes rfl rfl rfl
    refine doneIf_command_completes hs g htakes (a := .read fun s => slotSeal (s.whoPriv w)) rfl ?_
    simp only [slotSeal, run_read] <;> rfl
  -- SL_ERASE
  · intro w k g htakes
    refine doneIf_command_completes hs g htakes (a := slotErase k) rfl ?_
    simp only [slotErase]
  -- MODE_APPLY
  · rintro w u modes g htakes rfl rfl
    refine doneIf_command_completes hs g htakes (a := modeApply) rfl ?_
    simp only [modeApply, run_read] <;> rfl

end Sys2Proof.Machine
end

section

/-! ## Radio ports -/

namespace Sys2Proof.Machine
open Sys2Proof

/-- Settles O39: each command takes, from the ready state, the branch of its row that the conditions of its clause name. -/
theorem portsComplete : Obligations.PortsComplete := by
  intro s₀ s t hs
  refine ⟨?_, ?_, ?_, ?_, ?_, ?_, ?_, ?_, ?_, ?_, ?_, ?_, ?_, ?_, ?_, ?_, ?_, ?_, ?_, ?_, ?_, ?_,
      ?_⟩
  -- TILE_TIMED_COMMAND
  · intro p u f g hup hOnTime hPState hNeedsCal
    refine doneIf_whenUp_completes hs g hup ?_
    rw [tileCommand, run_read, if_neg (not_not_intro hOnTime)]
    exact congrArg (fun a => Act.run a s) (if_pos ⟨hPState, hNeedsCal⟩)
  · rintro p u r _ g hup hOnTime hReq rfl hKeys hAssessing
    refine doneIf_whenUp_completes hs g hup ?_
    rw [tileCommand, run_read, if_neg (not_not_intro hOnTime)]
    change (keyingStart p []).run s = _
    rw [keyingStart, run_read, hReq]
    exact congrArg (fun a => Act.run a s) ((if_pos hKeys).trans (if_neg (by rw [hAssessing]; decide)))
  · rintro p u r _ _ g hup hOnTime hReq hEnds rfl rfl
    refine doneIf_whenUp_completes hs g hup ?_
    rw [tileCommand, run_read, if_neg (not_not_intro hOnTime)]
    change (txFrameEnd p).run s = _
    rw [txFrameEnd, run_read, hReq]
    exact congrArg (fun a => Act.run a s) (if_pos hEnds)
  · intro p u tx g hup hOnTime hNotKeyed hNotOff
    refine doneIf_whenUp_completes hs g hup ?_
    rw [tileCommand, run_read, if_neg (not_not_intro hOnTime)]
    exact congrArg (fun a => Act.run a s) (if_neg (not_or_intro hNotKeyed hNotOff))
  · intro p u g hup hOnTime
    refine doneIf_whenUp_completes hs g hup ?_
    rw [tileCommand, run_read, if_neg (not_not_intro hOnTime)]
  · intro p u g hup hOnTime
    refine doneIf_whenUp_completes hs g hup ?_
    rw [tileCommand, run_read, if_neg (not_not_intro hOnTime)]
  -- RX_BLOCK_CRC_FAIL
  · intro p g hup
    refine doneIf_whenUp_completes hs g hup ?_
    simp only [rxCrcFail]
  -- TX_BLOCK_CRC_FAIL
  · rintro p r f g hup hPort rfl hPState
    refine doneIf_whenUp_completes hs g hup ?_
    simp only [txCrcFail, run_read, hPort, hPState, if_true, and_self]
  -- P_ENABLE
  · intro w p v g hstores
    exact doneIf_stores_completes hs g hstores
  -- RX_SYNTH_UNLOCK
  · intro p g hup hPState
    refine doneIf_whenUp_completes hs g hup ?_
    simp only [rxUnlock, run_read, hPState, if_false]
  -- PORT_STARTED
  · intro p pow g hup hPState
    refine doneIf_whenUp_completes hs g hup ?_
    simp only [portStarted, run_read, hPState, ne_eq, if_false]
  -- TS_CALIBRATION_DONE
  · intro p settled g hup hPState
    refine doneIf_whenUp_completes hs g hup ?_
    simp only [calDone, run_read, hPState, ne_eq, if_false] <;> rfl
  -- TS_CALIBRATION_FAIL
  · intro p g hup hPState
    refine doneIf_whenUp_completes hs g hup ?_
    simp only [calFail, run_read, hPState, ne_eq, if_false]
  -- COEX_GRANT_SAMPLE
  · rintro p ball held level g hup rfl
    refine doneIf_whenUp_completes hs g hup ?_
    simp only [grantSample, run_read] <;> rfl
  -- KEYING_START
  · rintro p samples r f g hup hPort rfl hPState
    refine doneIf_whenUp_completes hs g hup ?_
    simp only [keyingStart, run_read, hPort, hPState, if_true, and_self]
  -- TX_FRAME_END
  · rintro p r st lock g hup hPort hPState rfl rfl
    refine doneIf_whenUp_completes hs g hup ?_
    simp only [txFrameEnd, run_read, hPort, hPState, if_true, and_self]
  -- COEX_GRANT_WITHDRAWN
  · intro tile held gaps g hup hHeld
    refine doneIf_whenUp_completes hs g hup ?_
    simp only [grantWithdrawn, hHeld, run_onlyIf_true]
  -- MASK_VIOLATION
  · intro p bin first second g hup
    refine doneIf_whenUp_completes hs g hup ?_
    simp only [maskViolation, run_read] <;> rfl
  -- P_TX_UNLOCK
  · rintro w p u g htakes rfl
    refine doneIf_command_completes hs g htakes (a := txUnlock p) rfl ?_
    simp only [txUnlock, run_read]
  -- AGC_BREAK
  · rintro p clipped ls g hup rfl hAgcState
    refine doneIf_whenUp_completes hs g hup ?_
    simp only [agcBreak, run_read, hAgcState, if_true, and_true, and_self]
  -- AGC_SETTLING_END
  · intro p pow g hup hAgcState
    refine doneIf_whenUp_completes hs g hup ?_
    simp only [agcSettled, run_read, hAgcState, if_true]
  -- LNA_BYPASS_CHANGE
  · rintro p power thr g hup rfl
    refine doneIf_whenUp_completes hs g hup ?_
    simp only [lnaChange, run_read]
  -- WAKE_PATTERN_ACCEPTED
  · rintro preamble delimiter word w' m g hRadio rfl hPower
    refine doneIf_completes hs g ?_
    simp only [wakePattern, run_read, hRadio, hPower, run_onlyIf_true]

end Sys2Proof.Machine
end

section

/-! ## Lanes and energy detectors -/

namespace Sys2Proof.Machine
open Sys2Proof

/-- Settles O40: each command takes, from the ready state, the branch of its row that the conditions of its clause name. -/
theorem lanesComplete : Obligations.LanesComplete := by
  intro s₀ s t hs
  refine ⟨?_, ?_, ?_, ?_, ?_, ?_, ?_, ?_, ?_, ?_⟩
  -- LANE_BIND_CELL
  · intro p g hup
    refine doneIf_whenUp_completes hs g hup ?_
    simp only [laneBindCells]
  -- LANE_UNBIND
  · rintro p ovr g hup rfl
    refine doneIf_whenUp_completes hs g hup ?_
    simp only [laneUnbind, run_read]
  -- PREAMBLE_DETECT
  · rintro l symbols lvl noise p mode g hup rfl rfl hLState
    refine doneIf_whenUp_completes hs g hup ?_
    simp only [preambleDetect, run_read, hLState, ne_eq, if_false]
  -- PREAMBLE_CAPTURE
  · rintro l margin p f g hup rfl hLane hCpCapture
    refine doneIf_whenUp_completes hs g hup ?_
    simp only [preambleCapture, run_read, hLane, hCpCapture, if_true]
  -- SYNC_MISS
  · intro l g hup hInSync
    refine doneIf_whenUp_completes hs g hup ?_
    simp only [syncMiss, run_read, hInSync, run_onlyIf_true]
  -- SFD_DETECT
  · rintro l fec sync lvl cfo p f fsk g hup rfl hLane rfl hInSync
    refine doneIf_whenUp_completes hs g hup ?_
    simp only [sfdDetect, run_read, hLane, hInSync, if_false, Bool.false_eq_true] <;> rfl
  -- PHR_RECEIVED
  · intro l good len modeSwitch sel fcs4 f g hup hFrameNow hTSof
    refine doneIf_whenUp_completes hs g hup ?_
    simp only [phrReceived, run_read, hFrameNow, hTSof, if_false, Bool.false_eq_true]
  -- RX_FRAME_END
  · rintro l psdu soft f p g hup hFrameNow rfl hTSof
    refine doneIf_whenUp_completes hs g hup ?_
    simp only [rxFrameEnd, run_read, hFrameNow, hTSof, if_false, Bool.false_eq_true] <;> rfl
  -- ED_DETECTOR_FREE
  · intro p e g hup hLane hLane'
    refine doneIf_whenUp_completes hs g hup ?_
    simp only [edFree, run_read, hLane, hLane', if_false]
  -- ED_RESULT
  · rintro req power e mode mode' hup hLane hNow rfl rfl
    refine done_whenUp_completes hs hup ?_
    simp only [edResult, run_read, hLane, hNow, if_false] <;> rfl

end Sys2Proof.Machine
end

section

/-! ## Deep Link groups and decoders -/

namespace Sys2Proof.Machine
open Sys2Proof

/-- Settles O41: each command takes, from the ready state, the branch of its row that the conditions of its clause name. -/
theorem deepLinkComplete : Obligations.DeepLinkComplete := by
  intro s₀ s t hs
  refine ⟨?_, ?_, ?_, ?_, ?_, ?_⟩
  -- DL_HEADER_DECODE
  · rintro l chips sums g hup rfl
    refine doneIf_whenUp_completes hs g hup ?_
    simp only [dlHeaderDecode]
  -- DL_COPY_COMBINE
  · intro c rest hup hLane
    refine done_whenUp_completes hs hup ?_
    simp only [dlCombine, run_read, hLane] <;> rfl
  -- DL_DECODE_GRANT
  · rintro j _ x hup hFree rfl hGranted
    exact done_whenUp_completes hs hup (run_dlGrant_some hFree rfl hGranted)
  -- DL_DECODE_END
  · rintro d r res ok hard g hup hDl rfl rfl rfl
    refine doneIf_whenUp_completes hs g hup ?_
    simp only [dlDecodeEnd, run_read, hDl] <;> rfl
  -- DL_GROUP_EXPIRE
  · intro g g' g hup hDl hNow
    refine doneIf_whenUp_completes hs g hup ?_
    simp only [dlExpire, run_read, hDl, hNow, if_false]
  -- DL_SURPLUS_REPORT
  · intro y1 c rest hup hDl
    refine done_whenUp_completes hs hup ?_
    simp only [surplusReport, run_read, hDl] <;> rfl

end Sys2Proof.Machine
end

section

/-! ## The TSCH engine -/

namespace Sys2Proof.Machine
open Sys2Proof

/-- Settles O42: each command takes, from the ready state, the branch of its row that the conditions of its clause name. -/
theorem cellsComplete : Obligations.CellsComplete := by
  intro s₀ s t hs
  refine ⟨?_, ?_, ?_, ?_, ?_, ?_, ?_⟩
  -- TS_RUN
  · intro w v g hstores
    exact doneIf_stores_completes hs g hstores
  -- TX_DECISION
  · rintro p a cs g hup hDecideAsn rfl
    refine doneIf_whenUp_completes hs g hup ?_
    simp only [txDecision, run_read, hDecideAsn] <;> rfl
  -- TX_RETUNE_INSTANT
  · intro p g hup
    refine doneIf_whenUp_completes hs g hup ?_
    simp only [txRetune, run_read]
  -- ACK_WAIT_BIND
  · intro p g hup
    refine doneIf_whenUp_completes hs g hup ?_
    simp only [ackWaitBind, run_read] <;> rfl
  -- ACK_TIMEOUT
  · intro p g hup
    refine doneIf_whenUp_completes hs g hup ?_
    simp only [ackTimeout, run_read]
  -- RX_RECORD
  · intro tile f foreign r rest g hup hLane
    refine doneIf_whenUp_completes hs g hup ?_
    simp only [rxRecord, run_read, hLane] <;> rfl
  -- EB_PERIOD
  · rintro p fin other g hup rfl rfl hEbPeriod
    refine doneIf_whenUp_completes hs g hup ?_
    simp only [ebPeriod, run_read, hEbPeriod, run_onlyIf_true]

end Sys2Proof.Machine
end

section

/-! ## Sleepy nodes and the tally bins -/

namespace Sys2Proof.Machine
open Sys2Proof

/-- Settles O43: each command takes, from the ready state, the branch of its row that the conditions of its clause name. -/
theorem sleepyComplete : Obligations.SleepyComplete := by
  intro s₀ s t hs
  refine ⟨?_, ?_, ?_, ?_, ?_, ?_, ?_, ?_, ?_, ?_, ?_, ?_, ?_⟩
  -- WHEEL_BUCKET
  · rintro ms hup rfl hTsRun
    refine done_whenUp_completes hs hup ?_
    simp only [wheelBucket, run_read, hTsRun, if_false]
  -- SN_FOLLOW_ON
  · rintro n x t0 g hup hSnEx rfl hStep
    refine doneIf_whenUp_completes hs g hup ?_
    simp only [snFollowOn, run_read, hSnEx, hStep, ne_eq, if_false]
  -- SN_DL_NEXT_COPY
  · rintro n x plain g hup hSnEx rfl
    refine doneIf_whenUp_completes hs g hup ?_
    simp only [snNextCopy, run_read, hSnEx]
  -- SN_ACK_TIMEOUT
  · rintro n x coming g hup hSnEx rfl hStep
    refine doneIf_whenUp_completes hs g hup ?_
    simp only [snAckTimeout, run_read, hSnEx, hStep, not_false_eq_true, if_true,
        Bool.false_eq_true, and_self]
  -- RIT_REQUEST_MISSED
  · intro n p g hup hSn hSnService
    refine doneIf_whenUp_completes hs g hup ?_
    simp only [ritMissed, run_read, hSn, hSnService, run_onlyIf_true]
  -- PS_TTL_SWEEP
  · rintro old hup rfl
    refine done_whenUp_completes hs hup ?_
    simp only [ttlSweep, run_read]
  -- OVERFLOW_GRANT
  · intro n rest hup hSn hWhFree
    refine done_whenUp_completes hs hup ?_
    simp only [overflowGrant, run_read, hSn, hWhFree, if_false]
  -- SN_EN
  · intro w v g hstores
    exact doneIf_stores_completes hs g hstores
  -- SN_NODE_CONFIG_WRITE
  · intro w n j v g hstores
    exact doneIf_stores_completes hs g hstores
  -- SN_CMD_LEAVE_UNREACHABLE
  · rintro w n u g htakes rfl hSnState
    refine doneIf_command_completes hs g htakes (a := snLeave n) rfl ?_
    simp only [snLeave, run_read, hSnState, ne_eq, if_false]
  -- SN_CMD_FREE_FRAMES
  · intro w n g htakes
    refine doneIf_command_completes hs g htakes (a := snFreeFrames n) rfl ?_
    simp only [snFreeFrames]
  -- SN_CMD_RESET_ESTIMATE
  · intro w n g htakes
    refine doneIf_command_completes hs g htakes (a := snResetEstimate n) rfl ?_
    simp only [snResetEstimate]
  -- TALLY_BIN_CLOSE
  · intro hup
    refine done_whenUp_completes hs hup ?_
    simp only [tallyBinClose, run_read]

end Sys2Proof.Machine
end

section

/-! ## The node table and forwarding -/

namespace Sys2Proof.Machine
open Sys2Proof

/-- Settles O44: each command takes, from the ready state, the branch of its row that the conditions of its clause name. -/
theorem nodesComplete : Obligations.NodesComplete := by
  intro s₀ s t hs
  refine ⟨?_, ?_, ?_, ?_, ?_, ?_, ?_, ?_, ?_, ?_, ?_, ?_, ?_⟩
  -- CR_CMD
  · rintro w k _ _ _ g htakes rfl rfl hEui rfl hFree hIidFree
    refine doneIf_command_completes hs g htakes (a := createCommand k) rfl ?_
    rw [createCommand, run_read, startCreate, run_read]
    simp only [if_neg hEui, hFree, hIidFree]
    split <;> rfl
  -- NT_CLAIM_TIMEOUT
  · intro k c d y1 g hup hNodes hWaiting hNtRemoteWait
    refine doneIf_whenUp_completes hs g hup ?_
    simp only [claimTimeout, run_read, hNodes, hWaiting, hNtRemoteWait, run_onlyIf_true]
  -- NT_CMD_REMOVE
  · rintro w n u e i g htakes rfl hNodeState rfl rfl
    refine doneIf_command_completes hs g htakes (a := nodeRemove n) rfl ?_
    simp only [nodeRemove, run_read, removeNode, hNodeState, if_false]
  -- NT_CMD_CLEAR_COUNTS
  · rintro w n u g htakes rfl
    refine doneIf_command_completes hs g htakes (a := nodeCommand n 2) rfl ?_
    simp only [nodeCommand] <;> rfl
  -- PIPELINE_UPLINK
  · intro k g hup
    refine doneIf_whenUp_completes hs g hup ?_
    simp only [pipelineUp, run_read] <;> rfl
  -- PIPELINE_DOWNLINK
  · intro k g hup
    refine doneIf_whenUp_completes hs g hup ?_
    simp only [pipelineDown, run_read] <;> rfl
  -- PIPELINE_HOST_PACKET
  · intro f mf g hup
    refine doneIf_whenUp_completes hs g hup ?_
    simp only [pipelineHost, run_read] <;> rfl
  -- REASM_TIMEOUT
  · rintro k old g hup rfl
    refine doneIf_whenUp_completes hs g hup ?_
    simp only [reasmTimeout, run_read]
  -- NT_REMOTE_TIMEOUT
  · intro k r g hup hNtRemoteWait
    refine doneIf_whenUp_completes hs g hup ?_
    simp only [remoteTimeout, run_read, hNtRemoteWait]
  -- NODE_WINDOW_ACCESS
  · intro m win mem v c g hkeeps
    exact doneIf_completes hs g (run_apWrite_keeps m none ⟨0x3009, win, mem⟩ c 0 v s hkeeps)
  · intro m win mem v c g hstarts
    exact doneIf_completes hs g (run_apWrite_starts m none ⟨0x3009, win, mem⟩ c v s hstarts)
  · intro m win mem v q g hreads
    exact doneIf_completes hs g (run_apRead m ⟨0x3009, win, mem⟩ q s hreads)
  -- LEAP_SWEEP
  · rintro upTo w' next done_ g hup rfl rfl hBit rfl
    refine doneIf_whenUp_completes hs g hup ?_
    simp only [leapSweep, run_read, hBit, if_false]

end Sys2Proof.Machine
end

section

/-! ## Queues, shapers and gates -/

namespace Sys2Proof.Machine
open Sys2Proof

/-- Settles O45: each command takes, from the ready state, the branch of its row that the conditions of its clause name. -/
theorem queuesComplete : Obligations.QueuesComplete := by
  intro s₀ s t hs
  refine ⟨?_, ?_, ?_, ?_, ?_, ?_, ?_, ?_, ?_⟩
  -- SHAPER_REFILL
  · rintro touched hup rfl hQ
    refine done_whenUp_completes hs hup ?_
    simp only [shaperRefill, run_read, hQ, run_onlyIf_true]
  -- METER_REFILL
  · rintro touched hup rfl hQ
    refine done_whenUp_completes hs hup ?_
    simp only [meterRefill, run_read, hQ, run_onlyIf_true]
  -- ETH_RELEASE
  · intro e g hup
    refine doneIf_whenUp_completes hs g hup ?_
    simp only [ethRelease] <;> rfl
  -- MESH_RELEASE
  · intro q g hup
    refine doneIf_whenUp_completes hs g hup ?_
    simp only [meshRelease] <;> rfl
  -- HOST_RELEASE
  · intro q g hup
    refine doneIf_whenUp_completes hs g hup ?_
    simp only [hostRelease] <;> rfl
  -- FABRIC_RELEASE
  · intro q g hup
    refine doneIf_whenUp_completes hs g hup ?_
    simp only [fabricRelease] <;> rfl
  -- GATE_ENTRY_CHANGE
  · rintro e r g hup rfl
    refine doneIf_whenUp_completes hs g hup ?_
    simp only [showGate, run_read]
  -- GATE_BANK_SWITCH
  · intro e b n g hup hGate hDevTime
    refine doneIf_whenUp_completes hs g hup ?_
    simp only [gateSwitch, run_read, hGate, hDevTime, if_false]
  -- CELLS_FREED
  · intro k p hup hPkt hReleased
    refine done_whenUp_completes hs hup ?_
    simp only [cellsFreed, run_read, hPkt, hReleased, run_onlyIf_true]

end Sys2Proof.Machine
end

section

/-! ## Keys -/

namespace Sys2Proof.Machine
open Sys2Proof

/-- Settles O46: each command takes, from the ready state, the branch of its row that the conditions of its clause name. -/
theorem keysComplete : Obligations.KeysComplete := by
  intro s₀ s t hs
  refine ⟨?_, ?_, ?_, ?_, ?_, ?_, ?_, ?_, ?_⟩
  -- KI_WRITE
  · rintro w n u off data g htakes rfl rfl rfl
    refine doneIf_command_completes hs g htakes (a := keyWrite n.toNat) rfl ?_
    simp only [keyWrite, run_read]
  -- KI_CMD_IMPORT
  · rintro w u c g htakes rfl rfl hCmd hKeyFault hJobs
    refine doneIf_command_completes hs g htakes (a := keyCommand 1) rfl ?_
    simp only [keyCommand, run_read, postJob, hCmd, hKeyFault, hJobs, ne_eq, if_true, if_false,
        Bool.false_eq_true]
  -- KI_CMD_GENERATE
  · rintro w u c g htakes rfl rfl hCmd hKeyFault hJobs
    refine doneIf_command_completes hs g htakes (a := keyCommand 2) rfl ?_
    simp only [keyCommand, run_read, postJob, hCmd, hKeyFault, hJobs, ne_eq, if_true, if_false,
        Bool.false_eq_true]
  -- KI_CMD_DERIVE
  · rintro w u c g htakes rfl rfl hCmd hKeyFault hJobs
    refine doneIf_command_completes hs g htakes (a := keyCommand 3) rfl ?_
    simp only [keyCommand, run_read, postJob, hCmd, hKeyFault, hJobs, ne_eq, if_true, if_false,
        Bool.false_eq_true]
  -- KEY_COMMAND_DONE
  · intro j turn c hturn hCmd
    refine done_atTurn_completes hs hturn ?_
    have hCmd' : ((setKeys fun e => { e with turn := turn }).run s).eng.keys.cmd = some c := hCmd
    rw [keyDone, run_read, hCmd']
    rfl
  -- K_ZEROIZE
  · intro w k g htakes
    refine doneIf_command_completes hs g htakes (a := zeroize k) rfl ?_
    simp only [zeroize]
  -- KEY_PROMOTE
  · intro k g hTsRun hKState hPromAsn
    refine doneIf_completes hs g ?_
    rw [run_read, hTsRun, keyPromote]
    simp only [beq_self_eq_true, run_onlyIf_true, run_read, hKState, decide_eq_true hPromAsn, Bool.and_self]
  -- LC_REQUEST
  · rintro w u b g htakes rfl rfl
    refine doneIf_command_completes hs g htakes (a := lcRequest) rfl ?_
    simp only [lcRequest, run_read]
  -- CRYPTO_OP_DONE
  · refine done_completes hs ?_
    simp only [cryptoDone] <;> rfl

end Sys2Proof.Machine
end

section

/-! ## Joins and attestation -/

namespace Sys2Proof.Machine
open Sys2Proof

/-- Settles O47: each command takes, from the ready state, the branch of its row that the conditions of its clause name. -/
theorem joinsComplete : Obligations.JoinsComplete := by
  intro s₀ s t hs
  refine ⟨?_, ?_, ?_, ?_, ?_, ?_, ?_, ?_, ?_, ?_, ?_, ?_⟩
  -- JOIN_SEGMENT
  · intro i p hJoinHead
    refine done_completes hs ?_
    simp only [serveSegment, run_read, hJoinHead] <;> rfl
  -- JOIN_REASM_TIMEOUT
  · rintro old rfl
    refine done_completes hs ?_
    simp only [joinReasmTimeout, run_read]
  -- JOIN_VERIFY_DONE
  · rintro id j turn u x hturn rfl hJoinSess hState hJobs
    refine done_atTurn_completes hs hturn ?_
    simp only [verifyDone, run_read, hJoinSess, hState, hJobs, ne_eq, not_true_eq_false, or_self,
        if_false, Bool.not_true, Bool.false_eq_true] <;> rfl
  -- JOIN_RELAY
  · intro i p hJoinHead hMac
    refine done_completes hs ?_
    simp only [serveRelay, run_read, hJoinHead, hMac, if_false, Bool.false_eq_true]
  -- JOIN_STEP_TIMEOUT
  · intro id x hJoinSess hJStepWait
    refine done_completes hs ?_
    simp only [joinStepTimeout, run_read, hJoinSess, hJStepWait, run_onlyIf_true]
  -- JOIN_LINGER_EXPIRY
  · intro id x hJoinSess hJLinger
    refine done_completes hs ?_
    simp only [joinLinger, run_read, hJoinSess, hJLinger, run_onlyIf_true]
  -- J_EN_WRITE
  · rintro w n u off g htakes rfl rfl
    refine doneIf_command_completes hs g htakes (a := statementWrite n.toNat) rfl ?_
    simp only [statementWrite, run_read]
  -- J_EN_SEAL
  · rintro w u st k owner ok signed g htakes rfl rfl rfl rfl rfl rfl
    refine doneIf_command_completes hs g htakes (a := statementSeal 6461) rfl ?_
    simp only [statementSeal, run_read] <;> rfl
  -- IS_WRITE
  · rintro w k n u off g htakes rfl rfl
    refine doneIf_command_completes hs g htakes (a := issuerWrite k n.toNat) rfl ?_
    simp only [issuerWrite, run_read]
  -- IS_SEAL
  · rintro w k u pk d k' ok g htakes rfl rfl rfl rfl rfl
    refine doneIf_command_completes hs g htakes (a := issuerSeal k) rfl ?_
    simp only [issuerSeal, run_read]
  -- AT_CMD
  · rintro w u g htakes rfl hUpState hJobs
    refine doneIf_command_completes hs g htakes (a := atCommand) rfl ?_
    simp only [atCommand, run_read, postJob, hUpState, hJobs, if_true, if_false]
  -- AT_REPORT_READY
  · rintro j turn u hturn rfl hJobs
    refine done_atTurn_completes hs hturn ?_
    simp only [reportReady, run_read, hJobs, run_onlyIf_true]

end Sys2Proof.Machine
end

section

/-! ## Node images and campaigns -/

namespace Sys2Proof.Machine
open Sys2Proof

/-- Settles O48: each command takes, from the ready state, the branch of its row that the conditions of its clause name. -/
theorem campaignsComplete : Obligations.CampaignsComplete := by
  intro s₀ s t hs
  refine ⟨?_, ?_, ?_, ?_, ?_, ?_, ?_, ?_, ?_, ?_, ?_, ?_, ?_⟩
  -- IM_WRITE
  · rintro w k n u off o g htakes rfl rfl rfl
    refine doneIf_command_completes hs g htakes (a := imageWrite k n.toNat) rfl ?_
    simp only [imageWrite, run_read]
  -- IM_SEAL
  · rintro w k u g htakes rfl hJobs
    refine doneIf_command_completes hs g htakes (a := imageSeal k) rfl ?_
    simp only [imageSeal, run_read, postJob, hJobs, if_true]
  -- IM_SEAL_DONE
  · rintro k j turn u o pk g hturn rfl hJobs rfl rfl
    refine doneIf_atTurn_completes hs g hturn ?_
    simp only [imageSealDone, run_read, hJobs, if_false, Bool.not_true, Bool.false_eq_true]
  -- IM_ERASE
  · intro w k g htakes
    refine doneIf_command_completes hs g htakes (a := imageErase k) rfl ?_
    simp only [imageErase]
  -- CA_CMD_START
  · rintro w c u id ports g htakes rfl hCaState hImState hCampOverlap hCampAhead rfl rfl
    refine doneIf_command_completes hs g htakes (a := campStart c) rfl ?_
    simp only [campStart, run_read, hCaState, hImState, hCampOverlap, hCampAhead, ne_eq, if_false,
        Bool.false_eq_true]
  -- CA_CMD_PAUSE
  · rintro w c _ _ g htakes rfl rfl hRunning
    refine doneIf_command_completes hs g htakes (a := campPause c) rfl ?_
    rw [campPause, run_read, if_pos hRunning]
  -- CA_CMD_RESUME
  · rintro w c u g htakes rfl hCaState
    refine doneIf_command_completes hs g htakes (a := campResume c) rfl ?_
    simp only [campResume, run_read, hCaState, if_true]
  -- CA_CMD_ABORT
  · rintro w c u g htakes rfl hCaState
    refine doneIf_command_completes hs g htakes (a := campAbort c) rfl ?_
    simp only [campAbort, run_read, hCaState, if_false]
  -- CA_CMD_RELEASE
  · rintro w c u g htakes rfl hCaState
    refine doneIf_command_completes hs g htakes (a := campRelease c) rfl ?_
    simp only [campRelease, run_read, hCaState, if_true]
  -- CA_MULTICAST_START
  · intro c g hCaState
    refine doneIf_completes hs g ?_
    simp only [campMulticast, run_read, hCaState, run_onlyIf_true]
  -- CA_BLOCK_SEND
  · rintro c p x _ _ _ g hPort rfl rfl rfl hDue
    refine doneIf_completes hs g ?_
    rw [campBlock, run_read, hPort]
    exact congrArg (fun a => Act.run a s) (if_neg hDue)
  -- CA_STATUS
  · intro n msg c x g hCampById hCaRepair hNodes hState
    refine doneIf_completes hs g ?_
    simp only [campStatus, run_read, hCampById, hCaRepair, hNodes, hState, if_false,
        Bool.false_eq_true]
  -- CA_STATUS_TIMEOUT
  · intro c n x t' g hNodes hLeft hCaState
    refine doneIf_completes hs g ?_
    simp only [campTimeout, run_read, hNodes, hLeft, hCaState, ne_eq, if_false]

end Sys2Proof.Machine
end

section

/-! ## Ethernet ports -/

namespace Sys2Proof.Machine
open Sys2Proof

/-- Settles O49: each command takes, from the ready state, the branch of its row that the conditions of its clause name. -/
theorem ethernetComplete : Obligations.EthernetComplete := by
  intro s₀ s t hs
  refine ⟨?_, ?_, ?_, ?_, ?_, ?_⟩
  -- ETH_RX_FRAME
  · rintro e f fcsOk x g hup rfl hEthLink
    refine doneIf_whenUp_completes hs g hup ?_
    simp only [ethRx, run_read, hEthLink, ne_eq, if_false] <;> rfl
  -- ETH_LINK_UP
  · intro e speed g hup hEthLink
    refine doneIf_whenUp_completes hs g hup ?_
    simp only [ethUp, run_read, hEthLink, run_onlyIf_true]
  -- ETH_LINK_DOWN
  · intro e g hEthLink
    refine doneIf_completes hs g ?_
    simp only [ethDown, run_read, hEthLink, run_onlyIf_true] <;> rfl
  -- MDIO_READ
  · intro w v g htakes
    refine doneIf_command_completes hs g htakes (a := mdioStart v.toNat) rfl ?_
    simp only [mdioStart]
  -- MDIO_WRITE
  · intro w v g htakes
    refine doneIf_command_completes hs g htakes (a := mdioStart v.toNat) rfl ?_
    simp only [mdioStart]
  -- MDIO_DONE
  · intro ans w' hMdio
    refine done_completes hs ?_
    simp only [mdioDone, run_read, hMdio] <;> rfl

end Sys2Proof.Machine
end

section

/-! ## The time unit, PTP and the pulses -/

namespace Sys2Proof.Machine
open Sys2Proof

/-- Settles O50: each command takes, from the ready state, the branch of its row that the conditions of its clause name. -/
theorem timeComplete : Obligations.TimeComplete := by
  intro s₀ s t hs
  refine ⟨?_, ?_, ?_, ?_, ?_, ?_, ?_, ?_, ?_, ?_, ?_, ?_, ?_, ?_, ?_, ?_, ?_, ?_, ?_, ?_, ?_⟩
  -- TU_CMD_STEP
  · rintro w u g htakes rfl
    refine doneIf_command_completes hs g htakes (a := tuStep) rfl ?_
    simp only [tuStep, run_read] <;> rfl
  -- TU_CMD_SET
  · rintro w u g htakes rfl
    refine doneIf_command_completes hs g htakes (a := tuSet) rfl ?_
    simp only [tuSet, run_read] <;> rfl
  -- PTP_SYNC_TIMER
  · intro e g hup hPpState
    refine doneIf_whenUp_completes hs g hup ?_
    simp only [ptpSyncTimer, run_read, hPpState, run_onlyIf_true]
  -- PTP_DELAY_REQ_TIMER
  · intro e g hup hPpState
    refine doneIf_whenUp_completes hs g hup ?_
    simp only [ptpDelayTimer, run_read, hPpState, run_onlyIf_true]
  -- PTP_PDELAY_REQ_TIMER
  · intro e g hup hPpState
    refine doneIf_whenUp_completes hs g hup ?_
    simp only [ptpPdelayTimer, run_read, hPpState, run_onlyIf_true]
  -- PTP_SYNC_RX
  · intro e m g hup
    refine doneIf_whenUp_completes hs g hup ?_
    simp only [ptpSyncRx] <;> rfl
  -- PTP_FOLLOW_UP_RX
  · intro e m g hup
    refine doneIf_whenUp_completes hs g hup ?_
    simp only [ptpFollowUpRx] <;> rfl
  -- PTP_DELAY_REQ_RX
  · intro e m g hup
    refine doneIf_whenUp_completes hs g hup ?_
    simp only [ptpDelayReqRx]
  -- PTP_DELAY_RESP_RX
  · intro e m g hup
    refine doneIf_whenUp_completes hs g hup ?_
    simp only [ptpDelayRespRx] <;> rfl
  -- PTP_PDELAY_REQ_RX
  · intro e m g hup
    refine doneIf_whenUp_completes hs g hup ?_
    simp only [ptpPdelayReqRx]
  -- PTP_PDELAY_RESP_RX
  · intro e m u3 g hup
    refine doneIf_whenUp_completes hs g hup ?_
    simp only [ptpPdelayRespRx] <;> rfl
  -- PP_STATE
  · intro w e v g hstores
    exact doneIf_stores_completes hs g hstores
  -- PP_PARENT_WRITE
  · rintro w e id v r g rfl hstores
    exact doneIf_stores_completes hs g hstores
  -- SV_LOSS_TIMEOUT
  · intro hLost
    refine done_completes hs ?_
    rw [svLoss, run_read, hLost, run_onlyIf_true]
  -- SV_SOURCE
  · intro w v g hstores
    exact doneIf_stores_completes hs g hstores
  -- TQ_ENTRY_READ
  · intro m q g hreads
    refine doneIf_completes hs g ((run_apRead m _ _ s hreads).trans ?_)
    rfl
  -- PPS_IN_EDGE
  · rintro rising rfl
    refine done_completes hs ?_
    simp only [ppsIn, run_read, if_true]
  -- PPS_IN_LOST
  · intro t' hPpsLast hNow
    refine done_completes hs ?_
    simp only [ppsLost, run_read, hPpsLast, hNow, run_onlyIf_true]
  -- PPS_OUT_PULSE
  · refine done_completes hs ?_
    simp only [ppsOut, run_read]
  -- PPS_EN
  · intro w g hstores
    exact doneIf_stores_completes hs g hstores
  -- TREF_VALIDITY_CHANGE
  · rintro hz valid rfl hTrValid
    refine done_completes hs ?_
    simp only [trefChange, run_read, hTrValid, if_false]

end Sys2Proof.Machine
end

section

/-! ## The redundant pair -/

namespace Sys2Proof.Machine
open Sys2Proof

/-- Settles O51: each command takes, from the ready state, the branch of its row that the conditions of its clause name. -/
theorem pairComplete : Obligations.PairComplete := by
  intro s₀ s t hs
  refine ⟨?_, ?_, ?_, ?_, ?_, ?_, ?_, ?_, ?_, ?_, ?_, ?_, ?_, ?_, ?_, ?_, ?_, ?_, ?_⟩
  -- HEARTBEAT_PERIOD
  · intro refresh hInPair
    refine done_completes hs ?_
    simp only [heartbeatPeriod, run_read, hInPair, run_onlyIf_true]
  -- HEARTBEAT_STOP
  · intro hHbRuns hHbOn
    refine done_completes hs ?_
    simp only [heartbeatStop, run_read, hbOff, hHbRuns, hHbOn, run_onlyIf_true]
  -- GRANT_LOST
  · intro cause held
    refine done_completes hs ?_
    simp only [grantLost, run_read]
  -- GRANT_SEEN
  · rintro fence gap held g0 st rfl rfl
    refine done_completes hs ?_
    simp only [grantSeen, run_read] <;> rfl
  -- PAIR_ANNOUNCE_REPEAT
  · intro t' left hStep7 hNow
    refine done_completes hs ?_
    simp only [announceRepeat, run_read, hStep7, hNow, run_onlyIf_true]
  -- MOORING_IMAGE_START
  · intro hPrState
    refine done_completes hs ?_
    simp only [imageStart, run_read, hPrState, run_onlyIf_true] <;> rfl
  -- MOORING_PASS_END
  · intro nodes buckets r hRun hReady
    refine done_completes hs ?_
    simp only [passEnd, run_read, hRun, hReady, if_false, Bool.false_eq_true]
  -- MOORING_FREEZE
  · intro ns r kek hRun hPairKey hReady
    refine done_completes hs ?_
    simp only [freeze, run_read, hRun, hPairKey, hReady, if_false]
  -- MOOR_STREAM_TIMEOUT
  · intro m last hRx hNow
    refine done_completes hs ?_
    simp only [moorTimeout, run_read, hRx, hNow, run_onlyIf_true]
  -- PR_IMAGE_AGE_EXPIRY
  · intro hPrState
    refine done_completes hs ?_
    simp only [imageAgeExpiry, run_read, hPrState, run_onlyIf_true]
  -- PR_TIME_HOLD_EXPIRY
  · intro hPrState
    refine done_completes hs ?_
    simp only [timeHoldExpiry, run_read, hPrState, run_onlyIf_true]
  -- PR_CMD_IMAGE
  · rintro w u g htakes rfl hPrState hRun
    refine doneIf_command_completes hs g htakes (a := prImage) rfl ?_
    simp only [prImage, run_read, hPrState, hRun, ne_eq, if_false, Bool.false_eq_true]
  -- PR_CMD_YIELD
  · rintro w u g htakes rfl hPrState hPrPeerState hRun
    refine doneIf_command_completes hs g htakes (a := prYield) rfl ?_
    simp only [prYield, run_read, hPrState, hPrPeerState, hRun, ne_eq, if_false, Bool.false_eq_true]
  -- PR_CMD_CANCEL_YIELD
  · rintro w u g htakes rfl hPrState
    refine doneIf_command_completes hs g htakes (a := prCancel) rfl ?_
    simp only [prCancel, run_read, hPrState, ne_eq, if_false]
  -- PR_YIELD_EXPIRY
  · intro hPrState
    refine done_completes hs ?_
    simp only [yieldExpiry, run_read, hPrState, run_onlyIf_true]
  -- TIME_SYNC_TIMER
  · intro hPrState
    refine done_completes hs ?_
    simp only [timeSyncTimer, run_read, hPrState, run_onlyIf_true]
  -- PAIR_TIME_LOOP_TIMEOUT
  · intro hLost
    refine done_completes hs ?_
    rw [timeLoopTimeout, run_read, hLost, run_onlyIf_true]
  -- PAIR_STATUS_TIMER
  · intro hMsGone hInPair
    refine done_completes hs ?_
    simp only [pairStatusTimer, run_read, pairStatus, hMsGone, hInPair, run_onlyIf_true]
  -- PAIR_STATUS_TIMEOUT
  · intro hLost
    refine done_completes hs ?_
    rw [pairStatusTimeout, run_read, hLost, run_onlyIf_true]

end Sys2Proof.Machine
end

section

/-! ## The witness -/

namespace Sys2Proof.Machine
open Sys2Proof

/-- Settles O52: each command takes, from the ready state, the branch of its row that the conditions of its clause name. -/
theorem witnessComplete : Obligations.WitnessComplete := by
  intro s₀ s t hs
  refine ⟨?_, ?_, ?_, ?_, ?_, ?_, ?_, ?_⟩
  -- WIT_START_WAIT_EXPIRY
  · intro hWitState
    refine done_completes hs ?_
    simp only [witStart, run_read, hWitState, run_onlyIf_true]
  -- WIT_HEARTBEAT_ALIVE
  · intro x ps g hIsWitness
    refine doneIf_completes hs g ?_
    simp only [witAliveNow, run_read, hIsWitness, run_onlyIf_true]
  -- WIT_HEARTBEAT_LOST
  · intro x g hWitHbLoss
    refine doneIf_completes hs g ?_
    simp only [witLost, run_read, hWitHbLoss, run_onlyIf_true]
  -- WIT_TAKE_TIMEOUT
  · intro hWitTakeMs
    refine done_completes hs ?_
    simp only [witTake, run_read, hWitTakeMs, run_onlyIf_true]
  -- WIT_STATE_CODE
  · intro x code held g hIsWitness
    refine doneIf_completes hs g ?_
    simp only [witCodeNow, run_read, hIsWitness, run_onlyIf_true]
  -- WIT_CMD
  · rintro w u x g htakes rfl hGranted hWitAlive
    refine doneIf_command_completes hs g htakes (a := witCmd) rfl ?_
    simp only [witCmd, run_read, hGranted, hWitAlive, if_true, and_self]
  -- WIT_FENCE_GAP_EXPIRY
  · intro hWitState
    refine done_completes hs ?_
    simp only [witGap, run_read, hWitState, run_onlyIf_true]
  -- WIT_FENCE_RELEASE
  · intro x g hIsWitness
    refine doneIf_completes hs g ?_
    simp only [witFence, run_read, hIsWitness, run_onlyIf_true]

end Sys2Proof.Machine
end

section

/-! ## The fabric -/

namespace Sys2Proof.Machine
open Sys2Proof

/-- Settles O53: each command takes, from the ready state, the branch of its row that the conditions of its clause name. -/
theorem fabricComplete : Obligations.FabricComplete := by
  intro s₀ s t hs
  refine ⟨?_, ?_, ?_, ?_, ?_, ?_, ?_, ?_, ?_, ?_, ?_, ?_⟩
  -- FB_EN
  · intro w l v g hstores
    exact doneIf_stores_completes hs g hstores
  -- FB_LANE_LOCK
  · rintro l lanes skew g hup rfl hFbState
    refine doneIf_whenUp_completes hs g hup ?_
    simp only [fabLaneLock, run_read, hFbState, if_true, and_true, and_self]
  -- FB_TRAIN_TIMEOUT
  · intro l g hup hFbState
    refine doneIf_whenUp_completes hs g hup ?_
    simp only [fabTrainTimeout, run_read, hFbState, if_true, and_self]
  -- FB_HELLO_TIMER
  · intro l g hup hFbState
    refine doneIf_whenUp_completes hs g hup ?_
    simp only [fabHelloTimer, run_read, hFbState, run_onlyIf_true]
  -- FB_HELLO_RX
  · rintro l ws p dev role ver g hup hCtrlParse hFbState rfl rfl rfl
    refine doneIf_whenUp_completes hs g hup ?_
    simp only [fabHelloRx, run_read, hCtrlParse, hFbState, ne_eq, if_false]
  -- FB_REFUSED_EXPIRY
  · intro l g hup hFbState
    refine doneIf_whenUp_completes hs g hup ?_
    simp only [fabRefusedExpiry, run_read, hFbState, if_true, and_self]
  -- FB_LINK_DOWN
  · intro l cause g hup hLinkUp hNow hFlink
    refine doneIf_whenUp_completes hs g hup ?_
    simp only [fabLinkDown, run_read, hLinkUp, hNow, hFlink, if_false]
  -- FB_PACKET_RX
  · rintro l ws k g hup rfl hLinkUp
    refine doneIf_whenUp_completes hs g hup ?_
    simp only [fabPacketRx, run_read, hLinkUp, if_false] <;> rfl
  -- FB_NAK_RX
  · rintro l ws p want k g hup hCtrlParse hLinkUp rfl rfl
    refine doneIf_whenUp_completes hs g hup ?_
    simp only [fabNakRx, run_read, hCtrlParse, hLinkUp, if_false]
  -- FB_STATUS_RX
  · rintro l ws p w' g hup hCtrlParse hLinkUp rfl
    refine doneIf_whenUp_completes hs g hup ?_
    simp only [fabStatusRx, run_read, hCtrlParse, hLinkUp, if_false]
  -- FB_STATUS_TIMER
  · rintro l x g hup rfl hLinkUp
    refine doneIf_whenUp_completes hs g hup ?_
    simp only [fabStatusTimer, run_read, hLinkUp, run_onlyIf_true]
  -- TOPO_TIMER
  · rintro _ _ hup rfl rfl hDue
    refine done_whenUp_completes hs hup ?_
    rw [fabTopo, run_read]
    exact (run_onlyIf _ _ s).trans (if_pos hDue)

end Sys2Proof.Machine
end

section

/-! ## Host FIFOs, arbiters and PCIe -/

namespace Sys2Proof.Machine
open Sys2Proof

/-- Settles O54: each command takes, from the ready state, the branch of its row that the conditions of its clause name. -/
theorem hostFifosComplete : Obligations.HostFifosComplete := by
  intro s₀ s t hs
  refine ⟨?_, ?_, ?_, ?_, ?_, ?_, ?_, ?_, ?_, ?_, ?_, ?_, ?_, ?_, ?_, ?_, ?_, ?_, ?_, ?_, ?_⟩
  -- ARB_DECIDE
  · rintro waiting _ _ x hOk rfl rfl hGranted
    exact doneIf_completes hs hOk (run_arbGrant_some rfl hGranted)
  · intro waiting j d x hOk hup hFree hDecision hGranted
    exact doneIf_completes hs hOk ((run_whenUp 6 dlGrant s hup).trans (run_dlGrant_some hFree hDecision hGranted))
  · rintro _ waiting l _ x hOk rfl hup rfl hGranted
    refine doneIf_completes hs hOk ?_
    rw [arbRow, run_read, if_neg (by omega), if_neg (by omega), run_whenUp _ _ _ hup]
    exact run_arbGrant_some rfl hGranted
  -- DRAM_ECC_ERROR
  · rintro chan off single detail g rfl
    refine doneIf_completes hs g ?_
    simp only [dramError, run_read]
  -- DRAM_PATROL_SCRUB
  · intro found g
    refine doneIf_completes hs g ?_
    simp only []
  -- HF_POP
  · intro m f g hreads
    refine doneIf_completes hs g ((run_apRead m _ _ s hreads).trans ?_)
    rfl
  -- HF_START
  · intro m f v g hpushes hMode hCur hRoom hHeld
    refine doneIf_completes hs g ((run_apWrite_pushes m none _ v s hpushes).trans ?_)
    simp [pushItem, hMode, hCur, hRoom, hHeld]
  -- HF_DATA
  · rintro m f v _ _ l g hpushes rfl rfl hMode hCur hRoom hHeld
    refine doneIf_completes hs g ((run_apWrite_pushes m none _ v s hpushes).trans ?_)
    simp [pushItem, hMode, hCur, hRoom, hHeld]
  -- HF_END
  · rintro m f v _ _ l g hpushes rfl rfl hMode hCur hLength
    refine doneIf_completes hs g ((run_apWrite_pushes m none _ v s hpushes).trans ?_)
    simp [endPacket, hMode, hCur, hLength]
  -- HF_ABORT
  · intro m f g hstarts
    exact doneIf_starts_completes hs g hstarts (a := abortPacket f) rfl rfl
  -- HF_HELD_WRITE_DONE
  · rintro f x h g hup rfl hHeld
    refine doneIf_whenUp_completes hs g hup ?_
    simp only [heldDone, run_read, hHeld]
  -- HF_STALL_TIMEOUT
  · intro f h g hup hFromHost hSince
    refine doneIf_whenUp_completes hs g hup ?_
    simp only [stallTimeout, run_read, hFromHost, hSince, run_onlyIf_true] <;> rfl
  -- HF_NOTICE_TIMER
  · rintro f x g hup rfl hHfNoticeNs
    refine doneIf_whenUp_completes hs g hup ?_
    simp only [noticeTimer, run_read, hHfNoticeNs, run_onlyIf_true]
  -- HF_MODE
  · intro w f v g hstores
    exact doneIf_stores_completes hs g hstores
  -- HR_CMD
  · rintro w k items bad _ g rfl htakes hMode
    refine doneIf_completes hs g ?_
    simp only [run_acts_cons, run_acts_nil]
    obtain ⟨u, hu⟩ : ∃ u, u = (hostMemory items bad).run s := ⟨_, rfl⟩
    rw [← hu] at htakes hMode ⊢
    have hMode' : ((wr (R.HR_CMD k) 0).run u).rd (R.HF_MODE k) = 2 := by
      rw [run_wr, rd_apply_wr, if_neg (by simp)]
      exact hMode
    have hstart : (ringStart k).run ((wr (R.HR_CMD k) 0).run u) =
        (acts [wr (R.HR_STATE k) 1, ringRuns k]).run ((wr (R.HR_CMD k) 0).run u) := by
      rw [ringStart, run_read, hMode', beq_self_eq_true, run_onlyIf_true]
    simpa only [run_acts_cons, run_acts_nil] using run_writeMember_command w none _ 1 1 _ u htakes rfl hstart
  -- HR_HOST_IDX
  · rintro w k v items bad _ g rfl hstores
    refine doneIf_completes hs g ?_
    simp only [run_acts_cons, run_acts_nil]
    rw [run_writeMember_stores w none _ v _ hstores]
    simp only [run_acts_cons, run_acts_nil]
  -- RING_BUS_ERROR
  · intro k g hup hHrState
    refine doneIf_whenUp_completes hs g hup ?_
    simp only [ringBusError, run_read, hHrState, run_onlyIf_true]
  -- PCIE_FLR
  · refine done_completes hs ?_
    simp only [pcieFlr]
  -- PERST_N_ASSERT
  · intro hPcie
    refine done_completes hs ?_
    simp only [perstLow, run_read, hPcie, run_onlyIf_true]
  -- PERST_N_RELEASE
  · intro hPcie
    refine done_completes hs ?_
    simp only [perstHigh, run_read, hPcie, run_onlyIf_true]
  -- PCIE_LINK_CHANGE
  · rintro up width rate x g rfl hPerst hUp
    refine doneIf_completes hs g ?_
    simp only [pcieLink, run_read, hPerst, hUp, if_false]

end Sys2Proof.Machine
end

section

/-! ## Interrupts, events and timers -/

namespace Sys2Proof.Machine
open Sys2Proof

/-- A session's masked write of a stored member is stored and ends with OK. -/
theorem run_maskMember_keeps_ddp {k : Nat} {r c : Ref} {op : Nat} {v : Word} {s : State} (h : s.keeps (.ddp k) r c op v = true) :
    (maskMember (.ddp k) r op v).run s = (acts [storeNow c op v, answer (.ddp k) 0 []]).run s := by
  rw [State.keeps, Bool.and_eq_true] at h
  obtain ⟨hOpen, hStored⟩ := h
  have hOpen' : (s.rd (R.S_STATE k) == 2) = true := hOpen
  split at hStored
  · next t vs haccepted =>
    simp only [Bool.and_eq_true, beq_iff_eq, List.isEmpty_iff] at hStored
    obtain ⟨⟨hItems, hObjects⟩, hCmds⟩ := hStored
    simp only [maskMember, run_read, hOpen', run_onlyIf_true]
    rw [run_directWrite _ _ _ _ _ _ t vs haccepted]
    simp only [hItems, hObjects, hCmds, List.isEmpty_cons, Bool.not_false, run_acts_cons, run_onlyIf_true, run_acts_nil, startCommands,
      storeNow, itemEnds]
  · cases hStored

/-- Settles O55: each command takes, from the ready state, the branch of its row that the conditions of its clause name. -/
theorem interruptsComplete : Obligations.InterruptsComplete := by
  intro s₀ s t hs
  refine ⟨?_, ?_, ?_, ?_, ?_, ?_, ?_, ?_, ?_, ?_, ?_, ?_, ?_, ?_, ?_, ?_⟩
  -- IRQ_EDGE
  · intro src g
    refine doneIf_completes hs g ?_
    simp only [edge, run_read, ne_eq]
  -- IRQ_LEVEL_CHANGE
  · intro src high g hLevels
    refine doneIf_completes hs g ?_
    simp only [setLevel, run_read, hLevels, if_false]
  -- IRQ_SOFTWARE_SET
  · intro j mask m g hkeeps
    exact doneIf_completes hs g (run_apWrite_keeps m none (R.IRQ_PENDING j) (R.IRQ_PENDING j) 1 mask s hkeeps)
  · intro j mask k g hkeeps
    exact doneIf_completes hs g (run_maskMember_keeps_ddp hkeeps)
  -- IRQ_SOFTWARE_CLEAR
  · intro j mask m g hkeeps
    exact doneIf_completes hs g (run_apWrite_keeps m none (R.IRQ_PENDING j) (R.IRQ_PENDING j) 2 mask s hkeeps)
  · intro j mask k g hkeeps
    exact doneIf_completes hs g (run_maskMember_keeps_ddp hkeeps)
  -- IRQ_MODE
  · intro w v g hstores
    exact doneIf_stores_completes hs g hstores
  -- CX_CLAIM
  · intro m x g hreads
    exact doneIf_completes hs g ((run_apRead m _ _ s hreads).trans rfl)
  -- CX_COMPLETE
  · intro m x src g hkeeps
    exact doneIf_completes hs g (run_apWrite_keeps m none _ _ 0 src s hkeeps)
  -- MSIX_UNMASK
  · intro v g hup
    refine doneIf_whenUp_completes hs g hup ?_
    simp only [msixUnmask, run_read]
  -- EV_POP
  · intro m g hreads
    exact doneIf_completes hs g ((run_apRead m _ _ s hreads).trans rfl)
  -- TIMER_TICK
  · rintro k _ _ _ g rfl rfl rfl hDue
    refine doneIf_completes hs g ?_
    rw [timerTick, run_read]
    exact congrArg (fun a => Act.run a s) (if_neg hDue)
  -- TIMER_WRAP
  · rintro k _ _ _ g hWrap rfl rfl rfl hDue
    refine doneIf_completes hs g ?_
    rw [timerWrap, run_read, hWrap, run_onlyIf_true, timerTick, run_read, hWrap]
    exact congrArg (fun a => Act.run a s) (if_neg hDue)
  -- TIMER_MATCH
  · rintro k _ _ _ g hMatch rfl rfl rfl hDue
    refine doneIf_completes hs g ?_
    rw [timerMatch, run_read, hMatch, run_onlyIf_true, timerTick, run_read, hMatch]
    exact congrArg (fun a => Act.run a s) (if_neg hDue)
  -- TM_CMD
  · rintro w k u g htakes rfl
    refine doneIf_command_completes hs g htakes (a := timerCmd k) rfl ?_
    simp only [timerCmd] <;> rfl
  -- TM_CTRL
  · intro w k v g hstores
    exact doneIf_stores_completes hs g hstores

end Sys2Proof.Machine
end

section

/-! ## Resets, boot and watchdogs -/

namespace Sys2Proof.Machine
open Sys2Proof

/-- The fields of a word of RS_REQ. -/
theorem resetWord_fields {reach target : Nat} (hold : Bool) (hreach : reach < 8) (htarget : target < 32) :
    fld (resetWord reach target hold).toNat 2 0 = reach ∧ fld (resetWord reach target hold).toNat 12 8 = target ∧
      bit? (resetWord reach target hold).toNat 16 = hold := by
  have hword : (resetWord reach target hold).toNat = reach + target * 2 ^ 8 + b2n hold * 2 ^ 16 := by
    rw [resetWord, BitVec.toNat_ofNat]
    cases hold <;> simp only [b2n, if_true, Bool.false_eq_true, if_false] <;> omega
  rw [hword]
  cases hold <;> simp only [fld, bit?, b2n, if_true, Bool.false_eq_true, if_false, beq_iff_eq, beq_eq_false_iff_ne] <;> omega

/-- A reset request of a reach that does not take the processors with it acts at once, one that does acts a little later. -/
theorem run_resetRequest {s : State} {reach target : Nat} (hold : Bool) (hreach : reach < 8) (htarget : target < 32) :
    (resetRequest (resetWord reach target hold).toNat).run s =
      (if 2 ≤ reach then askReset ⟨8, reach, target, if hold then none else some (s.now + 1000), hold⟩
        else assertSrc ⟨8, reach, target, if hold then none else some (s.now + 1000), hold⟩).run s := by
  obtain ⟨hr, ht, hh⟩ := resetWord_fields hold hreach htarget
  rw [resetRequest, run_read]
  simp only [hr, ht, hh]

/-- Settles O56: each command takes, from the ready state, the branch of its row that the conditions of its clause name. -/
theorem resetsComplete : Obligations.ResetsComplete := by
  intro s₀ s t hs
  refine ⟨?_, ?_, ?_, ?_, ?_, ?_, ?_, ?_, ?_, ?_, ?_, ?_, ?_, ?_, ?_, ?_, ?_, ?_, ?_, ?_, ?_, ?_,
      ?_, ?_, ?_, ?_, ?_, ?_, ?_, ?_, ?_, ?_, ?_⟩
  -- VBAT_POR
  · intro mv tied hLow
    refine done_completes hs ?_
    rw [if_pos hLow, vbatLow, run_read]
  · intro mv tied hHigh hPower
    refine done_completes hs ?_
    rw [if_neg hHigh, vbatHigh, run_read, hPower]
    rfl
  -- RAILS_GOOD
  · intro pins mv g hPower
    refine doneIf_completes hs g ?_
    simp only [railsGood, run_read, hPower, run_onlyIf_true]
  -- BROWN_OUT
  · intro mv g hRailsFall
    refine doneIf_completes hs g ?_
    simp only [brownOut, run_read, hRailsFall, run_onlyIf_true] <;> rfl
  -- RESET_N_ASSERT
  · intro pins held g hHeld
    refine doneIf_completes hs g ?_
    simp only [resetPin, hHeld, if_true, if_false]
  -- RESET_N_RELEASE
  · intro pins held g hHeld
    refine doneIf_completes hs g ?_
    simp only [resetPin, hHeld, if_false, Bool.false_eq_true]
  -- PLL_LOCK
  · intro d g hMapped
    refine doneIf_completes hs g ?_
    simp only [pllLock, run_read, hMapped, run_onlyIf_true]
  -- CLOCK_GOOD
  · intro d pins g
    refine doneIf_completes hs g ?_
    simp only [clockGood, run_read]
  -- DRAM_TRAINED
  · intro pins cap a b g hCkGood
    refine doneIf_completes hs g ?_
    simp only [dramTrained, run_read, hCkGood, run_onlyIf_true] <;> rfl
  -- BOOT_IMAGE_VERIFIED
  · intro bank g hStage hFlashBoot hBtStage hMayBoot
    have hBank : ¬ 2 ≤ bank := Nat.not_le.mpr (of_decide_eq_true g)
    refine doneIf_completes hs g ?_
    simp [bootVerified, hStage, hFlashBoot, hBtStage, hMayBoot, hBank] <;> rfl
  · intro bank g hStage hFlashBoot hBtStage
    refine doneIf_completes hs g ?_
    simp only [bootVerified, run_read, hStage, hFlashBoot, hBtStage, ne_eq, not_true_eq_false,
        false_or, if_false, Bool.false_eq_true]
  -- BOOT_FAILED
  · intro hBtStage
    refine done_completes hs ?_
    simp only [bootFailed, run_read, hBtStage, run_onlyIf_true]
  -- BT_WRITE
  · rintro w n u off g htakes rfl rfl
    refine doneIf_command_completes hs g htakes (a := btWrite n.toNat) rfl ?_
    simp only [btWrite, run_read]
  -- BT_DONE
  · intro w len g htakes
    refine doneIf_command_completes hs g htakes (a := btDone len.toNat) rfl ?_
    simp only [btDone]
  -- BOOT_IMAGE_REFUSED
  · intro hBtStage
    refine done_completes hs ?_
    simp only [bootRefused, run_read, hBtStage, run_onlyIf_true]
  -- CLOCK_WINDOW
  · intro meas
    refine done_completes hs ?_
    simp only [clockWindow]
  -- SM_WATCHDOG_EXPIRY
  · intro last hBtStage
    refine done_completes hs ?_
    simp only [smWatchdog, run_read, hBtStage, run_onlyIf_true]
  -- SM_LOCKUP
  · intro cycles hStage
    refine done_completes hs ?_
    simp only [smLockup, run_read, hStage, run_onlyIf_true]
  -- AC_WATCHDOG_EXPIRY
  · intro c g hWdExpired
    refine doneIf_completes hs g ?_
    simp only [acWatchdog, run_read, hWdExpired, run_onlyIf_true]
  -- AC_LOCKUP
  · intro c cycles g hAcState
    refine doneIf_completes hs g ?_
    simp only [acLockup, run_read, hAcState, run_onlyIf_true]
  -- AC_WD_KICK
  · rintro w c u g htakes rfl
    refine doneIf_command_completes hs g htakes (a := wdKick c) rfl ?_
    simp only [wdKick, run_read]
  -- LEGACY_RESET
  · intro w g htakes
    refine doneIf_command_completes hs g htakes (a := legacyReset) rfl ?_
    simp only [legacyReset]
  -- RS_REQ_CORE
  · intro w c hold g htakes
    rw [Bool.and_eq_true, decide_eq_true_eq] at g
    exact doneIf_command_completes hs (by simpa using g) htakes (a := resetRequest _) rfl (run_resetRequest hold (by omega) g.2)
  -- RS_REQ_BLOCK
  · intro w blk hold g htakes
    rw [Bool.and_eq_true, decide_eq_true_eq] at g
    exact doneIf_command_completes hs (by simpa using g) htakes (a := resetRequest _) rfl (run_resetRequest hold (by omega) g.2)
  -- RS_REQ_SYSTEM
  · intro w g htakes
    exact doneIf_command_completes hs g htakes (a := resetRequest _) rfl (run_resetRequest false (by omega) (by omega))
  -- RS_REQ_CHIP
  · intro w g htakes
    exact doneIf_command_completes hs g htakes (a := resetRequest _) rfl (run_resetRequest false (by omega) (by omega))
  -- RS_REQ_BACKUP
  · intro w g htakes
    exact doneIf_command_completes hs g htakes (a := resetRequest _) rfl (run_resetRequest false (by omega) (by omega))
  -- RS_RELEASE
  · intro w reach target g htakes
    have hRange := g
    simp only [Bool.and_eq_true, decide_eq_true_eq] at hRange
    obtain ⟨⟨-, hReach⟩, hTarget⟩ := hRange
    obtain ⟨hr, ht, -⟩ := resetWord_fields false hReach hTarget
    refine doneIf_command_completes hs g htakes (a := resetRelease _) rfl ?_
    rw [resetRelease, hr, ht]
  -- DEBUG_RESET_REQUEST
  · rintro hart active pins x g rfl hDebugOpen
    refine doneIf_completes hs g ?_
    simp only [debugReset, run_read, hDebugOpen, if_false]
  -- RESET_PULSE_END
  · intro pins g
    refine doneIf_completes hs g ?_
    simp only [pulseEnd, run_read] <;> rfl
  -- BLOCK_RESET_ASSERT
  · intro blk iso g hBlState
    refine doneIf_completes hs g ?_
    simp only [blockIsolated, run_read, hBlState, run_onlyIf_true]
  -- WRAPPER_OPEN
  · intro blk g hOpening
    refine doneIf_completes hs g ?_
    simp only [wrapperOpen, run_read, hOpening, run_onlyIf_true]
  -- CORE_RESET
  · intro c g hCoreHeld
    refine doneIf_completes hs g ?_
    simp only [run_read, hCoreHeld, run_onlyIf_true] <;> rfl

end Sys2Proof.Machine
end

section

/-! ## Power, backup and sensors -/

namespace Sys2Proof.Machine
open Sys2Proof

/-- Settles O57: each command takes, from the ready state, the branch of its row that the conditions of its clause name. -/
theorem powerComplete : Obligations.PowerComplete := by
  intro s₀ s t hs
  refine ⟨?_, ?_, ?_, ?_, ?_, ?_, ?_, ?_, ?_, ?_, ?_, ?_, ?_, ?_⟩
  -- DOZE_ENTRY
  · intro wfi hPwState
    refine done_completes hs ?_
    simp only [dozeEntry, run_read, hPwState, run_onlyIf_true]
  -- DOZE_EXIT
  · intro halt hPwState
    refine done_completes hs ?_
    simp only [dozeExit, run_read, hPwState, run_onlyIf_true]
  -- PFAIL_WARNING
  · intro mv hPwPfailThr
    refine done_completes hs ?_
    simp only [pfail, run_read, hPwPfailThr, run_onlyIf_true]
  -- MAINS_GOOD
  · intro mv held hPwPfailThr
    refine done_completes hs ?_
    simp only [mainsGood, run_read, hPwPfailThr, run_onlyIf_true]
  -- HOLD_AFTER_EXPIRY
  · rintro h rfl hPower
    refine done_completes hs ?_
    simp only [holdAfter, run_read, hPower, run_onlyIf_true]
  -- HOLD_EXIT
  · intro mv hPower
    refine done_completes hs ?_
    simp only [holdExit, run_read, hPower, run_onlyIf_true]
  -- PW_CMD
  · rintro w u g htakes rfl
    refine doneIf_command_completes hs g htakes (a := enterHold) rfl ?_
    simp only [enterHold, run_read]
  -- TAMPER_LATCH
  · rintro n held cfg g rfl hBkTamper
    refine doneIf_completes hs g ?_
    simp only [tamper, run_read, hBkTamper, run_onlyIf_true]
  -- BK_TAMPER_CLR
  · rintro w high u left g htakes rfl rfl
    refine doneIf_command_completes hs g htakes (a := tamperClear high) rfl ?_
    simp only [tamperClear, run_read]
  -- RTC_CMD_SET
  · rintro w u g htakes rfl
    refine doneIf_command_completes hs g htakes (a := rtcSet) rfl ?_
    simp only [rtcSet, run_read]
  -- RTC_CMD_INVALIDATE
  · rintro w u g htakes rfl hRtcValid
    refine doneIf_command_completes hs g htakes (a := rtcInvalid) rfl ?_
    simp only [rtcInvalid, run_read, hRtcValid, run_onlyIf_true]
  -- RTC_AUTO_SET
  · intro hRtcAuto
    refine done_completes hs ?_
    simp only [rtcAuto, run_read, hRtcAuto, run_onlyIf_true]
  -- CRYSTAL_FAIL
  · intro hLatched
    refine done_completes hs ?_
    simp only [crystalFail, run_read, hLatched, run_onlyIf_true]
  -- THERMAL_SAMPLE
  · rintro temp warn trip was hot rfl rfl rfl rfl
    refine done_completes hs ?_
    simp only [thermal, run_read]

end Sys2Proof.Machine
end

section

/-! ## Device update -/

namespace Sys2Proof.Machine
open Sys2Proof

/-- Settles O58: each command takes, from the ready state, the branch of its row that the conditions of its clause name. -/
theorem updatesComplete : Obligations.UpdatesComplete := by
  intro s₀ s t hs
  refine ⟨?_, ?_, ?_, ?_, ?_, ?_, ?_, ?_⟩
  -- UP_WRITE
  · rintro w n u off g htakes rfl rfl
    refine doneIf_command_completes hs g htakes (a := upWrite n.toNat) rfl ?_
    simp only [upWrite, run_read]
  -- UP_CMD_VERIFY
  · rintro w u g htakes rfl hUpState hJobs
    refine doneIf_command_completes hs g htakes (a := upVerify) rfl ?_
    simp only [upVerify, run_read, postJob, hUpState, hJobs, if_true]
  -- UP_VERIFY_DONE
  · rintro flashOk o st good hUpState rfl rfl rfl
    refine done_completes hs ?_
    simp only [upVerifyDone, run_read, hUpState, ne_eq, if_false]
  -- UP_CMD_ARM
  · rintro w u kind g htakes rfl rfl hUpState hArmFault hUpAsn
    refine doneIf_command_completes hs g htakes (a := upArm) rfl ?_
    simp only [upArm, run_read, hUpState, hArmFault, hUpAsn, ne_eq, if_false, Bool.false_eq_true]
  -- UP_CMD_DISARM
  · rintro w u g htakes rfl hUpState
    refine doneIf_command_completes hs g htakes (a := upDisarm) rfl ?_
    simp only [upDisarm, run_read, hUpState, ne_eq, if_false]
  -- UP_CMD_DISCARD
  · rintro w u g htakes rfl hUpState
    refine doneIf_command_completes hs g htakes (a := upDiscard) rfl ?_
    simp only [upDiscard, run_read, hUpState, if_true]
  -- UP_CMD_CONFIRM
  · rintro w u g htakes rfl hUpRunState
    refine doneIf_command_completes hs g htakes (a := upConfirm) rfl ?_
    simp only [upConfirm, run_read, hUpRunState, ne_eq, if_false] <;> rfl
  -- UP_ACTIVATION
  · intro rf bh a hUp hUpState hArmFault
    refine done_completes hs ?_
    simp only [upActivation, run_read, hUp, hUpState, hArmFault, ne_eq, if_false]

end Sys2Proof.Machine
end

section

/-! ## The ledger, violations, dumps and fuses -/

namespace Sys2Proof.Machine
open Sys2Proof

/-- Settles O59: each command takes, from the ready state, the branch of its row that the conditions of its clause name. -/
theorem faultsComplete : Obligations.FaultsComplete := by
  intro s₀ s t hs
  refine ⟨?_, ?_, ?_, ?_, ?_, ?_, ?_, ?_, ?_, ?_, ?_, ?_, ?_, ?_, ?_⟩
  -- LEDGER_AUDIT
  · intro upset g hAuditing
    refine doneIf_completes hs g ?_
    simp only [ledgerAudit, run_read, hAuditing, run_onlyIf_true]
  -- ACCESS_VIOLATION
  · intro kind access addr g
    refine doneIf_completes hs g ?_
    rw [violate, run_read, if_pos rfl]
  · intro m kind access addr g hM hFrozen
    refine doneIf_completes hs g ?_
    simp only [violate, run_read, hM, hFrozen, if_false, Bool.false_eq_true]
  -- VR_WORD_READ
  · intro m v g hreads
    refine doneIf_completes hs g ((run_apRead m _ _ s hreads).trans ?_)
    rfl
  -- VR_RELEASE
  · rintro w v u m g htakes rfl rfl
    refine doneIf_command_completes hs g htakes (a := vrRelease v.toNat resumeAll) rfl ?_
    simp only [vrRelease, run_read]
  -- FATAL_ERROR
  · intro cause detail g hDump
    refine doneIf_completes hs g ?_
    simp only [fatalError, run_read, hDump]
  · intro cause detail d g hDump
    refine doneIf_completes hs g ?_
    simp only [fatalError, run_read, hDump]
  -- FT_DECLARE
  · rintro w v u g htakes rfl hDump
    refine doneIf_command_completes hs g htakes (a := fatalError 6 v.toNat) rfl ?_
    simp only [fatalError, run_read, hDump]
  -- DUMP_COMPLETE
  · rintro abandoned harts sram d off g hDump rfl
    refine doneIf_completes hs g ?_
    simp only [dumpComplete, run_read, hDump]
  -- FD_ERASE
  · intro w e g htakes
    refine doneIf_command_completes hs g htakes (a := fdErase e.toNat) rfl ?_
    simp only [fdErase]
  -- PE_EN
  · intro w k v g hstores
    exact doneIf_stores_completes hs g hstores
  -- PERTURBATION_APPLY
  · intro point inst g
    refine doneIf_completes hs g ?_
    simp only [perturbationApply, run_read]
  -- FX_FUSE_BURN
  · rintro w u e c g htakes rfl rfl rfl
    refine doneIf_command_completes hs g htakes (a := fuseBurn) rfl ?_
    simp only [fuseBurn, run_read]
  -- FX_RAW_READ
  · intro w g htakes
    refine doneIf_command_completes hs g htakes (a := rawRead) rfl ?_
    simp only [rawRead]
  -- FX_RAW_WRITE
  · rintro w u g htakes rfl
    refine doneIf_command_completes hs g htakes (a := rawWrite) rfl ?_
    simp only [rawWrite, run_read]

end Sys2Proof.Machine
end

section

/-! ## Debug and the TAP -/

namespace Sys2Proof.Machine
open Sys2Proof

/-- Settles O60: each command takes, from the ready state, the branch of its row that the conditions of its clause name. -/
theorem debugComplete : Obligations.DebugComplete := by
  intro s₀ s t hs
  refine ⟨?_, ?_, ?_, ?_, ?_, ?_, ?_, ?_, ?_, ?_, ?_, ?_, ?_, ?_⟩
  -- DEBUG_HALT
  · intro hart g hDebugOpen
    refine doneIf_completes hs g ?_
    simp only [haltHart, run_read, hDebugOpen, run_onlyIf_true]
  -- DEBUG_RESUME
  · intro hart g hDebugOpen
    refine doneIf_completes hs g ?_
    simp only [resumeHart, run_read, hDebugOpen, run_onlyIf_true]
  -- DEBUG_SYSTEM_BUS_ACCESS
  · intro addr v r op c hOpen hAligned hLow hHigh hDecode hkeeps
    refine done_completes hs (Eq.trans ?_ (run_apWrite_keeps 18 none r c op v s hkeeps))
    simp [debugAccess, hOpen, hAligned, hLow, hHigh, hDecode, apAccess]
  · intro addr v r q hOpen hAligned hLow hHigh hDecode hreads
    refine done_completes hs (Eq.trans ?_ (run_apRead 18 r q s hreads))
    simp [debugAccess, hOpen, hAligned, hLow, hHigh, hDecode, apAccess]
  · intro addr v hOpen hAligned hLow hHigh hFrozen hUp
    have hOutside : ¬ 0x4000000000 ≤ addr := by omega
    refine done_completes hs ?_
    simp [debugAccess, hOpen, hAligned, hOutside, busAccess, hLow, hHigh, hFrozen, hUp]
  · intro addr v hOpen hAligned hLow hHigh hFrozen hUp
    have hOutside : ¬ 0x4000000000 ≤ addr := by omega
    refine done_completes hs ?_
    simp [debugAccess, hOpen, hAligned, hOutside, busAccess, hLow, hHigh, hFrozen, hUp]
  -- TAP_IDCODE
  · refine done_completes hs ?_
    simp only [tapLoad, run_read, if_true]
  -- TAP_SAMPLE_PRELOAD
  · intro cells
    refine done_completes hs ?_
    simp only [tapPreload]
  -- TAP_EXTEST
  · refine done_completes hs ?_
    simp only [tapLoad, run_read] <;> rfl
  -- TAP_HIGHZ
  · refine done_completes hs ?_
    simp only [tapLoad, run_read] <;> rfl
  -- TAP_CLAMP
  · refine done_completes hs ?_
    simp only [tapLoad, run_read] <;> rfl
  -- TAP_DTMCS
  · refine done_completes hs ?_
    simp only [tapLoad, run_read] <;> rfl
  -- TAP_DMI
  · refine done_completes hs ?_
    simp only [tapLoad, run_read] <;> rfl
  -- TAP_BYPASS
  · refine done_completes hs ?_
    simp only [tapLoad, run_read] <;> rfl

end Sys2Proof.Machine
end
